-- ==== Sys2Proof/Word.lean ====
section
/-! DEFINITION. The word types of the block: every register is 16 bits, a byte is 8 bits
(00_scope.md R7, R8). -/

namespace Sys2Proof

/-- One byte (R8). -/
abbrev Byte := BitVec 8

/-- One 16-bit register value, offset or selector (R7). -/
abbrev Word := BitVec 16

end Sys2Proof
end

