-- ==== Sys2Proof/Config.lean ====
section
/-! DEFINITION. What an instance of the block fixes at construction (00_scope.md R6), and the free
values: the values the spec leaves open, as constants without a body. -/

namespace Sys2Proof

/-- The `MODEL` parameter (R4, R6; 92 D1). -/
inductive Model where
  | m8086 | m8088 | m80186 | m80188 | m80286
deriving DecidableEq, Repr

/-- The three model classes of R6. -/
inductive CpuClass where
  | c86 | c186 | c286
deriving DecidableEq, Repr

/-- `CLASS` is derived from `MODEL` (R6; 92 D1). -/
def Model.cpuClass : Model → CpuClass
  | .m8086 => .c86
  | .m8088 => .c86
  | .m80186 => .c186
  | .m80188 => .c186
  | .m80286 => .c286

/-- `QUEUE_DEPTH` is derived from `MODEL` (R6; 92 D2). -/
def Model.queueDepth : Model → Nat
  | .m8086 => 6
  | .m8088 => 4
  | .m80186 => 6
  | .m80188 => 4
  | .m80286 => 6

/-- `FETCH_COHERENCE` (R6, R141; 92 D4). -/
inductive FetchCoherence where
  | coherent | stale
deriving DecidableEq, Repr

/-- `A20_OFF_MASK_286` (R6, R102; 92 D3): 0x0FFFFF or 0xEFFFFF. -/
inductive A20OffMask where
  | low20 | clearBit20
deriving DecidableEq, Repr

/-- `PS_HIGH_8086` (R6, R27; 92 D13): 0x0000 or 0xF000. -/
inductive PsHigh where
  | zeros | ones
deriving DecidableEq, Repr

/-- `NULL_SEL_RULE` (R6, R122; 92 D19). -/
inductive NullSelRule where
  | source | intel
deriving DecidableEq, Repr

/-- `IRET_NT_SOURCE` (R6, R951; 92 D35). -/
inductive IretNtSource where
  | popped | current
deriving DecidableEq, Repr

/-- `TRAP_PRIORITY_286` (R6, R902; 92 D55). -/
inductive TrapPriority where
  | trapFirst | intrFirst
deriving DecidableEq, Repr

/-- `COPROCESSOR`: `absent` is the only value the spec defines (R6; 92 D28). -/
inductive Coprocessor where
  | absent
deriving DecidableEq, Repr

/-- The parameters of R6 that are plain data. The host oracles (`IO`, `PIC`, `DMA`,
`INT_INTERCEPT`) are inputs held in `State`; `MEMMAP` is `State.blocks`, since the host installs
blocks (R100, R984); `CYCLES` is timing (R1040). -/
structure Config where
  model           : Model
  prefetchEnabled : Bool
  coherence       : FetchCoherence
  blockShift      : Nat
  a20OffMask      : A20OffMask
  psHigh          : PsHigh
  nullSel         : NullSelRule
  iretNt          : IretNtSource
  trapPriority    : TrapPriority
  coprocessor     : Coprocessor
  cyclesPerSecond : Option Nat
deriving DecidableEq, Repr

/-- The class of the instance. -/
def Config.cpuClass (c : Config) : CpuClass := c.model.cpuClass

/-- Every parameter at its default of R6 for the given model. -/
def Config.ofModel (m : Model) : Config where
  model           := m
  prefetchEnabled := true
  coherence       := .coherent
  blockShift      := 12
  a20OffMask      := .low20
  psHigh          := .zeros
  nullSel         := .source
  iretNt          := .popped
  trapPriority    := .trapFirst
  coprocessor     := .absent
  cyclesPerSecond :=
    match m with
    | .m8088 => some 4772727
    | .m80286 => some 6000000
    | _ => none

/-- `BLOCK_SHIFT` is a positive number of at most 20 (R6). -/
def Config.wf (c : Config) : Bool := 0 < c.blockShift && c.blockShift ≤ 20

/-- The instance `State.reset` describes. DESIGN CHOICE (notes/assumptions/1.md): R6 gives `MODEL`
no default; the 80286 is the in-scope model with the most instructions. -/
def Config.default : Config := Config.ofModel .m80286

/-- The six arithmetic flags (R27). -/
inductive ArithFlag where
  | cf | pf | af | zf | sf | of
deriving DecidableEq, Repr

/-- FREE VALUE: the value of a flag an instruction leaves undefined (92 D32: "a draw per
execution"), by draw number and flag. -/
opaque Config.undefinedFlag (draw : Nat) (f : ArithFlag) : Bool

/-- FREE VALUE: what the I/O oracle answers for a port of a width in bytes when the host has queued
no answer (R112; 92 D7: the oracle is unconstrained). -/
opaque Config.ioAnswer (draw : Nat) (port : Word) (width : Nat) : Word

/-- FREE VALUE: what a byte read of a `device` block answers (R101: its values are unconstrained). -/
opaque Config.deviceByte (draw : Nat) (addr : Nat) : Byte

/-- FREE VALUE: what a word read of a `device` block answers (R101, R105: one vtable call). -/
opaque Config.deviceWord (draw : Nat) (addr : Nat) : Word

/-- FREE VALUE: an instruction byte fetched from a `device` block (R110; 92 D60). -/
opaque Config.deviceFetch (draw : Nat) (addr : Nat) : Byte

/-- FREE VALUE: with the queue enabled, which bytes a fetch reads from memory, as distances from IP in the
order of the reads: how many and in what order is open (R110, R151; 92 D60). -/
opaque Config.fetchReads (draw : Nat) : List Nat

/-- FREE VALUE: under `FETCH_COHERENCE = stale`, whether the byte consumed is the queue's old byte
(true) or memory's new one (R141; 92 D4). -/
opaque Config.staleKeepsOld (draw : Nat) (k : Nat) : Bool

/-- FREE VALUE: under `FETCH_COHERENCE = stale`, whether the queue has taken memory's byte in place of its old
one before the next instruction stores (R141; 92 D4; notes/assumptions/12.md). -/
opaque Config.staleRereads (draw : Nat) (k : Nat) : Bool

end Sys2Proof
end

