-- ==== Sys2Proof/Syntax.lean ====
section
/-! DEFINITION. The whole instruction set as syntax: one constructor of `Instr` for each row of
spec/opcode_table.json (the 62 `#UD` rows share one constructor, the 37 `(refused)` rows another, and
the rows 80 and 82 of an operation a third, whose Bool tells them apart; XCHG AX,r16 has one
constructor for each register), and the operand types. A
prefix byte is a constructor of its own (46 R762, R763). -/

namespace Sys2Proof

/-- The eight word registers (10_state.md R20). -/
inductive Reg16 where
  | ax | cx | dx | bx | sp | bp | si | di
deriving DecidableEq, Repr

/-- The eight byte registers (R22). -/
inductive Reg8 where
  | al | cl | dl | bl | ah | ch | dh | bh
deriving DecidableEq, Repr

/-- The four segment registers (R41). -/
inductive SegReg where
  | es | cs | ss | ds
deriving DecidableEq, Repr

/-- The register part of an effective address, by the r/m field (30_encoding.md R220). -/
inductive AddrBase where
  | bxsi | bxdi | bpsi | bpdi | si | di | bp | bx
deriving DecidableEq, Repr

/-- A ModRM memory operand, by its mod field (R220): `ind` is mod 0, `direct` is mod 0 with
r/m 6, `disp8` is mod 1 and `disp16` is mod 2. -/
inductive MemRef where
  | ind    (b : AddrBase)
  | direct (d : Word)
  | disp8  (b : AddrBase) (d : Byte)
  | disp16 (b : AddrBase) (d : Word)
deriving DecidableEq, Repr

/-- The E operand of R219 and R227: a register (mod 3) or a memory operand. -/
inductive RM (ρ : Type) where
  | reg (r : ρ)
  | mem (m : MemRef)
deriving DecidableEq, Repr

/-- The bytes of an encoding that is no instruction of its class (R270, R271, R273): a one-byte
opcode, an opcode with its ModRM, or either of them after the 0F escape. `Instr` has one
constructor for all of those that raise #UD and one for all of those that are refused. -/
inductive OpForm where
  | byte     (op : Byte)
  | modrm    (op : Byte) (k : BitVec 3) (e : RM (BitVec 3))
  | ext      (op : Byte)
  | extModrm (op : Byte) (k : BitVec 3) (e : RM (BitVec 3))
deriving DecidableEq, Repr

/-- The two kinds of repeat prefix (44_string.md R601): F3 and F2. -/
inductive RepKind where
  | rep | repne
deriving DecidableEq, Repr

/-- Every instruction of spec/opcode_table.json. Operands are in the order of the mnemonic, the
E operand first where the form has a G operand too; an immediate `ib` is not yet extended. The
constructors with operands come first: Lean's compiler can number at most 244 of them (which is why
XCHG AX,r16 is seven constructors without an operand). -/
inductive Instr where
  /-- `ADD_Eb_Gb` (R401). -/
  | addEbGb (e : RM Reg8) (g : Reg8)
  /-- `ADD_Ew_Gw` (R401). -/
  | addEwGw (e : RM Reg16) (g : Reg16)
  /-- `ADD_Gb_Eb` (R401). -/
  | addGbEb (e : RM Reg8) (g : Reg8)
  /-- `ADD_Gw_Ew` (R401). -/
  | addGwEw (e : RM Reg16) (g : Reg16)
  /-- `ADD_AL_Ib` (R401). -/
  | addAlIb (ib : Byte)
  /-- `ADD_AX_Iw` (R401). -/
  | addAxIw (iw : Word)
  /-- `ADD_Eb_Ib` (`op82` tells opcode 82 from 80; both execute alike) (R401). -/
  | addEbIb (op82 : Bool) (e : RM Reg8) (ib : Byte)
  /-- `ADD_Ew_Iw` (R401). -/
  | addEwIw (e : RM Reg16) (iw : Word)
  /-- `ADD_Ew_Ibs` (R401). -/
  | addEwIbs (e : RM Reg16) (ib : Byte)
  /-- `OR_Eb_Gb` (R501). -/
  | orEbGb (e : RM Reg8) (g : Reg8)
  /-- `OR_Ew_Gw` (R501). -/
  | orEwGw (e : RM Reg16) (g : Reg16)
  /-- `OR_Gb_Eb` (R501). -/
  | orGbEb (e : RM Reg8) (g : Reg8)
  /-- `OR_Gw_Ew` (R501). -/
  | orGwEw (e : RM Reg16) (g : Reg16)
  /-- `OR_AL_Ib` (R501). -/
  | orAlIb (ib : Byte)
  /-- `OR_AX_Iw` (R501). -/
  | orAxIw (iw : Word)
  /-- `OR_Eb_Ib` (`op82` tells opcode 82 from 80; both execute alike) (R501). -/
  | orEbIb (op82 : Bool) (e : RM Reg8) (ib : Byte)
  /-- `OR_Ew_Iw` (R501). -/
  | orEwIw (e : RM Reg16) (iw : Word)
  /-- `OR_Ew_Ibs` (R501). -/
  | orEwIbs (e : RM Reg16) (ib : Byte)
  /-- `ADC_Eb_Gb` (R402). -/
  | adcEbGb (e : RM Reg8) (g : Reg8)
  /-- `ADC_Ew_Gw` (R402). -/
  | adcEwGw (e : RM Reg16) (g : Reg16)
  /-- `ADC_Gb_Eb` (R402). -/
  | adcGbEb (e : RM Reg8) (g : Reg8)
  /-- `ADC_Gw_Ew` (R402). -/
  | adcGwEw (e : RM Reg16) (g : Reg16)
  /-- `ADC_AL_Ib` (R402). -/
  | adcAlIb (ib : Byte)
  /-- `ADC_AX_Iw` (R402). -/
  | adcAxIw (iw : Word)
  /-- `ADC_Eb_Ib` (`op82` tells opcode 82 from 80; both execute alike) (R402). -/
  | adcEbIb (op82 : Bool) (e : RM Reg8) (ib : Byte)
  /-- `ADC_Ew_Iw` (R402). -/
  | adcEwIw (e : RM Reg16) (iw : Word)
  /-- `ADC_Ew_Ibs` (R402). -/
  | adcEwIbs (e : RM Reg16) (ib : Byte)
  /-- `SBB_Eb_Gb` (R404). -/
  | sbbEbGb (e : RM Reg8) (g : Reg8)
  /-- `SBB_Ew_Gw` (R404). -/
  | sbbEwGw (e : RM Reg16) (g : Reg16)
  /-- `SBB_Gb_Eb` (R404). -/
  | sbbGbEb (e : RM Reg8) (g : Reg8)
  /-- `SBB_Gw_Ew` (R404). -/
  | sbbGwEw (e : RM Reg16) (g : Reg16)
  /-- `SBB_AL_Ib` (R404). -/
  | sbbAlIb (ib : Byte)
  /-- `SBB_AX_Iw` (R404). -/
  | sbbAxIw (iw : Word)
  /-- `SBB_Eb_Ib` (`op82` tells opcode 82 from 80; both execute alike) (R404). -/
  | sbbEbIb (op82 : Bool) (e : RM Reg8) (ib : Byte)
  /-- `SBB_Ew_Iw` (R404). -/
  | sbbEwIw (e : RM Reg16) (iw : Word)
  /-- `SBB_Ew_Ibs` (R404). -/
  | sbbEwIbs (e : RM Reg16) (ib : Byte)
  /-- `AND_Eb_Gb` (R500). -/
  | andEbGb (e : RM Reg8) (g : Reg8)
  /-- `AND_Ew_Gw` (R500). -/
  | andEwGw (e : RM Reg16) (g : Reg16)
  /-- `AND_Gb_Eb` (R500). -/
  | andGbEb (e : RM Reg8) (g : Reg8)
  /-- `AND_Gw_Ew` (R500). -/
  | andGwEw (e : RM Reg16) (g : Reg16)
  /-- `AND_AL_Ib` (R500). -/
  | andAlIb (ib : Byte)
  /-- `AND_AX_Iw` (R500). -/
  | andAxIw (iw : Word)
  /-- `AND_Eb_Ib` (`op82` tells opcode 82 from 80; both execute alike) (R500). -/
  | andEbIb (op82 : Bool) (e : RM Reg8) (ib : Byte)
  /-- `AND_Ew_Iw` (R500). -/
  | andEwIw (e : RM Reg16) (iw : Word)
  /-- `AND_Ew_Ibs` (R500). -/
  | andEwIbs (e : RM Reg16) (ib : Byte)
  /-- `SUB_Eb_Gb` (R403). -/
  | subEbGb (e : RM Reg8) (g : Reg8)
  /-- `SUB_Ew_Gw` (R403). -/
  | subEwGw (e : RM Reg16) (g : Reg16)
  /-- `SUB_Gb_Eb` (R403). -/
  | subGbEb (e : RM Reg8) (g : Reg8)
  /-- `SUB_Gw_Ew` (R403). -/
  | subGwEw (e : RM Reg16) (g : Reg16)
  /-- `SUB_AL_Ib` (R403). -/
  | subAlIb (ib : Byte)
  /-- `SUB_AX_Iw` (R403). -/
  | subAxIw (iw : Word)
  /-- `SUB_Eb_Ib` (`op82` tells opcode 82 from 80; both execute alike) (R403). -/
  | subEbIb (op82 : Bool) (e : RM Reg8) (ib : Byte)
  /-- `SUB_Ew_Iw` (R403). -/
  | subEwIw (e : RM Reg16) (iw : Word)
  /-- `SUB_Ew_Ibs` (R403). -/
  | subEwIbs (e : RM Reg16) (ib : Byte)
  /-- `XOR_Eb_Gb` (R502). -/
  | xorEbGb (e : RM Reg8) (g : Reg8)
  /-- `XOR_Ew_Gw` (R502). -/
  | xorEwGw (e : RM Reg16) (g : Reg16)
  /-- `XOR_Gb_Eb` (R502). -/
  | xorGbEb (e : RM Reg8) (g : Reg8)
  /-- `XOR_Gw_Ew` (R502). -/
  | xorGwEw (e : RM Reg16) (g : Reg16)
  /-- `XOR_AL_Ib` (R502). -/
  | xorAlIb (ib : Byte)
  /-- `XOR_AX_Iw` (R502). -/
  | xorAxIw (iw : Word)
  /-- `XOR_Eb_Ib` (`op82` tells opcode 82 from 80; both execute alike) (R502). -/
  | xorEbIb (op82 : Bool) (e : RM Reg8) (ib : Byte)
  /-- `XOR_Ew_Iw` (R502). -/
  | xorEwIw (e : RM Reg16) (iw : Word)
  /-- `XOR_Ew_Ibs` (R502). -/
  | xorEwIbs (e : RM Reg16) (ib : Byte)
  /-- `CMP_Eb_Gb` (R405). -/
  | cmpEbGb (e : RM Reg8) (g : Reg8)
  /-- `CMP_Ew_Gw` (R405). -/
  | cmpEwGw (e : RM Reg16) (g : Reg16)
  /-- `CMP_Gb_Eb` (R405). -/
  | cmpGbEb (e : RM Reg8) (g : Reg8)
  /-- `CMP_Gw_Ew` (R405). -/
  | cmpGwEw (e : RM Reg16) (g : Reg16)
  /-- `CMP_AL_Ib` (R405). -/
  | cmpAlIb (ib : Byte)
  /-- `CMP_AX_Iw` (R405). -/
  | cmpAxIw (iw : Word)
  /-- `CMP_Eb_Ib` (`op82` tells opcode 82 from 80; both execute alike) (R405). -/
  | cmpEbIb (op82 : Bool) (e : RM Reg8) (ib : Byte)
  /-- `CMP_Ew_Iw` (R405). -/
  | cmpEwIw (e : RM Reg16) (iw : Word)
  /-- `CMP_Ew_Ibs` (R405). -/
  | cmpEwIbs (e : RM Reg16) (ib : Byte)
  /-- `INC_r16` (R407). -/
  | incR16 (r : Reg16)
  /-- `DEC_r16` (R409). -/
  | decR16 (r : Reg16)
  /-- `PUSH_r16` (R331). -/
  | pushR16 (r : Reg16)
  /-- `POP_r16` (R334). -/
  | popR16 (r : Reg16)
  /-- `BOUND_Gw_Ma` (R712). -/
  | boundGwMa (m : MemRef) (g : Reg16)
  /-- `ARPL_Ew_Gw` (R816). -/
  | arplEwGw (e : RM Reg16) (g : Reg16)
  /-- `PUSH_Iw` (R339). -/
  | pushIw (iw : Word)
  /-- `IMUL_Gw_Ew_Iw` (R413). -/
  | imulGwEwIw (e : RM Reg16) (g : Reg16) (iw : Word)
  /-- `PUSH_Ibs` (R339). -/
  | pushIbs (ib : Byte)
  /-- `IMUL_Gw_Ew_Ibs` (R413). -/
  | imulGwEwIbs (e : RM Reg16) (g : Reg16) (ib : Byte)
  /-- `JO_Jb` (R651). -/
  | joJb (ib : Byte)
  /-- `JNO_Jb` (R652). -/
  | jnoJb (ib : Byte)
  /-- `JB_Jb` (R653). -/
  | jbJb (ib : Byte)
  /-- `JNB_Jb` (R654). -/
  | jnbJb (ib : Byte)
  /-- `JZ_Jb` (R655). -/
  | jzJb (ib : Byte)
  /-- `JNZ_Jb` (R656). -/
  | jnzJb (ib : Byte)
  /-- `JBE_Jb` (R657). -/
  | jbeJb (ib : Byte)
  /-- `JA_Jb` (R658). -/
  | jaJb (ib : Byte)
  /-- `JS_Jb` (R659). -/
  | jsJb (ib : Byte)
  /-- `JNS_Jb` (R660). -/
  | jnsJb (ib : Byte)
  /-- `JP_Jb` (R661). -/
  | jpJb (ib : Byte)
  /-- `JNP_Jb` (R662). -/
  | jnpJb (ib : Byte)
  /-- `JL_Jb` (R663). -/
  | jlJb (ib : Byte)
  /-- `JGE_Jb` (R664). -/
  | jgeJb (ib : Byte)
  /-- `JLE_Jb` (R665). -/
  | jleJb (ib : Byte)
  /-- `JG_Jb` (R666). -/
  | jgJb (ib : Byte)
  /-- `JO_Jb__alias_of_70` (C86 opcode 60, which executes as 70) (R651, R242). -/
  | joJb60 (ib : Byte)
  /-- `JNO_Jb__alias_of_71` (C86 opcode 61, which executes as 71) (R652, R242). -/
  | jnoJb61 (ib : Byte)
  /-- `JB_Jb__alias_of_72` (C86 opcode 62, which executes as 72) (R653, R242). -/
  | jbJb62 (ib : Byte)
  /-- `JNB_Jb__alias_of_73` (C86 opcode 63, which executes as 73) (R654, R242). -/
  | jnbJb63 (ib : Byte)
  /-- `JZ_Jb__alias_of_74` (C86 opcode 64, which executes as 74) (R655, R242). -/
  | jzJb64 (ib : Byte)
  /-- `JNZ_Jb__alias_of_75` (C86 opcode 65, which executes as 75) (R656, R242). -/
  | jnzJb65 (ib : Byte)
  /-- `JBE_Jb__alias_of_76` (C86 opcode 66, which executes as 76) (R657, R242). -/
  | jbeJb66 (ib : Byte)
  /-- `JA_Jb__alias_of_77` (C86 opcode 67, which executes as 77) (R658, R242). -/
  | jaJb67 (ib : Byte)
  /-- `JS_Jb__alias_of_78` (C86 opcode 68, which executes as 78) (R659, R242). -/
  | jsJb68 (ib : Byte)
  /-- `JNS_Jb__alias_of_79` (C86 opcode 69, which executes as 79) (R660, R242). -/
  | jnsJb69 (ib : Byte)
  /-- `JP_Jb__alias_of_7A` (C86 opcode 6A, which executes as 7A) (R661, R242). -/
  | jpJb6A (ib : Byte)
  /-- `JNP_Jb__alias_of_7B` (C86 opcode 6B, which executes as 7B) (R662, R242). -/
  | jnpJb6B (ib : Byte)
  /-- `JL_Jb__alias_of_7C` (C86 opcode 6C, which executes as 7C) (R663, R242). -/
  | jlJb6C (ib : Byte)
  /-- `JGE_Jb__alias_of_7D` (C86 opcode 6D, which executes as 7D) (R664, R242). -/
  | jgeJb6D (ib : Byte)
  /-- `JLE_Jb__alias_of_7E` (C86 opcode 6E, which executes as 7E) (R665, R242). -/
  | jleJb6E (ib : Byte)
  /-- `JG_Jb__alias_of_7F` (C86 opcode 6F, which executes as 7F) (R666, R242). -/
  | jgJb6F (ib : Byte)
  /-- `TEST_Eb_Gb` (R503). -/
  | testEbGb (e : RM Reg8) (g : Reg8)
  /-- `TEST_Ew_Gw` (R503). -/
  | testEwGw (e : RM Reg16) (g : Reg16)
  /-- `XCHG_Eb_Gb` (R320). -/
  | xchgEbGb (e : RM Reg8) (g : Reg8)
  /-- `XCHG_Ew_Gw` (R320). -/
  | xchgEwGw (e : RM Reg16) (g : Reg16)
  /-- `MOV_Eb_Gb` (R300). -/
  | movEbGb (e : RM Reg8) (g : Reg8)
  /-- `MOV_Ew_Gw` (R300). -/
  | movEwGw (e : RM Reg16) (g : Reg16)
  /-- `MOV_Gb_Eb` (R301). -/
  | movGbEb (e : RM Reg8) (g : Reg8)
  /-- `MOV_Gw_Ew` (R301). -/
  | movGwEw (e : RM Reg16) (g : Reg16)
  /-- `MOV_Ew_Sw` (R306). -/
  | movEwSw (e : RM Reg16) (sr : SegReg)
  /-- `MOV_Ew_Sw__reg_4-7_alias_of_reg-4` (C86 reg 4-7, which execute as reg-4) (R306, R238). -/
  | movEwSwHigh (e : RM Reg16) (sr : SegReg)
  /-- `LEA_Gw_M` (R324). -/
  | leaGwM (m : MemRef) (g : Reg16)
  /-- `MOV_Sw_Ew` (R310). -/
  | movSwEw (e : RM Reg16) (sr : SegReg)
  /-- `MOV_CS_Ew` (R312). -/
  | movCsEw (e : RM Reg16)
  /-- `MOV_Sw_Ew__reg_4-7_alias_of_reg-4` (C86 reg 4-7, which execute as reg-4) (R310, R238). -/
  | movSwEwHigh (e : RM Reg16) (sr : SegReg)
  /-- `POP_Ew` (R337). -/
  | popEw (e : RM Reg16)
  /-- `CALL_Ap` (R675). -/
  | callAp (off : Word) (sel : Word)
  /-- `MOV_AL_Ob` (R304). -/
  | movAlOb (off : Word)
  /-- `MOV_AX_Ow` (R304). -/
  | movAxOw (off : Word)
  /-- `MOV_Ob_AL` (R305). -/
  | movObAl (off : Word)
  /-- `MOV_Ow_AX` (R305). -/
  | movOwAx (off : Word)
  /-- `TEST_AL_Ib` (R503). -/
  | testAlIb (ib : Byte)
  /-- `TEST_AX_Iw` (R503). -/
  | testAxIw (iw : Word)
  /-- `MOV_r8_Ib` (R302). -/
  | movR8Ib (r : Reg8) (ib : Byte)
  /-- `MOV_r16_Iw` (R302). -/
  | movR16Iw (r : Reg16) (iw : Word)
  /-- `ROL_Eb_Ib` (R511). -/
  | rolEbIb (e : RM Reg8) (ib : Byte)
  /-- `ROR_Eb_Ib` (R512). -/
  | rorEbIb (e : RM Reg8) (ib : Byte)
  /-- `RCL_Eb_Ib` (R513). -/
  | rclEbIb (e : RM Reg8) (ib : Byte)
  /-- `RCR_Eb_Ib` (R514). -/
  | rcrEbIb (e : RM Reg8) (ib : Byte)
  /-- `SHL_Eb_Ib` (R515). -/
  | shlEbIb (e : RM Reg8) (ib : Byte)
  /-- `SHR_Eb_Ib` (R516). -/
  | shrEbIb (e : RM Reg8) (ib : Byte)
  /-- `SAR_Eb_Ib` (R517). -/
  | sarEbIb (e : RM Reg8) (ib : Byte)
  /-- `ROL_Ew_Ib` (R511). -/
  | rolEwIb (e : RM Reg16) (ib : Byte)
  /-- `ROR_Ew_Ib` (R512). -/
  | rorEwIb (e : RM Reg16) (ib : Byte)
  /-- `RCL_Ew_Ib` (R513). -/
  | rclEwIb (e : RM Reg16) (ib : Byte)
  /-- `RCR_Ew_Ib` (R514). -/
  | rcrEwIb (e : RM Reg16) (ib : Byte)
  /-- `SHL_Ew_Ib` (R515). -/
  | shlEwIb (e : RM Reg16) (ib : Byte)
  /-- `SHR_Ew_Ib` (R516). -/
  | shrEwIb (e : RM Reg16) (ib : Byte)
  /-- `SAR_Ew_Ib` (R517). -/
  | sarEwIb (e : RM Reg16) (ib : Byte)
  /-- `ROL_Eb_1` (R511). -/
  | rolEb1 (e : RM Reg8)
  /-- `ROR_Eb_1` (R512). -/
  | rorEb1 (e : RM Reg8)
  /-- `RCL_Eb_1` (R513). -/
  | rclEb1 (e : RM Reg8)
  /-- `RCR_Eb_1` (R514). -/
  | rcrEb1 (e : RM Reg8)
  /-- `SHL_Eb_1` (R515). -/
  | shlEb1 (e : RM Reg8)
  /-- `SHR_Eb_1` (R516). -/
  | shrEb1 (e : RM Reg8)
  /-- `SAR_Eb_1` (R517). -/
  | sarEb1 (e : RM Reg8)
  /-- `ROL_Ew_1` (R511). -/
  | rolEw1 (e : RM Reg16)
  /-- `ROR_Ew_1` (R512). -/
  | rorEw1 (e : RM Reg16)
  /-- `RCL_Ew_1` (R513). -/
  | rclEw1 (e : RM Reg16)
  /-- `RCR_Ew_1` (R514). -/
  | rcrEw1 (e : RM Reg16)
  /-- `SHL_Ew_1` (R515). -/
  | shlEw1 (e : RM Reg16)
  /-- `SHR_Ew_1` (R516). -/
  | shrEw1 (e : RM Reg16)
  /-- `SAR_Ew_1` (R517). -/
  | sarEw1 (e : RM Reg16)
  /-- `ROL_Eb_CL` (R511). -/
  | rolEbCl (e : RM Reg8)
  /-- `ROR_Eb_CL` (R512). -/
  | rorEbCl (e : RM Reg8)
  /-- `RCL_Eb_CL` (R513). -/
  | rclEbCl (e : RM Reg8)
  /-- `RCR_Eb_CL` (R514). -/
  | rcrEbCl (e : RM Reg8)
  /-- `SHL_Eb_CL` (R515). -/
  | shlEbCl (e : RM Reg8)
  /-- `SHR_Eb_CL` (R516). -/
  | shrEbCl (e : RM Reg8)
  /-- `SAR_Eb_CL` (R517). -/
  | sarEbCl (e : RM Reg8)
  /-- `ROL_Ew_CL` (R511). -/
  | rolEwCl (e : RM Reg16)
  /-- `ROR_Ew_CL` (R512). -/
  | rorEwCl (e : RM Reg16)
  /-- `RCL_Ew_CL` (R513). -/
  | rclEwCl (e : RM Reg16)
  /-- `RCR_Ew_CL` (R514). -/
  | rcrEwCl (e : RM Reg16)
  /-- `SHL_Ew_CL` (R515). -/
  | shlEwCl (e : RM Reg16)
  /-- `SHR_Ew_CL` (R516). -/
  | shrEwCl (e : RM Reg16)
  /-- `SAR_Ew_CL` (R517). -/
  | sarEwCl (e : RM Reg16)
  /-- `RET_Iw__alias_of_C2` (C86 opcode C0, which executes as C2) (R681, R243). -/
  | retIwC0 (iw : Word)
  /-- `RET_Iw` (R681). -/
  | retIw (iw : Word)
  /-- `LES_Gw_Mp` (R326). -/
  | lesGwMp (m : MemRef) (g : Reg16)
  /-- `LDS_Gw_Mp` (R325). -/
  | ldsGwMp (m : MemRef) (g : Reg16)
  /-- `MOV_Eb_Ib` (R303). -/
  | movEbIb (e : RM Reg8) (ib : Byte)
  /-- `MOV_Ew_Iw` (R303). -/
  | movEwIw (e : RM Reg16) (iw : Word)
  /-- `ENTER_Iw_Ib` (R710). -/
  | enterIwIb (iw : Word) (lev : Byte)
  /-- `RETF_Iw__alias_of_CA` (C86 opcode C8, which executes as CA) (R683, R243). -/
  | retfIwC8 (iw : Word)
  /-- `RETF_Iw` (R683). -/
  | retfIw (iw : Word)
  /-- `INT_Ib` (R700). -/
  | intIb (ib : Byte)
  /-- `AAM_Ib` (R420). -/
  | aamIb (ib : Byte)
  /-- `AAD_Ib` (R421). -/
  | aadIb (ib : Byte)
  /-- `ESC` (R760). -/
  | esc (n : BitVec 3) (k : BitVec 3) (e : RM Reg16)
  /-- `LOOPNZ_Jb` (R692). -/
  | loopnzJb (ib : Byte)
  /-- `LOOPZ_Jb` (R691). -/
  | loopzJb (ib : Byte)
  /-- `LOOP_Jb` (R690). -/
  | loopJb (ib : Byte)
  /-- `JCXZ_Jb` (R693). -/
  | jcxzJb (ib : Byte)
  /-- `IN_AL_Ib` (R350). -/
  | inAlIb (ib : Byte)
  /-- `IN_AX_Ib` (R350). -/
  | inAxIb (ib : Byte)
  /-- `OUT_Ib_AL` (R352). -/
  | outIbAl (ib : Byte)
  /-- `OUT_Ib_AX` (R352). -/
  | outIbAx (ib : Byte)
  /-- `CALL_Jw` (R673). -/
  | callJw (iw : Word)
  /-- `JMP_Jw` (R668). -/
  | jmpJw (iw : Word)
  /-- `JMP_Ap` (R670). -/
  | jmpAp (off : Word) (sel : Word)
  /-- `JMP_Jb` (R667). -/
  | jmpJb (ib : Byte)
  /-- `TEST_Eb_Ib` (R503). -/
  | testEbIb (e : RM Reg8) (ib : Byte)
  /-- `TEST_Eb_Ib__alias_of__0` (C86 /1, which executes as /0) (R503, R234). -/
  | testEbIb1 (e : RM Reg8) (ib : Byte)
  /-- `NOT_Eb` (R504). -/
  | notEb (e : RM Reg8)
  /-- `NEG_Eb` (R410). -/
  | negEb (e : RM Reg8)
  /-- `MUL_Eb` (R411). -/
  | mulEb (e : RM Reg8)
  /-- `IMUL_Eb` (R412). -/
  | imulEb (e : RM Reg8)
  /-- `DIV_Eb` (R414). -/
  | divEb (e : RM Reg8)
  /-- `IDIV_Eb` (R415). -/
  | idivEb (e : RM Reg8)
  /-- `TEST_Ew_Iw` (R503). -/
  | testEwIw (e : RM Reg16) (iw : Word)
  /-- `TEST_Ew_Iw__alias_of__0` (C86 /1, which executes as /0) (R503, R234). -/
  | testEwIw1 (e : RM Reg16) (iw : Word)
  /-- `NOT_Ew` (R504). -/
  | notEw (e : RM Reg16)
  /-- `NEG_Ew` (R410). -/
  | negEw (e : RM Reg16)
  /-- `MUL_Ew` (R411). -/
  | mulEw (e : RM Reg16)
  /-- `IMUL_Ew` (R412). -/
  | imulEw (e : RM Reg16)
  /-- `DIV_Ew` (R414). -/
  | divEw (e : RM Reg16)
  /-- `IDIV_Ew` (R415). -/
  | idivEw (e : RM Reg16)
  /-- `INC_Eb` (R406). -/
  | incEb (e : RM Reg8)
  /-- `DEC_Eb` (R408). -/
  | decEb (e : RM Reg8)
  /-- `INC_Ew` (R406). -/
  | incEw (e : RM Reg16)
  /-- `DEC_Ew` (R408). -/
  | decEw (e : RM Reg16)
  /-- `CALL_Ew` (R674). -/
  | callEw (e : RM Reg16)
  /-- `CALL_Mp` (R676). -/
  | callMp (m : MemRef)
  /-- `JMP_Ew` (R669). -/
  | jmpEw (e : RM Reg16)
  /-- `JMP_Mp` (R672). -/
  | jmpMp (m : MemRef)
  /-- `PUSH_Ew` (R336). -/
  | pushEw (e : RM Reg16)
  /-- `SLDT_Ew` (R801). -/
  | sldtEw (e : RM Reg16)
  /-- `STR_Ew` (R802). -/
  | strEw (e : RM Reg16)
  /-- `LLDT_Ew` (R803). -/
  | lldtEw (e : RM Reg16)
  /-- `LTR_Ew` (R804). -/
  | ltrEw (e : RM Reg16)
  /-- `VERR_Ew` (R808). -/
  | verrEw (e : RM Reg16)
  /-- `VERW_Ew` (R809). -/
  | verwEw (e : RM Reg16)
  /-- `SGDT_Ms` (R810). -/
  | sgdtMs (m : MemRef)
  /-- `SIDT_Ms` (R811). -/
  | sidtMs (m : MemRef)
  /-- `LGDT_Ms` (R812). -/
  | lgdtMs (m : MemRef)
  /-- `LIDT_Ms` (R813). -/
  | lidtMs (m : MemRef)
  /-- `SMSW_Ew` (R805). -/
  | smswEw (e : RM Reg16)
  /-- `LMSW_Ew` (R806). -/
  | lmswEw (e : RM Reg16)
  /-- `LAR_Gw_Ew` (R814). -/
  | larGwEw (e : RM Reg16) (g : Reg16)
  /-- `LSL_Gw_Ew` (R815). -/
  | lslGwEw (e : RM Reg16) (g : Reg16)
  /-- `PUSH_ES` (R335). -/
  | pushEs
  /-- `POP_ES` (R333). -/
  | popEs
  /-- `PUSH_CS` (R335). -/
  | pushCs
  /-- `PUSH_SS` (R335). -/
  | pushSs
  /-- `POP_SS` (R333). -/
  | popSs
  /-- `PUSH_DS` (R335). -/
  | pushDs
  /-- `POP_DS` (R333). -/
  | popDs
  /-- `POP_CS` (R338). -/
  | popCs
  /-- `#UD` (R272). -/
  | invalidOpcode
  /-- `ES___prefix` (R762). -/
  | prefixEs
  /-- `CS___prefix` (R762). -/
  | prefixCs
  /-- `SS___prefix` (R762). -/
  | prefixSs
  /-- `DS___prefix` (R762). -/
  | prefixDs
  /-- `LOCK__prefix` (R759). -/
  | prefixLock
  /-- `LOCK__prefix__alias_of_F0` (R759). -/
  | prefixLockF1
  /-- `REPNE__prefix` (R601). -/
  | prefixRepne
  /-- `REP_REPE__prefix` (R601). -/
  | prefixRep
  /-- `DAA` (R416). -/
  | daa
  /-- `DAS` (R417). -/
  | das
  /-- `AAA` (R418). -/
  | aaa
  /-- `AAS` (R419). -/
  | aas
  /-- `PUSH_SP` (R332). -/
  | pushSp
  /-- `PUSHA` (R340). -/
  | pusha
  /-- `POPA` (R341). -/
  | popa
  /-- `INSB` (R611). -/
  | insb
  /-- `INSW` (R611). -/
  | insw
  /-- `OUTSB` (R612). -/
  | outsb
  /-- `OUTSW` (R612). -/
  | outsw
  /-- `(refused)` (R273). -/
  | reservedC86
  /-- `NOP` (R757). -/
  | nop
  /-- `XCHG_AX_r16` (opcode 91) (R321). -/
  | xchgAxCx
  /-- `XCHG_AX_r16` (opcode 92) (R321). -/
  | xchgAxDx
  /-- `XCHG_AX_r16` (opcode 93) (R321). -/
  | xchgAxBx
  /-- `XCHG_AX_r16` (opcode 94) (R321). -/
  | xchgAxSp
  /-- `XCHG_AX_r16` (opcode 95) (R321). -/
  | xchgAxBp
  /-- `XCHG_AX_r16` (opcode 96) (R321). -/
  | xchgAxSi
  /-- `XCHG_AX_r16` (opcode 97) (R321). -/
  | xchgAxDi
  /-- `CBW` (R346). -/
  | cbw
  /-- `CWD` (R347). -/
  | cwd
  /-- `WAIT` (R761). -/
  | wait
  /-- `PUSHF` (R342). -/
  | pushf
  /-- `POPF` (R343). -/
  | popf
  /-- `SAHF` (R345). -/
  | sahf
  /-- `LAHF` (R344). -/
  | lahf
  /-- `MOVSB` (R606). -/
  | movsb
  /-- `MOVSW` (R606). -/
  | movsw
  /-- `CMPSB` (R607). -/
  | cmpsb
  /-- `CMPSW` (R607). -/
  | cmpsw
  /-- `STOSB` (R610). -/
  | stosb
  /-- `STOSW` (R610). -/
  | stosw
  /-- `LODSB` (R609). -/
  | lodsb
  /-- `LODSW` (R609). -/
  | lodsw
  /-- `SCASB` (R608). -/
  | scasb
  /-- `SCASW` (R608). -/
  | scasw
  /-- `RET__alias_of_C3` (C86 opcode C1, which executes as C3) (R680, R243). -/
  | retC1
  /-- `RET` (R680). -/
  | ret
  /-- `LEAVE` (R711). -/
  | leave
  /-- `RETF__alias_of_CB` (C86 opcode C9, which executes as CB) (R682, R243). -/
  | retfC9
  /-- `RETF` (R682). -/
  | retf
  /-- `INT3` (R701). -/
  | int3
  /-- `INTO` (R702). -/
  | into
  /-- `IRET` (R703). -/
  | iret
  /-- `SALC` (R422). -/
  | salc
  /-- `XLAT` (R323). -/
  | xlat
  /-- `IN_AL_DX` (R351). -/
  | inAlDx
  /-- `IN_AX_DX` (R351). -/
  | inAxDx
  /-- `OUT_DX_AL` (R353). -/
  | outDxAl
  /-- `OUT_DX_AX` (R353). -/
  | outDxAx
  /-- `HLT` (R758). -/
  | hlt
  /-- `CMC` (R752). -/
  | cmc
  /-- `CLC` (R750). -/
  | clc
  /-- `STC` (R751). -/
  | stc
  /-- `CLI` (R754). -/
  | cli
  /-- `STI` (R753). -/
  | sti
  /-- `CLD` (R755). -/
  | cld
  /-- `STD` (R756). -/
  | std
  /-- `PUSH_SP__FF__6__mod___3__rm___4` (R332). -/
  | pushSpFF
  /-- `LOADALL__refused` (R262). -/
  | loadall
  /-- `CLTS` (R807). -/
  | clts
deriving DecidableEq, Repr

end Sys2Proof
end

