-- ==== Sys2Proof/WellFormed.lean ====
section
/-! DEFINITION. Which terms of `Instr` stand for an encoding: operands an encoding can hold, and the
classes an instruction exists on (30_encoding.md R230 to R273). -/

namespace Sys2Proof

/-- With mod 0 the r/m value 6 is the direct form, so `[BP]` has no mod 0 form (R220). -/
def MemRef.wf : MemRef → Bool
  | .ind b => b != .bp
  | .direct _ => true
  | .disp8 _ _ => true
  | .disp16 _ _ => true

/-- An E operand is well-formed when its memory form is. -/
def RM.wf {ρ : Type} : RM ρ → Bool
  | .reg _ => true
  | .mem m => m.wf

/-- Whether the E operand is a register (mod 3). -/
def RM.isReg {ρ : Type} : RM ρ → Bool
  | .reg _ => true
  | .mem _ => false

/-- The ModRM encodings that raise #UD on C186 and C286 alike (R270, R253). -/
def reservedSlot (op : Byte) (k : BitVec 3) (e : RM (BitVec 3)) : Bool :=
  if op = 0x62 ∨ op = 0x8D ∨ op = 0xC4 ∨ op = 0xC5 then e.isReg
  else if op = 0x8C then 4 ≤ k.toNat
  else if op = 0x8E then k = 1 || 4 ≤ k.toNat
  else if op = 0x8F ∨ op = 0xC6 ∨ op = 0xC7 then k ≠ 0
  else if op = 0xC0 ∨ op = 0xC1 ∨ op = 0xD0 ∨ op = 0xD1 ∨ op = 0xD2 ∨ op = 0xD3 then k = 6
  else if op = 0xF6 ∨ op = 0xF7 then k = 1
  else if op = 0xFE then 2 ≤ k.toNat
  else if op = 0xFF then k = 7 || ((k = 3 || k = 5) && e.isReg)
  else false

/-- The ModRM encodings the spec refuses on C86 (R273; 92 D29). C0 and C1 are not among them: on
C86 they are the opcodes C2 and C3 (R243). -/
def refusedSlot (op : Byte) (k : BitVec 3) (e : RM (BitVec 3)) : Bool :=
  if op = 0x8D ∨ op = 0xC4 ∨ op = 0xC5 then e.isReg
  else if op = 0x8F ∨ op = 0xC6 ∨ op = 0xC7 then k ≠ 0
  else if op = 0xD0 ∨ op = 0xD1 ∨ op = 0xD2 ∨ op = 0xD3 then k = 6
  else if op = 0xFE then 2 ≤ k.toNat
  else if op = 0xFF then k = 7 || ((k = 3 || k = 5) && e.isReg)
  else false

/-- The one-byte opcodes that raise #UD (R270, R271). On C286 63 is ARPL, which raises it in real
mode. -/
def reservedByte (cls : CpuClass) (op : Byte) : Bool :=
  match cls with
  | .c86 => false
  | .c186 => op = 0x0F || op = 0x63 || op = 0x64 || op = 0x65 || op = 0x66 || op = 0x67 || op = 0xF1
  | .c286 => op = 0x64 || op = 0x65 || op = 0x66 || op = 0x67 || op = 0xF1

/-- The second bytes of the 0F map that raise #UD whatever follows (R257, R261). -/
def reservedExt (op : Byte) : Bool := op = 0x04 || 7 ≤ op.toNat

/-- The reserved slots of groups 6 and 7 (R258, R259). -/
def reservedExtSlot (op : Byte) (k : BitVec 3) (e : RM (BitVec 3)) : Bool :=
  if op = 0x00 then 6 ≤ k.toNat
  else if op = 0x01 then k = 5 || k = 7 || (k.toNat ≤ 3 && e.isReg)
  else false

/-- Whether the bytes raise #UD on the class (R270, R271; on C86 nothing does, R273). -/
def OpForm.undefinedOn (cls : CpuClass) : OpForm → Bool
  | .byte op => reservedByte cls op
  | .modrm op k e => cls ≠ .c86 && e.wf && reservedSlot op k e
  | .ext op => cls = .c286 && reservedExt op
  | .extModrm op k e => cls = .c286 && e.wf && reservedExtSlot op k e

/-- Whether the spec refuses the bytes on C86 (R273). -/
def OpForm.refusedOnC86 : OpForm → Bool
  | .modrm op k e => e.wf && refusedSlot op k e
  | .byte _ => false
  | .ext _ => false
  | .extModrm _ _ _ => false

/-- Whether an encoding holds the term's operands. -/
def Instr.wf : Instr → Bool
  | .addEbGb e _ => e.wf
  | .addEwGw e _ => e.wf
  | .addGbEb e _ => e.wf
  | .addGwEw e _ => e.wf
  | .addAlIb _ => true
  | .addAxIw _ => true
  | .addEbIb _ e _ => e.wf
  | .addEwIw e _ => e.wf
  | .addEwIbs e _ => e.wf
  | .orEbGb e _ => e.wf
  | .orEwGw e _ => e.wf
  | .orGbEb e _ => e.wf
  | .orGwEw e _ => e.wf
  | .orAlIb _ => true
  | .orAxIw _ => true
  | .orEbIb _ e _ => e.wf
  | .orEwIw e _ => e.wf
  | .orEwIbs e _ => e.wf
  | .adcEbGb e _ => e.wf
  | .adcEwGw e _ => e.wf
  | .adcGbEb e _ => e.wf
  | .adcGwEw e _ => e.wf
  | .adcAlIb _ => true
  | .adcAxIw _ => true
  | .adcEbIb _ e _ => e.wf
  | .adcEwIw e _ => e.wf
  | .adcEwIbs e _ => e.wf
  | .sbbEbGb e _ => e.wf
  | .sbbEwGw e _ => e.wf
  | .sbbGbEb e _ => e.wf
  | .sbbGwEw e _ => e.wf
  | .sbbAlIb _ => true
  | .sbbAxIw _ => true
  | .sbbEbIb _ e _ => e.wf
  | .sbbEwIw e _ => e.wf
  | .sbbEwIbs e _ => e.wf
  | .andEbGb e _ => e.wf
  | .andEwGw e _ => e.wf
  | .andGbEb e _ => e.wf
  | .andGwEw e _ => e.wf
  | .andAlIb _ => true
  | .andAxIw _ => true
  | .andEbIb _ e _ => e.wf
  | .andEwIw e _ => e.wf
  | .andEwIbs e _ => e.wf
  | .subEbGb e _ => e.wf
  | .subEwGw e _ => e.wf
  | .subGbEb e _ => e.wf
  | .subGwEw e _ => e.wf
  | .subAlIb _ => true
  | .subAxIw _ => true
  | .subEbIb _ e _ => e.wf
  | .subEwIw e _ => e.wf
  | .subEwIbs e _ => e.wf
  | .xorEbGb e _ => e.wf
  | .xorEwGw e _ => e.wf
  | .xorGbEb e _ => e.wf
  | .xorGwEw e _ => e.wf
  | .xorAlIb _ => true
  | .xorAxIw _ => true
  | .xorEbIb _ e _ => e.wf
  | .xorEwIw e _ => e.wf
  | .xorEwIbs e _ => e.wf
  | .cmpEbGb e _ => e.wf
  | .cmpEwGw e _ => e.wf
  | .cmpGbEb e _ => e.wf
  | .cmpGwEw e _ => e.wf
  | .cmpAlIb _ => true
  | .cmpAxIw _ => true
  | .cmpEbIb _ e _ => e.wf
  | .cmpEwIw e _ => e.wf
  | .cmpEwIbs e _ => e.wf
  | .incR16 _ => true
  | .decR16 _ => true
  | .pushR16 r => r != .sp
  | .popR16 _ => true
  | .boundGwMa m _ => m.wf
  | .arplEwGw e _ => e.wf
  | .pushIw _ => true
  | .imulGwEwIw e _ _ => e.wf
  | .pushIbs _ => true
  | .imulGwEwIbs e _ _ => e.wf
  | .joJb _ => true
  | .jnoJb _ => true
  | .jbJb _ => true
  | .jnbJb _ => true
  | .jzJb _ => true
  | .jnzJb _ => true
  | .jbeJb _ => true
  | .jaJb _ => true
  | .jsJb _ => true
  | .jnsJb _ => true
  | .jpJb _ => true
  | .jnpJb _ => true
  | .jlJb _ => true
  | .jgeJb _ => true
  | .jleJb _ => true
  | .jgJb _ => true
  | .joJb60 _ => true
  | .jnoJb61 _ => true
  | .jbJb62 _ => true
  | .jnbJb63 _ => true
  | .jzJb64 _ => true
  | .jnzJb65 _ => true
  | .jbeJb66 _ => true
  | .jaJb67 _ => true
  | .jsJb68 _ => true
  | .jnsJb69 _ => true
  | .jpJb6A _ => true
  | .jnpJb6B _ => true
  | .jlJb6C _ => true
  | .jgeJb6D _ => true
  | .jleJb6E _ => true
  | .jgJb6F _ => true
  | .testEbGb e _ => e.wf
  | .testEwGw e _ => e.wf
  | .xchgEbGb e _ => e.wf
  | .xchgEwGw e _ => e.wf
  | .movEbGb e _ => e.wf
  | .movEwGw e _ => e.wf
  | .movGbEb e _ => e.wf
  | .movGwEw e _ => e.wf
  | .movEwSw e _ => e.wf
  | .movEwSwHigh e _ => e.wf
  | .leaGwM m _ => m.wf
  | .movSwEw e sr => e.wf && sr != .cs
  | .movCsEw e => e.wf
  | .movSwEwHigh e _ => e.wf
  | .popEw e => e.wf
  | .callAp _ _ => true
  | .movAlOb _ => true
  | .movAxOw _ => true
  | .movObAl _ => true
  | .movOwAx _ => true
  | .testAlIb _ => true
  | .testAxIw _ => true
  | .movR8Ib _ _ => true
  | .movR16Iw _ _ => true
  | .rolEbIb e _ => e.wf
  | .rorEbIb e _ => e.wf
  | .rclEbIb e _ => e.wf
  | .rcrEbIb e _ => e.wf
  | .shlEbIb e _ => e.wf
  | .shrEbIb e _ => e.wf
  | .sarEbIb e _ => e.wf
  | .rolEwIb e _ => e.wf
  | .rorEwIb e _ => e.wf
  | .rclEwIb e _ => e.wf
  | .rcrEwIb e _ => e.wf
  | .shlEwIb e _ => e.wf
  | .shrEwIb e _ => e.wf
  | .sarEwIb e _ => e.wf
  | .rolEb1 e => e.wf
  | .rorEb1 e => e.wf
  | .rclEb1 e => e.wf
  | .rcrEb1 e => e.wf
  | .shlEb1 e => e.wf
  | .shrEb1 e => e.wf
  | .sarEb1 e => e.wf
  | .rolEw1 e => e.wf
  | .rorEw1 e => e.wf
  | .rclEw1 e => e.wf
  | .rcrEw1 e => e.wf
  | .shlEw1 e => e.wf
  | .shrEw1 e => e.wf
  | .sarEw1 e => e.wf
  | .rolEbCl e => e.wf
  | .rorEbCl e => e.wf
  | .rclEbCl e => e.wf
  | .rcrEbCl e => e.wf
  | .shlEbCl e => e.wf
  | .shrEbCl e => e.wf
  | .sarEbCl e => e.wf
  | .rolEwCl e => e.wf
  | .rorEwCl e => e.wf
  | .rclEwCl e => e.wf
  | .rcrEwCl e => e.wf
  | .shlEwCl e => e.wf
  | .shrEwCl e => e.wf
  | .sarEwCl e => e.wf
  | .retIwC0 _ => true
  | .retIw _ => true
  | .lesGwMp m _ => m.wf
  | .ldsGwMp m _ => m.wf
  | .movEbIb e _ => e.wf
  | .movEwIw e _ => e.wf
  | .enterIwIb _ _ => true
  | .retfIwC8 _ => true
  | .retfIw _ => true
  | .intIb _ => true
  | .aamIb _ => true
  | .aadIb _ => true
  | .esc _ _ e => e.wf
  | .loopnzJb _ => true
  | .loopzJb _ => true
  | .loopJb _ => true
  | .jcxzJb _ => true
  | .inAlIb _ => true
  | .inAxIb _ => true
  | .outIbAl _ => true
  | .outIbAx _ => true
  | .callJw _ => true
  | .jmpJw _ => true
  | .jmpAp _ _ => true
  | .jmpJb _ => true
  | .testEbIb e _ => e.wf
  | .testEbIb1 e _ => e.wf
  | .notEb e => e.wf
  | .negEb e => e.wf
  | .mulEb e => e.wf
  | .imulEb e => e.wf
  | .divEb e => e.wf
  | .idivEb e => e.wf
  | .testEwIw e _ => e.wf
  | .testEwIw1 e _ => e.wf
  | .notEw e => e.wf
  | .negEw e => e.wf
  | .mulEw e => e.wf
  | .imulEw e => e.wf
  | .divEw e => e.wf
  | .idivEw e => e.wf
  | .incEb e => e.wf
  | .decEb e => e.wf
  | .incEw e => e.wf
  | .decEw e => e.wf
  | .callEw e => e.wf
  | .callMp m => m.wf
  | .jmpEw e => e.wf
  | .jmpMp m => m.wf
  | .pushEw e => e.wf && e != .reg .sp
  | .sldtEw e => e.wf
  | .strEw e => e.wf
  | .lldtEw e => e.wf
  | .ltrEw e => e.wf
  | .verrEw e => e.wf
  | .verwEw e => e.wf
  | .sgdtMs m => m.wf
  | .sidtMs m => m.wf
  | .lgdtMs m => m.wf
  | .lidtMs m => m.wf
  | .smswEw e => e.wf
  | .lmswEw e => e.wf
  | .larGwEw e _ => e.wf
  | .lslGwEw e _ => e.wf
  | .pushEs => true
  | .popEs => true
  | .pushCs => true
  | .pushSs => true
  | .popSs => true
  | .pushDs => true
  | .popDs => true
  | .popCs => true
  | .invalidOpcode => true
  | .prefixEs => true
  | .prefixCs => true
  | .prefixSs => true
  | .prefixDs => true
  | .prefixLock => true
  | .prefixLockF1 => true
  | .prefixRepne => true
  | .prefixRep => true
  | .daa => true
  | .das => true
  | .aaa => true
  | .aas => true
  | .pushSp => true
  | .pusha => true
  | .popa => true
  | .insb => true
  | .insw => true
  | .outsb => true
  | .outsw => true
  | .reservedC86 => true
  | .nop => true
  | .xchgAxCx => true
  | .xchgAxDx => true
  | .xchgAxBx => true
  | .xchgAxSp => true
  | .xchgAxBp => true
  | .xchgAxSi => true
  | .xchgAxDi => true
  | .cbw => true
  | .cwd => true
  | .wait => true
  | .pushf => true
  | .popf => true
  | .sahf => true
  | .lahf => true
  | .movsb => true
  | .movsw => true
  | .cmpsb => true
  | .cmpsw => true
  | .stosb => true
  | .stosw => true
  | .lodsb => true
  | .lodsw => true
  | .scasb => true
  | .scasw => true
  | .retC1 => true
  | .ret => true
  | .leave => true
  | .retfC9 => true
  | .retf => true
  | .int3 => true
  | .into => true
  | .iret => true
  | .salc => true
  | .xlat => true
  | .inAlDx => true
  | .inAxDx => true
  | .outDxAl => true
  | .outDxAx => true
  | .hlt => true
  | .cmc => true
  | .clc => true
  | .stc => true
  | .cli => true
  | .sti => true
  | .cld => true
  | .std => true
  | .pushSpFF => true
  | .loadall => true
  | .clts => true

/-- The classes an instruction exists on (R230, R257; the table's "models"). -/
def Instr.onClass (cls : CpuClass) : Instr → Bool
  | .addEbGb _ _ => true
  | .addEwGw _ _ => true
  | .addGbEb _ _ => true
  | .addGwEw _ _ => true
  | .addAlIb _ => true
  | .addAxIw _ => true
  | .addEbIb _ _ _ => true
  | .addEwIw _ _ => true
  | .addEwIbs _ _ => true
  | .orEbGb _ _ => true
  | .orEwGw _ _ => true
  | .orGbEb _ _ => true
  | .orGwEw _ _ => true
  | .orAlIb _ => true
  | .orAxIw _ => true
  | .orEbIb _ _ _ => true
  | .orEwIw _ _ => true
  | .orEwIbs _ _ => true
  | .adcEbGb _ _ => true
  | .adcEwGw _ _ => true
  | .adcGbEb _ _ => true
  | .adcGwEw _ _ => true
  | .adcAlIb _ => true
  | .adcAxIw _ => true
  | .adcEbIb _ _ _ => true
  | .adcEwIw _ _ => true
  | .adcEwIbs _ _ => true
  | .sbbEbGb _ _ => true
  | .sbbEwGw _ _ => true
  | .sbbGbEb _ _ => true
  | .sbbGwEw _ _ => true
  | .sbbAlIb _ => true
  | .sbbAxIw _ => true
  | .sbbEbIb _ _ _ => true
  | .sbbEwIw _ _ => true
  | .sbbEwIbs _ _ => true
  | .andEbGb _ _ => true
  | .andEwGw _ _ => true
  | .andGbEb _ _ => true
  | .andGwEw _ _ => true
  | .andAlIb _ => true
  | .andAxIw _ => true
  | .andEbIb _ _ _ => true
  | .andEwIw _ _ => true
  | .andEwIbs _ _ => true
  | .subEbGb _ _ => true
  | .subEwGw _ _ => true
  | .subGbEb _ _ => true
  | .subGwEw _ _ => true
  | .subAlIb _ => true
  | .subAxIw _ => true
  | .subEbIb _ _ _ => true
  | .subEwIw _ _ => true
  | .subEwIbs _ _ => true
  | .xorEbGb _ _ => true
  | .xorEwGw _ _ => true
  | .xorGbEb _ _ => true
  | .xorGwEw _ _ => true
  | .xorAlIb _ => true
  | .xorAxIw _ => true
  | .xorEbIb _ _ _ => true
  | .xorEwIw _ _ => true
  | .xorEwIbs _ _ => true
  | .cmpEbGb _ _ => true
  | .cmpEwGw _ _ => true
  | .cmpGbEb _ _ => true
  | .cmpGwEw _ _ => true
  | .cmpAlIb _ => true
  | .cmpAxIw _ => true
  | .cmpEbIb _ _ _ => true
  | .cmpEwIw _ _ => true
  | .cmpEwIbs _ _ => true
  | .incR16 _ => true
  | .decR16 _ => true
  | .pushR16 _ => true
  | .popR16 _ => true
  | .boundGwMa _ _ => cls != .c86
  | .arplEwGw _ _ => cls == .c286
  | .pushIw _ => cls != .c86
  | .imulGwEwIw _ _ _ => cls != .c86
  | .pushIbs _ => cls != .c86
  | .imulGwEwIbs _ _ _ => cls != .c86
  | .joJb _ => true
  | .jnoJb _ => true
  | .jbJb _ => true
  | .jnbJb _ => true
  | .jzJb _ => true
  | .jnzJb _ => true
  | .jbeJb _ => true
  | .jaJb _ => true
  | .jsJb _ => true
  | .jnsJb _ => true
  | .jpJb _ => true
  | .jnpJb _ => true
  | .jlJb _ => true
  | .jgeJb _ => true
  | .jleJb _ => true
  | .jgJb _ => true
  | .joJb60 _ => cls == .c86
  | .jnoJb61 _ => cls == .c86
  | .jbJb62 _ => cls == .c86
  | .jnbJb63 _ => cls == .c86
  | .jzJb64 _ => cls == .c86
  | .jnzJb65 _ => cls == .c86
  | .jbeJb66 _ => cls == .c86
  | .jaJb67 _ => cls == .c86
  | .jsJb68 _ => cls == .c86
  | .jnsJb69 _ => cls == .c86
  | .jpJb6A _ => cls == .c86
  | .jnpJb6B _ => cls == .c86
  | .jlJb6C _ => cls == .c86
  | .jgeJb6D _ => cls == .c86
  | .jleJb6E _ => cls == .c86
  | .jgJb6F _ => cls == .c86
  | .testEbGb _ _ => true
  | .testEwGw _ _ => true
  | .xchgEbGb _ _ => true
  | .xchgEwGw _ _ => true
  | .movEbGb _ _ => true
  | .movEwGw _ _ => true
  | .movGbEb _ _ => true
  | .movGwEw _ _ => true
  | .movEwSw _ _ => true
  | .movEwSwHigh _ _ => cls == .c86
  | .leaGwM _ _ => true
  | .movSwEw _ _ => true
  | .movCsEw _ => cls == .c86
  | .movSwEwHigh _ _ => cls == .c86
  | .popEw _ => true
  | .callAp _ _ => true
  | .movAlOb _ => true
  | .movAxOw _ => true
  | .movObAl _ => true
  | .movOwAx _ => true
  | .testAlIb _ => true
  | .testAxIw _ => true
  | .movR8Ib _ _ => true
  | .movR16Iw _ _ => true
  | .rolEbIb _ _ => cls != .c86
  | .rorEbIb _ _ => cls != .c86
  | .rclEbIb _ _ => cls != .c86
  | .rcrEbIb _ _ => cls != .c86
  | .shlEbIb _ _ => cls != .c86
  | .shrEbIb _ _ => cls != .c86
  | .sarEbIb _ _ => cls != .c86
  | .rolEwIb _ _ => cls != .c86
  | .rorEwIb _ _ => cls != .c86
  | .rclEwIb _ _ => cls != .c86
  | .rcrEwIb _ _ => cls != .c86
  | .shlEwIb _ _ => cls != .c86
  | .shrEwIb _ _ => cls != .c86
  | .sarEwIb _ _ => cls != .c86
  | .rolEb1 _ => true
  | .rorEb1 _ => true
  | .rclEb1 _ => true
  | .rcrEb1 _ => true
  | .shlEb1 _ => true
  | .shrEb1 _ => true
  | .sarEb1 _ => true
  | .rolEw1 _ => true
  | .rorEw1 _ => true
  | .rclEw1 _ => true
  | .rcrEw1 _ => true
  | .shlEw1 _ => true
  | .shrEw1 _ => true
  | .sarEw1 _ => true
  | .rolEbCl _ => true
  | .rorEbCl _ => true
  | .rclEbCl _ => true
  | .rcrEbCl _ => true
  | .shlEbCl _ => true
  | .shrEbCl _ => true
  | .sarEbCl _ => true
  | .rolEwCl _ => true
  | .rorEwCl _ => true
  | .rclEwCl _ => true
  | .rcrEwCl _ => true
  | .shlEwCl _ => true
  | .shrEwCl _ => true
  | .sarEwCl _ => true
  | .retIwC0 _ => cls == .c86
  | .retIw _ => true
  | .lesGwMp _ _ => true
  | .ldsGwMp _ _ => true
  | .movEbIb _ _ => true
  | .movEwIw _ _ => true
  | .enterIwIb _ _ => cls != .c86
  | .retfIwC8 _ => cls == .c86
  | .retfIw _ => true
  | .intIb _ => true
  | .aamIb _ => true
  | .aadIb _ => true
  | .esc _ _ _ => true
  | .loopnzJb _ => true
  | .loopzJb _ => true
  | .loopJb _ => true
  | .jcxzJb _ => true
  | .inAlIb _ => true
  | .inAxIb _ => true
  | .outIbAl _ => true
  | .outIbAx _ => true
  | .callJw _ => true
  | .jmpJw _ => true
  | .jmpAp _ _ => true
  | .jmpJb _ => true
  | .testEbIb _ _ => true
  | .testEbIb1 _ _ => cls == .c86
  | .notEb _ => true
  | .negEb _ => true
  | .mulEb _ => true
  | .imulEb _ => true
  | .divEb _ => true
  | .idivEb _ => true
  | .testEwIw _ _ => true
  | .testEwIw1 _ _ => cls == .c86
  | .notEw _ => true
  | .negEw _ => true
  | .mulEw _ => true
  | .imulEw _ => true
  | .divEw _ => true
  | .idivEw _ => true
  | .incEb _ => true
  | .decEb _ => true
  | .incEw _ => true
  | .decEw _ => true
  | .callEw _ => true
  | .callMp _ => true
  | .jmpEw _ => true
  | .jmpMp _ => true
  | .pushEw _ => true
  | .sldtEw _ => cls == .c286
  | .strEw _ => cls == .c286
  | .lldtEw _ => cls == .c286
  | .ltrEw _ => cls == .c286
  | .verrEw _ => cls == .c286
  | .verwEw _ => cls == .c286
  | .sgdtMs _ => cls == .c286
  | .sidtMs _ => cls == .c286
  | .lgdtMs _ => cls == .c286
  | .lidtMs _ => cls == .c286
  | .smswEw _ => cls == .c286
  | .lmswEw _ => cls == .c286
  | .larGwEw _ _ => cls == .c286
  | .lslGwEw _ _ => cls == .c286
  | .pushEs => true
  | .popEs => true
  | .pushCs => true
  | .pushSs => true
  | .popSs => true
  | .pushDs => true
  | .popDs => true
  | .popCs => cls == .c86
  | .invalidOpcode => cls != .c86
  | .prefixEs => true
  | .prefixCs => true
  | .prefixSs => true
  | .prefixDs => true
  | .prefixLock => true
  | .prefixLockF1 => cls == .c86
  | .prefixRepne => true
  | .prefixRep => true
  | .daa => true
  | .das => true
  | .aaa => true
  | .aas => true
  | .pushSp => true
  | .pusha => cls != .c86
  | .popa => cls != .c86
  | .insb => cls != .c86
  | .insw => cls != .c86
  | .outsb => cls != .c86
  | .outsw => cls != .c86
  | .reservedC86 => cls == .c86
  | .nop => true
  | .xchgAxCx => true
  | .xchgAxDx => true
  | .xchgAxBx => true
  | .xchgAxSp => true
  | .xchgAxBp => true
  | .xchgAxSi => true
  | .xchgAxDi => true
  | .cbw => true
  | .cwd => true
  | .wait => true
  | .pushf => true
  | .popf => true
  | .sahf => true
  | .lahf => true
  | .movsb => true
  | .movsw => true
  | .cmpsb => true
  | .cmpsw => true
  | .stosb => true
  | .stosw => true
  | .lodsb => true
  | .lodsw => true
  | .scasb => true
  | .scasw => true
  | .retC1 => cls == .c86
  | .ret => true
  | .leave => cls != .c86
  | .retfC9 => cls == .c86
  | .retf => true
  | .int3 => true
  | .into => true
  | .iret => true
  | .salc => true
  | .xlat => true
  | .inAlDx => true
  | .inAxDx => true
  | .outDxAl => true
  | .outDxAx => true
  | .hlt => true
  | .cmc => true
  | .clc => true
  | .stc => true
  | .cli => true
  | .sti => true
  | .cld => true
  | .std => true
  | .pushSpFF => true
  | .loadall => cls == .c286
  | .clts => cls == .c286

/-- A term that the class's decoder can answer. -/
def Instr.wfOn (cls : CpuClass) (i : Instr) : Bool := i.wf && i.onClass cls

/-- Whether the constructor stands for a prefix byte (R201): no instruction of its own, the decoder
goes on with the next byte (R763). -/
def Instr.isPrefixByte : Instr → Bool
  | .addEbGb _ _ => false
  | .addEwGw _ _ => false
  | .addGbEb _ _ => false
  | .addGwEw _ _ => false
  | .addAlIb _ => false
  | .addAxIw _ => false
  | .addEbIb _ _ _ => false
  | .addEwIw _ _ => false
  | .addEwIbs _ _ => false
  | .orEbGb _ _ => false
  | .orEwGw _ _ => false
  | .orGbEb _ _ => false
  | .orGwEw _ _ => false
  | .orAlIb _ => false
  | .orAxIw _ => false
  | .orEbIb _ _ _ => false
  | .orEwIw _ _ => false
  | .orEwIbs _ _ => false
  | .adcEbGb _ _ => false
  | .adcEwGw _ _ => false
  | .adcGbEb _ _ => false
  | .adcGwEw _ _ => false
  | .adcAlIb _ => false
  | .adcAxIw _ => false
  | .adcEbIb _ _ _ => false
  | .adcEwIw _ _ => false
  | .adcEwIbs _ _ => false
  | .sbbEbGb _ _ => false
  | .sbbEwGw _ _ => false
  | .sbbGbEb _ _ => false
  | .sbbGwEw _ _ => false
  | .sbbAlIb _ => false
  | .sbbAxIw _ => false
  | .sbbEbIb _ _ _ => false
  | .sbbEwIw _ _ => false
  | .sbbEwIbs _ _ => false
  | .andEbGb _ _ => false
  | .andEwGw _ _ => false
  | .andGbEb _ _ => false
  | .andGwEw _ _ => false
  | .andAlIb _ => false
  | .andAxIw _ => false
  | .andEbIb _ _ _ => false
  | .andEwIw _ _ => false
  | .andEwIbs _ _ => false
  | .subEbGb _ _ => false
  | .subEwGw _ _ => false
  | .subGbEb _ _ => false
  | .subGwEw _ _ => false
  | .subAlIb _ => false
  | .subAxIw _ => false
  | .subEbIb _ _ _ => false
  | .subEwIw _ _ => false
  | .subEwIbs _ _ => false
  | .xorEbGb _ _ => false
  | .xorEwGw _ _ => false
  | .xorGbEb _ _ => false
  | .xorGwEw _ _ => false
  | .xorAlIb _ => false
  | .xorAxIw _ => false
  | .xorEbIb _ _ _ => false
  | .xorEwIw _ _ => false
  | .xorEwIbs _ _ => false
  | .cmpEbGb _ _ => false
  | .cmpEwGw _ _ => false
  | .cmpGbEb _ _ => false
  | .cmpGwEw _ _ => false
  | .cmpAlIb _ => false
  | .cmpAxIw _ => false
  | .cmpEbIb _ _ _ => false
  | .cmpEwIw _ _ => false
  | .cmpEwIbs _ _ => false
  | .incR16 _ => false
  | .decR16 _ => false
  | .pushR16 _ => false
  | .popR16 _ => false
  | .boundGwMa _ _ => false
  | .arplEwGw _ _ => false
  | .pushIw _ => false
  | .imulGwEwIw _ _ _ => false
  | .pushIbs _ => false
  | .imulGwEwIbs _ _ _ => false
  | .joJb _ => false
  | .jnoJb _ => false
  | .jbJb _ => false
  | .jnbJb _ => false
  | .jzJb _ => false
  | .jnzJb _ => false
  | .jbeJb _ => false
  | .jaJb _ => false
  | .jsJb _ => false
  | .jnsJb _ => false
  | .jpJb _ => false
  | .jnpJb _ => false
  | .jlJb _ => false
  | .jgeJb _ => false
  | .jleJb _ => false
  | .jgJb _ => false
  | .joJb60 _ => false
  | .jnoJb61 _ => false
  | .jbJb62 _ => false
  | .jnbJb63 _ => false
  | .jzJb64 _ => false
  | .jnzJb65 _ => false
  | .jbeJb66 _ => false
  | .jaJb67 _ => false
  | .jsJb68 _ => false
  | .jnsJb69 _ => false
  | .jpJb6A _ => false
  | .jnpJb6B _ => false
  | .jlJb6C _ => false
  | .jgeJb6D _ => false
  | .jleJb6E _ => false
  | .jgJb6F _ => false
  | .testEbGb _ _ => false
  | .testEwGw _ _ => false
  | .xchgEbGb _ _ => false
  | .xchgEwGw _ _ => false
  | .movEbGb _ _ => false
  | .movEwGw _ _ => false
  | .movGbEb _ _ => false
  | .movGwEw _ _ => false
  | .movEwSw _ _ => false
  | .movEwSwHigh _ _ => false
  | .leaGwM _ _ => false
  | .movSwEw _ _ => false
  | .movCsEw _ => false
  | .movSwEwHigh _ _ => false
  | .popEw _ => false
  | .callAp _ _ => false
  | .movAlOb _ => false
  | .movAxOw _ => false
  | .movObAl _ => false
  | .movOwAx _ => false
  | .testAlIb _ => false
  | .testAxIw _ => false
  | .movR8Ib _ _ => false
  | .movR16Iw _ _ => false
  | .rolEbIb _ _ => false
  | .rorEbIb _ _ => false
  | .rclEbIb _ _ => false
  | .rcrEbIb _ _ => false
  | .shlEbIb _ _ => false
  | .shrEbIb _ _ => false
  | .sarEbIb _ _ => false
  | .rolEwIb _ _ => false
  | .rorEwIb _ _ => false
  | .rclEwIb _ _ => false
  | .rcrEwIb _ _ => false
  | .shlEwIb _ _ => false
  | .shrEwIb _ _ => false
  | .sarEwIb _ _ => false
  | .rolEb1 _ => false
  | .rorEb1 _ => false
  | .rclEb1 _ => false
  | .rcrEb1 _ => false
  | .shlEb1 _ => false
  | .shrEb1 _ => false
  | .sarEb1 _ => false
  | .rolEw1 _ => false
  | .rorEw1 _ => false
  | .rclEw1 _ => false
  | .rcrEw1 _ => false
  | .shlEw1 _ => false
  | .shrEw1 _ => false
  | .sarEw1 _ => false
  | .rolEbCl _ => false
  | .rorEbCl _ => false
  | .rclEbCl _ => false
  | .rcrEbCl _ => false
  | .shlEbCl _ => false
  | .shrEbCl _ => false
  | .sarEbCl _ => false
  | .rolEwCl _ => false
  | .rorEwCl _ => false
  | .rclEwCl _ => false
  | .rcrEwCl _ => false
  | .shlEwCl _ => false
  | .shrEwCl _ => false
  | .sarEwCl _ => false
  | .retIwC0 _ => false
  | .retIw _ => false
  | .lesGwMp _ _ => false
  | .ldsGwMp _ _ => false
  | .movEbIb _ _ => false
  | .movEwIw _ _ => false
  | .enterIwIb _ _ => false
  | .retfIwC8 _ => false
  | .retfIw _ => false
  | .intIb _ => false
  | .aamIb _ => false
  | .aadIb _ => false
  | .esc _ _ _ => false
  | .loopnzJb _ => false
  | .loopzJb _ => false
  | .loopJb _ => false
  | .jcxzJb _ => false
  | .inAlIb _ => false
  | .inAxIb _ => false
  | .outIbAl _ => false
  | .outIbAx _ => false
  | .callJw _ => false
  | .jmpJw _ => false
  | .jmpAp _ _ => false
  | .jmpJb _ => false
  | .testEbIb _ _ => false
  | .testEbIb1 _ _ => false
  | .notEb _ => false
  | .negEb _ => false
  | .mulEb _ => false
  | .imulEb _ => false
  | .divEb _ => false
  | .idivEb _ => false
  | .testEwIw _ _ => false
  | .testEwIw1 _ _ => false
  | .notEw _ => false
  | .negEw _ => false
  | .mulEw _ => false
  | .imulEw _ => false
  | .divEw _ => false
  | .idivEw _ => false
  | .incEb _ => false
  | .decEb _ => false
  | .incEw _ => false
  | .decEw _ => false
  | .callEw _ => false
  | .callMp _ => false
  | .jmpEw _ => false
  | .jmpMp _ => false
  | .pushEw _ => false
  | .sldtEw _ => false
  | .strEw _ => false
  | .lldtEw _ => false
  | .ltrEw _ => false
  | .verrEw _ => false
  | .verwEw _ => false
  | .sgdtMs _ => false
  | .sidtMs _ => false
  | .lgdtMs _ => false
  | .lidtMs _ => false
  | .smswEw _ => false
  | .lmswEw _ => false
  | .larGwEw _ _ => false
  | .lslGwEw _ _ => false
  | .pushEs => false
  | .popEs => false
  | .pushCs => false
  | .pushSs => false
  | .popSs => false
  | .pushDs => false
  | .popDs => false
  | .popCs => false
  | .invalidOpcode => false
  | .prefixEs => true
  | .prefixCs => true
  | .prefixSs => true
  | .prefixDs => true
  | .prefixLock => true
  | .prefixLockF1 => true
  | .prefixRepne => true
  | .prefixRep => true
  | .daa => false
  | .das => false
  | .aaa => false
  | .aas => false
  | .pushSp => false
  | .pusha => false
  | .popa => false
  | .insb => false
  | .insw => false
  | .outsb => false
  | .outsw => false
  | .reservedC86 => false
  | .nop => false
  | .xchgAxCx => false
  | .xchgAxDx => false
  | .xchgAxBx => false
  | .xchgAxSp => false
  | .xchgAxBp => false
  | .xchgAxSi => false
  | .xchgAxDi => false
  | .cbw => false
  | .cwd => false
  | .wait => false
  | .pushf => false
  | .popf => false
  | .sahf => false
  | .lahf => false
  | .movsb => false
  | .movsw => false
  | .cmpsb => false
  | .cmpsw => false
  | .stosb => false
  | .stosw => false
  | .lodsb => false
  | .lodsw => false
  | .scasb => false
  | .scasw => false
  | .retC1 => false
  | .ret => false
  | .leave => false
  | .retfC9 => false
  | .retf => false
  | .int3 => false
  | .into => false
  | .iret => false
  | .salc => false
  | .xlat => false
  | .inAlDx => false
  | .inAxDx => false
  | .outDxAl => false
  | .outDxAx => false
  | .hlt => false
  | .cmc => false
  | .clc => false
  | .stc => false
  | .cli => false
  | .sti => false
  | .cld => false
  | .std => false
  | .pushSpFF => false
  | .loadall => false
  | .clts => false

end Sys2Proof
end

