-- ==== Sys2Proof/Decode.lean ====
section
/-! DEFINITION. The decoder, total on any bytes, and the encoder, both from the tables of
30_encoding.md (R200 to R275), with the byte-order and field helpers they use. -/

namespace Sys2Proof

/-! ## Bytes and words (20_memory.md R107) -/

/-- Bits 7:0 of a word. -/
def loByte (w : Word) : Byte := w.extractLsb' 0 8

/-- Bits 15:8 of a word. -/
def hiByte (w : Word) : Byte := w.extractLsb' 8 8

/-- The word of a low and a high byte. -/
def mkWord (lo hi : Byte) : Word := hi ++ lo

/-- `sext_16` of a byte (00_scope.md R8). -/
def sext16 (b : Byte) : Word := b.signExtend 16

/-- `zext_16` of a byte (R8). -/
def zext16 (b : Byte) : Word := b.setWidth 16

/-! ## Register fields (10_state.md R21, R22, R41; 30_encoding.md R220) -/

/-- The register a 3-bit word-register field names (R21). -/
def Reg16.ofBits (b : BitVec 3) : Reg16 :=
  match b.toNat with
  | 0 => .ax | 1 => .cx | 2 => .dx | 3 => .bx | 4 => .sp | 5 => .bp | 6 => .si | _ => .di

/-- The 3-bit field of a word register (R21). -/
def Reg16.bits : Reg16 → BitVec 3
  | .ax => 0 | .cx => 1 | .dx => 2 | .bx => 3 | .sp => 4 | .bp => 5 | .si => 6 | .di => 7

/-- The register a 3-bit byte-register field names (R22). -/
def Reg8.ofBits (b : BitVec 3) : Reg8 :=
  match b.toNat with
  | 0 => .al | 1 => .cl | 2 => .dl | 3 => .bl | 4 => .ah | 5 => .ch | 6 => .dh | _ => .bh

/-- The 3-bit field of a byte register (R22). -/
def Reg8.bits : Reg8 → BitVec 3
  | .al => 0 | .cl => 1 | .dl => 2 | .bl => 3 | .ah => 4 | .ch => 5 | .dh => 6 | .bh => 7

/-- The segment register the low two bits of a reg field name (R41, R238). -/
def SegReg.ofBits (b : BitVec 3) : SegReg :=
  match b.toNat % 4 with
  | 0 => .es | 1 => .cs | 2 => .ss | _ => .ds

/-- The 3-bit reg field of a segment register, below 4 (R41). -/
def SegReg.bits : SegReg → BitVec 3
  | .es => 0 | .cs => 1 | .ss => 2 | .ds => 3

/-- The address base an r/m field names (R220). -/
def AddrBase.ofBits (b : BitVec 3) : AddrBase :=
  match b.toNat with
  | 0 => .bxsi | 1 => .bxdi | 2 => .bpsi | 3 => .bpdi | 4 => .si | 5 => .di | 6 => .bp | _ => .bx

/-- The r/m field of an address base (R220). -/
def AddrBase.bits : AddrBase → BitVec 3
  | .bxsi => 0 | .bxdi => 1 | .bpsi => 2 | .bpdi => 3 | .si => 4 | .di => 5 | .bp => 6 | .bx => 7

/-- Change what an E operand's register is. -/
def RM.map {ρ σ : Type} (f : ρ → σ) : RM ρ → RM σ
  | .reg r => .reg (f r)
  | .mem m => .mem m

/-! ## Reading fields -/

/-- The decoder's one rejection: the bytes end inside an instruction. Every complete byte string is an
instruction, a prefix byte, an encoding that raises #UD or one that is refused (R274), each a
constructor of `Instr`. -/
inductive DecodeError where
  | truncated
deriving DecidableEq, Repr

/-- A field and the bytes after it. -/
abbrev Dec (α : Type) := Except DecodeError (α × List Byte)

/-- Apply a constructor to a decoded field. -/
def Dec.map {α β : Type} (f : α → β) : Dec α → Dec β
  | .error e => .error e
  | .ok (a, bs) => .ok (f a, bs)

/-- One immediate byte (R224). -/
def imm8 : List Byte → Dec Byte
  | b :: bs => .ok (b, bs)
  | [] => .error .truncated

/-- One little-endian immediate word (R224). -/
def imm16 : List Byte → Dec Word
  | lo :: hi :: bs => .ok (mkWord lo hi, bs)
  | _ => .error .truncated

/-- A word, then a word: `Ap` is the offset, then the selector (R224). -/
def imm16x2 (bs : List Byte) : Dec (Word × Word) :=
  match imm16 bs with
  | .error e => .error e
  | .ok (a, bs') => Dec.map (fun b => (a, b)) (imm16 bs')

/-- ENTER's word, then byte (R226). -/
def imm16imm8 (bs : List Byte) : Dec (Word × Byte) :=
  match imm16 bs with
  | .error e => .error e
  | .ok (a, bs') => Dec.map (fun b => (a, b)) (imm8 bs')

/-- The mod field of a ModRM byte (R218). -/
def modField (b : Byte) : BitVec 2 := b.extractLsb' 6 2

/-- The reg field of a ModRM byte (R218). -/
def regField (b : Byte) : BitVec 3 := b.extractLsb' 3 3

/-- The r/m field of a ModRM byte (R218). -/
def rmField (b : Byte) : BitVec 3 := b.extractLsb' 0 3

/-- The E operand of a ModRM byte with its displacement (R219, R220). -/
def decodeRM (m : Byte) (bs : List Byte) : Dec (RM (BitVec 3)) :=
  match (modField m).toNat with
  | 0 =>
    if rmField m = 6 then Dec.map (fun d => .mem (.direct d)) (imm16 bs)
    else .ok (.mem (.ind (.ofBits (rmField m))), bs)
  | 1 => Dec.map (fun d => .mem (.disp8 (.ofBits (rmField m)) d)) (imm8 bs)
  | 2 => Dec.map (fun d => .mem (.disp16 (.ofBits (rmField m)) d)) (imm16 bs)
  | _ => .ok (.reg (rmField m), bs)

/-- The reg field and the E operand (R218 to R223). -/
def modrm : List Byte → Dec (BitVec 3 × RM (BitVec 3))
  | [] => .error .truncated
  | m :: bs => Dec.map (fun e => (regField m, e)) (decodeRM m bs)

/-- A ModRM encoding that is no instruction: #UD on C186 and C286 (R270), refused on C86 (R273). -/
def badSlot (cls : CpuClass) : Instr :=
  match cls with
  | .c86 => .reservedC86
  | .c186 => .invalidOpcode
  | .c286 => .invalidOpcode

/-- A form with an E and a byte G operand. -/
def formEbGb (c : RM Reg8 → Reg8 → Instr) (bs : List Byte) : Dec Instr :=
  Dec.map (fun p => c (p.2.map .ofBits) (.ofBits p.1)) (modrm bs)

/-- A form with an E and a word G operand. -/
def formEwGw (c : RM Reg16 → Reg16 → Instr) (bs : List Byte) : Dec Instr :=
  Dec.map (fun p => c (p.2.map .ofBits) (.ofBits p.1)) (modrm bs)

/-- A form with a memory operand and a word G operand; with mod 3 it is no instruction (R253). -/
def formMGw (cls : CpuClass) (c : MemRef → Reg16 → Instr) (bs : List Byte) : Dec Instr :=
  Dec.map
    (fun p =>
      match p.2 with
      | .mem m => c m (.ofBits p.1)
      | .reg _ => badSlot cls)
    (modrm bs)

/-- A form with an E operand, a G operand and an immediate after them (R226). -/
def formEwGwImm {α : Type} (c : RM Reg16 → Reg16 → α → Instr) (imm : List Byte → Dec α)
    (bs : List Byte) : Dec Instr :=
  match modrm bs with
  | .error e => .error e
  | .ok ((k, e), bs') => Dec.map (c (e.map .ofBits) (.ofBits k)) (imm bs')

/-- A group: the reg field selects the instruction (R223). -/
def group (sel : BitVec 3 → RM (BitVec 3) → List Byte → Dec Instr) (bs : List Byte) : Dec Instr :=
  match modrm bs with
  | .error e => .error e
  | .ok ((k, e), bs') => sel k e bs'

/-- An E operand of byte registers. -/
def asEb (e : RM (BitVec 3)) : RM Reg8 := e.map .ofBits

/-- An E operand of word registers. -/
def asEw (e : RM (BitVec 3)) : RM Reg16 := e.map .ofBits


/-- Opcode 80, by its reg field (R231 to R237). -/
def group80 (_cls : CpuClass) (k : BitVec 3) (e : RM (BitVec 3)) (bs : List Byte) : Dec Instr :=
  match k.toNat with
  | 0 => Dec.map (Instr.addEbIb false (asEb e)) (imm8 bs)
  | 1 => Dec.map (Instr.orEbIb false (asEb e)) (imm8 bs)
  | 2 => Dec.map (Instr.adcEbIb false (asEb e)) (imm8 bs)
  | 3 => Dec.map (Instr.sbbEbIb false (asEb e)) (imm8 bs)
  | 4 => Dec.map (Instr.andEbIb false (asEb e)) (imm8 bs)
  | 5 => Dec.map (Instr.subEbIb false (asEb e)) (imm8 bs)
  | 6 => Dec.map (Instr.xorEbIb false (asEb e)) (imm8 bs)
  | _ => Dec.map (Instr.cmpEbIb false (asEb e)) (imm8 bs)

/-- Opcode 81, by its reg field (R231 to R237). -/
def group81 (_cls : CpuClass) (k : BitVec 3) (e : RM (BitVec 3)) (bs : List Byte) : Dec Instr :=
  match k.toNat with
  | 0 => Dec.map (Instr.addEwIw (asEw e)) (imm16 bs)
  | 1 => Dec.map (Instr.orEwIw (asEw e)) (imm16 bs)
  | 2 => Dec.map (Instr.adcEwIw (asEw e)) (imm16 bs)
  | 3 => Dec.map (Instr.sbbEwIw (asEw e)) (imm16 bs)
  | 4 => Dec.map (Instr.andEwIw (asEw e)) (imm16 bs)
  | 5 => Dec.map (Instr.subEwIw (asEw e)) (imm16 bs)
  | 6 => Dec.map (Instr.xorEwIw (asEw e)) (imm16 bs)
  | _ => Dec.map (Instr.cmpEwIw (asEw e)) (imm16 bs)

/-- Opcode 82, by its reg field (R231 to R237). -/
def group82 (_cls : CpuClass) (k : BitVec 3) (e : RM (BitVec 3)) (bs : List Byte) : Dec Instr :=
  match k.toNat with
  | 0 => Dec.map (Instr.addEbIb true (asEb e)) (imm8 bs)
  | 1 => Dec.map (Instr.orEbIb true (asEb e)) (imm8 bs)
  | 2 => Dec.map (Instr.adcEbIb true (asEb e)) (imm8 bs)
  | 3 => Dec.map (Instr.sbbEbIb true (asEb e)) (imm8 bs)
  | 4 => Dec.map (Instr.andEbIb true (asEb e)) (imm8 bs)
  | 5 => Dec.map (Instr.subEbIb true (asEb e)) (imm8 bs)
  | 6 => Dec.map (Instr.xorEbIb true (asEb e)) (imm8 bs)
  | _ => Dec.map (Instr.cmpEbIb true (asEb e)) (imm8 bs)

/-- Opcode 83, by its reg field (R231 to R237). -/
def group83 (_cls : CpuClass) (k : BitVec 3) (e : RM (BitVec 3)) (bs : List Byte) : Dec Instr :=
  match k.toNat with
  | 0 => Dec.map (Instr.addEwIbs (asEw e)) (imm8 bs)
  | 1 => Dec.map (Instr.orEwIbs (asEw e)) (imm8 bs)
  | 2 => Dec.map (Instr.adcEwIbs (asEw e)) (imm8 bs)
  | 3 => Dec.map (Instr.sbbEwIbs (asEw e)) (imm8 bs)
  | 4 => Dec.map (Instr.andEwIbs (asEw e)) (imm8 bs)
  | 5 => Dec.map (Instr.subEwIbs (asEw e)) (imm8 bs)
  | 6 => Dec.map (Instr.xorEwIbs (asEw e)) (imm8 bs)
  | _ => Dec.map (Instr.cmpEwIbs (asEw e)) (imm8 bs)

/-- Opcode 8F, by its reg field (R231 to R237). -/
def group8F (cls : CpuClass) (k : BitVec 3) (e : RM (BitVec 3)) (bs : List Byte) : Dec Instr :=
  match k.toNat with
  | 0 => .ok (Instr.popEw (asEw e), bs)
  | _ => .ok (badSlot cls, bs)

/-- Opcode C0, by its reg field (R231 to R237). -/
def groupC0 (cls : CpuClass) (k : BitVec 3) (e : RM (BitVec 3)) (bs : List Byte) : Dec Instr :=
  match k.toNat with
  | 0 => Dec.map (Instr.rolEbIb (asEb e)) (imm8 bs)
  | 1 => Dec.map (Instr.rorEbIb (asEb e)) (imm8 bs)
  | 2 => Dec.map (Instr.rclEbIb (asEb e)) (imm8 bs)
  | 3 => Dec.map (Instr.rcrEbIb (asEb e)) (imm8 bs)
  | 4 => Dec.map (Instr.shlEbIb (asEb e)) (imm8 bs)
  | 5 => Dec.map (Instr.shrEbIb (asEb e)) (imm8 bs)
  | 6 => .ok (badSlot cls, bs)
  | _ => Dec.map (Instr.sarEbIb (asEb e)) (imm8 bs)

/-- Opcode C1, by its reg field (R231 to R237). -/
def groupC1 (cls : CpuClass) (k : BitVec 3) (e : RM (BitVec 3)) (bs : List Byte) : Dec Instr :=
  match k.toNat with
  | 0 => Dec.map (Instr.rolEwIb (asEw e)) (imm8 bs)
  | 1 => Dec.map (Instr.rorEwIb (asEw e)) (imm8 bs)
  | 2 => Dec.map (Instr.rclEwIb (asEw e)) (imm8 bs)
  | 3 => Dec.map (Instr.rcrEwIb (asEw e)) (imm8 bs)
  | 4 => Dec.map (Instr.shlEwIb (asEw e)) (imm8 bs)
  | 5 => Dec.map (Instr.shrEwIb (asEw e)) (imm8 bs)
  | 6 => .ok (badSlot cls, bs)
  | _ => Dec.map (Instr.sarEwIb (asEw e)) (imm8 bs)

/-- Opcode D0, by its reg field (R231 to R237). -/
def groupD0 (cls : CpuClass) (k : BitVec 3) (e : RM (BitVec 3)) (bs : List Byte) : Dec Instr :=
  match k.toNat with
  | 0 => .ok (Instr.rolEb1 (asEb e), bs)
  | 1 => .ok (Instr.rorEb1 (asEb e), bs)
  | 2 => .ok (Instr.rclEb1 (asEb e), bs)
  | 3 => .ok (Instr.rcrEb1 (asEb e), bs)
  | 4 => .ok (Instr.shlEb1 (asEb e), bs)
  | 5 => .ok (Instr.shrEb1 (asEb e), bs)
  | 6 => .ok (badSlot cls, bs)
  | _ => .ok (Instr.sarEb1 (asEb e), bs)

/-- Opcode D1, by its reg field (R231 to R237). -/
def groupD1 (cls : CpuClass) (k : BitVec 3) (e : RM (BitVec 3)) (bs : List Byte) : Dec Instr :=
  match k.toNat with
  | 0 => .ok (Instr.rolEw1 (asEw e), bs)
  | 1 => .ok (Instr.rorEw1 (asEw e), bs)
  | 2 => .ok (Instr.rclEw1 (asEw e), bs)
  | 3 => .ok (Instr.rcrEw1 (asEw e), bs)
  | 4 => .ok (Instr.shlEw1 (asEw e), bs)
  | 5 => .ok (Instr.shrEw1 (asEw e), bs)
  | 6 => .ok (badSlot cls, bs)
  | _ => .ok (Instr.sarEw1 (asEw e), bs)

/-- Opcode D2, by its reg field (R231 to R237). -/
def groupD2 (cls : CpuClass) (k : BitVec 3) (e : RM (BitVec 3)) (bs : List Byte) : Dec Instr :=
  match k.toNat with
  | 0 => .ok (Instr.rolEbCl (asEb e), bs)
  | 1 => .ok (Instr.rorEbCl (asEb e), bs)
  | 2 => .ok (Instr.rclEbCl (asEb e), bs)
  | 3 => .ok (Instr.rcrEbCl (asEb e), bs)
  | 4 => .ok (Instr.shlEbCl (asEb e), bs)
  | 5 => .ok (Instr.shrEbCl (asEb e), bs)
  | 6 => .ok (badSlot cls, bs)
  | _ => .ok (Instr.sarEbCl (asEb e), bs)

/-- Opcode D3, by its reg field (R231 to R237). -/
def groupD3 (cls : CpuClass) (k : BitVec 3) (e : RM (BitVec 3)) (bs : List Byte) : Dec Instr :=
  match k.toNat with
  | 0 => .ok (Instr.rolEwCl (asEw e), bs)
  | 1 => .ok (Instr.rorEwCl (asEw e), bs)
  | 2 => .ok (Instr.rclEwCl (asEw e), bs)
  | 3 => .ok (Instr.rcrEwCl (asEw e), bs)
  | 4 => .ok (Instr.shlEwCl (asEw e), bs)
  | 5 => .ok (Instr.shrEwCl (asEw e), bs)
  | 6 => .ok (badSlot cls, bs)
  | _ => .ok (Instr.sarEwCl (asEw e), bs)

/-- Opcode C6, by its reg field (R231 to R237). -/
def groupC6 (cls : CpuClass) (k : BitVec 3) (e : RM (BitVec 3)) (bs : List Byte) : Dec Instr :=
  match k.toNat with
  | 0 => Dec.map (Instr.movEbIb (asEb e)) (imm8 bs)
  | _ => .ok (badSlot cls, bs)

/-- Opcode C7, by its reg field (R231 to R237). -/
def groupC7 (cls : CpuClass) (k : BitVec 3) (e : RM (BitVec 3)) (bs : List Byte) : Dec Instr :=
  match k.toNat with
  | 0 => Dec.map (Instr.movEwIw (asEw e)) (imm16 bs)
  | _ => .ok (badSlot cls, bs)

/-- Opcode F6, by its reg field (R231 to R237). -/
def groupF6 (cls : CpuClass) (k : BitVec 3) (e : RM (BitVec 3)) (bs : List Byte) : Dec Instr :=
  match k.toNat with
  | 0 => Dec.map (Instr.testEbIb (asEb e)) (imm8 bs)
  | 1 =>
    match cls with
    | .c86 => Dec.map (Instr.testEbIb1 (asEb e)) (imm8 bs)
    | .c186 => .ok (badSlot cls, bs)
    | .c286 => .ok (badSlot cls, bs)
  | 2 => .ok (Instr.notEb (asEb e), bs)
  | 3 => .ok (Instr.negEb (asEb e), bs)
  | 4 => .ok (Instr.mulEb (asEb e), bs)
  | 5 => .ok (Instr.imulEb (asEb e), bs)
  | 6 => .ok (Instr.divEb (asEb e), bs)
  | _ => .ok (Instr.idivEb (asEb e), bs)

/-- Opcode F7, by its reg field (R231 to R237). -/
def groupF7 (cls : CpuClass) (k : BitVec 3) (e : RM (BitVec 3)) (bs : List Byte) : Dec Instr :=
  match k.toNat with
  | 0 => Dec.map (Instr.testEwIw (asEw e)) (imm16 bs)
  | 1 =>
    match cls with
    | .c86 => Dec.map (Instr.testEwIw1 (asEw e)) (imm16 bs)
    | .c186 => .ok (badSlot cls, bs)
    | .c286 => .ok (badSlot cls, bs)
  | 2 => .ok (Instr.notEw (asEw e), bs)
  | 3 => .ok (Instr.negEw (asEw e), bs)
  | 4 => .ok (Instr.mulEw (asEw e), bs)
  | 5 => .ok (Instr.imulEw (asEw e), bs)
  | 6 => .ok (Instr.divEw (asEw e), bs)
  | _ => .ok (Instr.idivEw (asEw e), bs)

/-- Opcode FE, by its reg field (R231 to R237). -/
def groupFE (cls : CpuClass) (k : BitVec 3) (e : RM (BitVec 3)) (bs : List Byte) : Dec Instr :=
  match k.toNat with
  | 0 => .ok (Instr.incEb (asEb e), bs)
  | 1 => .ok (Instr.decEb (asEb e), bs)
  | _ => .ok (badSlot cls, bs)

/-- Opcode FF, by its reg field (R231 to R237). -/
def groupFF (cls : CpuClass) (k : BitVec 3) (e : RM (BitVec 3)) (bs : List Byte) : Dec Instr :=
  match k.toNat with
  | 0 => .ok (Instr.incEw (asEw e), bs)
  | 1 => .ok (Instr.decEw (asEw e), bs)
  | 2 => .ok (Instr.callEw (asEw e), bs)
  | 3 =>
    match e with
    | .mem m => .ok (Instr.callMp m, bs)
    | .reg _ => .ok (badSlot cls, bs)
  | 4 => .ok (Instr.jmpEw (asEw e), bs)
  | 5 =>
    match e with
    | .mem m => .ok (Instr.jmpMp m, bs)
    | .reg _ => .ok (badSlot cls, bs)
  | 6 => if e = .reg 4 then .ok (Instr.pushSpFF, bs) else .ok (Instr.pushEw (asEw e), bs)
  | _ => .ok (badSlot cls, bs)

/-- Opcode 8C (R238): reg 4-7 name the registers of reg-4 on C86 and raise #UD on the later classes. -/
def group8C (cls : CpuClass) (k : BitVec 3) (e : RM (BitVec 3)) (bs : List Byte) : Dec Instr :=
  if k.toNat < 4 then .ok (Instr.movEwSw (asEw e) (.ofBits k), bs)
  else
    match cls with
    | .c86 => .ok (Instr.movEwSwHigh (asEw e) (.ofBits k), bs)
    | .c186 => .ok (badSlot cls, bs)
    | .c286 => .ok (badSlot cls, bs)

/-- Opcode 8E (R238): reg 1 is MOV CS on C86; it and reg 4-7 raise #UD on the later classes. -/
def group8E (cls : CpuClass) (k : BitVec 3) (e : RM (BitVec 3)) (bs : List Byte) : Dec Instr :=
  match cls with
  | .c86 =>
    if k = 1 then .ok (Instr.movCsEw (asEw e), bs)
    else if k.toNat < 4 then .ok (Instr.movSwEw (asEw e) (.ofBits k), bs)
    else .ok (Instr.movSwEwHigh (asEw e) (.ofBits k), bs)
  | .c186 =>
    if k = 1 ∨ 4 ≤ k.toNat then .ok (badSlot cls, bs)
    else .ok (Instr.movSwEw (asEw e) (.ofBits k), bs)
  | .c286 =>
    if k = 1 ∨ 4 ≤ k.toNat then .ok (badSlot cls, bs)
    else .ok (Instr.movSwEw (asEw e) (.ofBits k), bs)

/-- Group 6, 0F 00 (R258). -/
def group0F00 (k : BitVec 3) (e : RM (BitVec 3)) (bs : List Byte) : Dec Instr :=
  match k.toNat with
  | 0 => .ok (Instr.sldtEw (asEw e), bs)
  | 1 => .ok (Instr.strEw (asEw e), bs)
  | 2 => .ok (Instr.lldtEw (asEw e), bs)
  | 3 => .ok (Instr.ltrEw (asEw e), bs)
  | 4 => .ok (Instr.verrEw (asEw e), bs)
  | 5 => .ok (Instr.verwEw (asEw e), bs)
  | _ => .ok (Instr.invalidOpcode, bs)

/-- A memory-only slot of group 7 (R253, R259). -/
def ext01Mem (c : MemRef → Instr) : RM (BitVec 3) → Instr
  | .mem m => c m
  | .reg _ => .invalidOpcode

/-- Group 7, 0F 01 (R259). -/
def group0F01 (k : BitVec 3) (e : RM (BitVec 3)) (bs : List Byte) : Dec Instr :=
  match k.toNat with
  | 0 => .ok (ext01Mem .sgdtMs e, bs)
  | 1 => .ok (ext01Mem .sidtMs e, bs)
  | 2 => .ok (ext01Mem .lgdtMs e, bs)
  | 3 => .ok (ext01Mem .lidtMs e, bs)
  | 4 => .ok (Instr.smswEw (asEw e), bs)
  | 6 => .ok (Instr.lmswEw (asEw e), bs)
  | _ => .ok (Instr.invalidOpcode, bs)

/-- The 0F map of C286 (R257). -/
def decodeExt : List Byte → Dec Instr
  | [] => .error .truncated
  | op :: bs =>
    match op.toNat with
    | 0x00 => group group0F00 bs
    | 0x01 => group group0F01 bs
    | 0x02 => formEwGw .larGwEw bs
    | 0x03 => formEwGw .lslGwEw bs
    | 0x05 => .ok (Instr.loadall, bs)
    | 0x06 => .ok (Instr.clts, bs)
    | _ => .ok (Instr.invalidOpcode, bs)

/-- Opcodes 00 to 0F of the primary map (R230). -/
def decode0 (cls : CpuClass) (lo : Nat) (bs : List Byte) : Dec Instr :=
  match lo with
  | 0 => formEbGb .addEbGb bs
  | 1 => formEwGw .addEwGw bs
  | 2 => formEbGb .addGbEb bs
  | 3 => formEwGw .addGwEw bs
  | 4 => Dec.map Instr.addAlIb (imm8 bs)
  | 5 => Dec.map Instr.addAxIw (imm16 bs)
  | 6 => .ok (Instr.pushEs, bs)
  | 7 => .ok (Instr.popEs, bs)
  | 8 => formEbGb .orEbGb bs
  | 9 => formEwGw .orEwGw bs
  | 10 => formEbGb .orGbEb bs
  | 11 => formEwGw .orGwEw bs
  | 12 => Dec.map Instr.orAlIb (imm8 bs)
  | 13 => Dec.map Instr.orAxIw (imm16 bs)
  | 14 => .ok (Instr.pushCs, bs)
  | _ =>
    match cls with
    | .c86 => .ok (Instr.popCs, bs)
    | .c186 => .ok (Instr.invalidOpcode, bs)
    | .c286 => decodeExt bs

/-- Opcodes 10 to 1F of the primary map (R230). -/
def decode1 (_cls : CpuClass) (lo : Nat) (bs : List Byte) : Dec Instr :=
  match lo with
  | 0 => formEbGb .adcEbGb bs
  | 1 => formEwGw .adcEwGw bs
  | 2 => formEbGb .adcGbEb bs
  | 3 => formEwGw .adcGwEw bs
  | 4 => Dec.map Instr.adcAlIb (imm8 bs)
  | 5 => Dec.map Instr.adcAxIw (imm16 bs)
  | 6 => .ok (Instr.pushSs, bs)
  | 7 => .ok (Instr.popSs, bs)
  | 8 => formEbGb .sbbEbGb bs
  | 9 => formEwGw .sbbEwGw bs
  | 10 => formEbGb .sbbGbEb bs
  | 11 => formEwGw .sbbGwEw bs
  | 12 => Dec.map Instr.sbbAlIb (imm8 bs)
  | 13 => Dec.map Instr.sbbAxIw (imm16 bs)
  | 14 => .ok (Instr.pushDs, bs)
  | _ => .ok (Instr.popDs, bs)

/-- Opcodes 20 to 2F of the primary map (R230). -/
def decode2 (_cls : CpuClass) (lo : Nat) (bs : List Byte) : Dec Instr :=
  match lo with
  | 0 => formEbGb .andEbGb bs
  | 1 => formEwGw .andEwGw bs
  | 2 => formEbGb .andGbEb bs
  | 3 => formEwGw .andGwEw bs
  | 4 => Dec.map Instr.andAlIb (imm8 bs)
  | 5 => Dec.map Instr.andAxIw (imm16 bs)
  | 6 => .ok (Instr.prefixEs, bs)
  | 7 => .ok (Instr.daa, bs)
  | 8 => formEbGb .subEbGb bs
  | 9 => formEwGw .subEwGw bs
  | 10 => formEbGb .subGbEb bs
  | 11 => formEwGw .subGwEw bs
  | 12 => Dec.map Instr.subAlIb (imm8 bs)
  | 13 => Dec.map Instr.subAxIw (imm16 bs)
  | 14 => .ok (Instr.prefixCs, bs)
  | _ => .ok (Instr.das, bs)

/-- Opcodes 30 to 3F of the primary map (R230). -/
def decode3 (_cls : CpuClass) (lo : Nat) (bs : List Byte) : Dec Instr :=
  match lo with
  | 0 => formEbGb .xorEbGb bs
  | 1 => formEwGw .xorEwGw bs
  | 2 => formEbGb .xorGbEb bs
  | 3 => formEwGw .xorGwEw bs
  | 4 => Dec.map Instr.xorAlIb (imm8 bs)
  | 5 => Dec.map Instr.xorAxIw (imm16 bs)
  | 6 => .ok (Instr.prefixSs, bs)
  | 7 => .ok (Instr.aaa, bs)
  | 8 => formEbGb .cmpEbGb bs
  | 9 => formEwGw .cmpEwGw bs
  | 10 => formEbGb .cmpGbEb bs
  | 11 => formEwGw .cmpGwEw bs
  | 12 => Dec.map Instr.cmpAlIb (imm8 bs)
  | 13 => Dec.map Instr.cmpAxIw (imm16 bs)
  | 14 => .ok (Instr.prefixDs, bs)
  | _ => .ok (Instr.aas, bs)

/-- Opcodes 40 to 4F of the primary map (R230). -/
def decode4 (_cls : CpuClass) (lo : Nat) (bs : List Byte) : Dec Instr :=
  match lo with
  | 0 => .ok (Instr.incR16 .ax, bs)
  | 1 => .ok (Instr.incR16 .cx, bs)
  | 2 => .ok (Instr.incR16 .dx, bs)
  | 3 => .ok (Instr.incR16 .bx, bs)
  | 4 => .ok (Instr.incR16 .sp, bs)
  | 5 => .ok (Instr.incR16 .bp, bs)
  | 6 => .ok (Instr.incR16 .si, bs)
  | 7 => .ok (Instr.incR16 .di, bs)
  | 8 => .ok (Instr.decR16 .ax, bs)
  | 9 => .ok (Instr.decR16 .cx, bs)
  | 10 => .ok (Instr.decR16 .dx, bs)
  | 11 => .ok (Instr.decR16 .bx, bs)
  | 12 => .ok (Instr.decR16 .sp, bs)
  | 13 => .ok (Instr.decR16 .bp, bs)
  | 14 => .ok (Instr.decR16 .si, bs)
  | _ => .ok (Instr.decR16 .di, bs)

/-- Opcodes 50 to 5F of the primary map (R230). -/
def decode5 (_cls : CpuClass) (lo : Nat) (bs : List Byte) : Dec Instr :=
  match lo with
  | 0 => .ok (Instr.pushR16 .ax, bs)
  | 1 => .ok (Instr.pushR16 .cx, bs)
  | 2 => .ok (Instr.pushR16 .dx, bs)
  | 3 => .ok (Instr.pushR16 .bx, bs)
  | 4 => .ok (Instr.pushSp, bs)
  | 5 => .ok (Instr.pushR16 .bp, bs)
  | 6 => .ok (Instr.pushR16 .si, bs)
  | 7 => .ok (Instr.pushR16 .di, bs)
  | 8 => .ok (Instr.popR16 .ax, bs)
  | 9 => .ok (Instr.popR16 .cx, bs)
  | 10 => .ok (Instr.popR16 .dx, bs)
  | 11 => .ok (Instr.popR16 .bx, bs)
  | 12 => .ok (Instr.popR16 .sp, bs)
  | 13 => .ok (Instr.popR16 .bp, bs)
  | 14 => .ok (Instr.popR16 .si, bs)
  | _ => .ok (Instr.popR16 .di, bs)

/-- Opcodes 60 to 6F of the primary map (R230). -/
def decode6 (cls : CpuClass) (lo : Nat) (bs : List Byte) : Dec Instr :=
  match lo with
  | 0 =>
    match cls with
    | .c86 => Dec.map Instr.joJb60 (imm8 bs)
    | .c186 => .ok (Instr.pusha, bs)
    | .c286 => .ok (Instr.pusha, bs)
  | 1 =>
    match cls with
    | .c86 => Dec.map Instr.jnoJb61 (imm8 bs)
    | .c186 => .ok (Instr.popa, bs)
    | .c286 => .ok (Instr.popa, bs)
  | 2 =>
    match cls with
    | .c86 => Dec.map Instr.jbJb62 (imm8 bs)
    | .c186 => formMGw cls .boundGwMa bs
    | .c286 => formMGw cls .boundGwMa bs
  | 3 =>
    match cls with
    | .c86 => Dec.map Instr.jnbJb63 (imm8 bs)
    | .c186 => .ok (Instr.invalidOpcode, bs)
    | .c286 => formEwGw .arplEwGw bs
  | 4 =>
    match cls with
    | .c86 => Dec.map Instr.jzJb64 (imm8 bs)
    | .c186 => .ok (Instr.invalidOpcode, bs)
    | .c286 => .ok (Instr.invalidOpcode, bs)
  | 5 =>
    match cls with
    | .c86 => Dec.map Instr.jnzJb65 (imm8 bs)
    | .c186 => .ok (Instr.invalidOpcode, bs)
    | .c286 => .ok (Instr.invalidOpcode, bs)
  | 6 =>
    match cls with
    | .c86 => Dec.map Instr.jbeJb66 (imm8 bs)
    | .c186 => .ok (Instr.invalidOpcode, bs)
    | .c286 => .ok (Instr.invalidOpcode, bs)
  | 7 =>
    match cls with
    | .c86 => Dec.map Instr.jaJb67 (imm8 bs)
    | .c186 => .ok (Instr.invalidOpcode, bs)
    | .c286 => .ok (Instr.invalidOpcode, bs)
  | 8 =>
    match cls with
    | .c86 => Dec.map Instr.jsJb68 (imm8 bs)
    | .c186 => Dec.map Instr.pushIw (imm16 bs)
    | .c286 => Dec.map Instr.pushIw (imm16 bs)
  | 9 =>
    match cls with
    | .c86 => Dec.map Instr.jnsJb69 (imm8 bs)
    | .c186 => formEwGwImm .imulGwEwIw imm16 bs
    | .c286 => formEwGwImm .imulGwEwIw imm16 bs
  | 10 =>
    match cls with
    | .c86 => Dec.map Instr.jpJb6A (imm8 bs)
    | .c186 => Dec.map Instr.pushIbs (imm8 bs)
    | .c286 => Dec.map Instr.pushIbs (imm8 bs)
  | 11 =>
    match cls with
    | .c86 => Dec.map Instr.jnpJb6B (imm8 bs)
    | .c186 => formEwGwImm .imulGwEwIbs imm8 bs
    | .c286 => formEwGwImm .imulGwEwIbs imm8 bs
  | 12 =>
    match cls with
    | .c86 => Dec.map Instr.jlJb6C (imm8 bs)
    | .c186 => .ok (Instr.insb, bs)
    | .c286 => .ok (Instr.insb, bs)
  | 13 =>
    match cls with
    | .c86 => Dec.map Instr.jgeJb6D (imm8 bs)
    | .c186 => .ok (Instr.insw, bs)
    | .c286 => .ok (Instr.insw, bs)
  | 14 =>
    match cls with
    | .c86 => Dec.map Instr.jleJb6E (imm8 bs)
    | .c186 => .ok (Instr.outsb, bs)
    | .c286 => .ok (Instr.outsb, bs)
  | _ =>
    match cls with
    | .c86 => Dec.map Instr.jgJb6F (imm8 bs)
    | .c186 => .ok (Instr.outsw, bs)
    | .c286 => .ok (Instr.outsw, bs)

/-- Opcodes 70 to 7F of the primary map (R230). -/
def decode7 (_cls : CpuClass) (lo : Nat) (bs : List Byte) : Dec Instr :=
  match lo with
  | 0 => Dec.map Instr.joJb (imm8 bs)
  | 1 => Dec.map Instr.jnoJb (imm8 bs)
  | 2 => Dec.map Instr.jbJb (imm8 bs)
  | 3 => Dec.map Instr.jnbJb (imm8 bs)
  | 4 => Dec.map Instr.jzJb (imm8 bs)
  | 5 => Dec.map Instr.jnzJb (imm8 bs)
  | 6 => Dec.map Instr.jbeJb (imm8 bs)
  | 7 => Dec.map Instr.jaJb (imm8 bs)
  | 8 => Dec.map Instr.jsJb (imm8 bs)
  | 9 => Dec.map Instr.jnsJb (imm8 bs)
  | 10 => Dec.map Instr.jpJb (imm8 bs)
  | 11 => Dec.map Instr.jnpJb (imm8 bs)
  | 12 => Dec.map Instr.jlJb (imm8 bs)
  | 13 => Dec.map Instr.jgeJb (imm8 bs)
  | 14 => Dec.map Instr.jleJb (imm8 bs)
  | _ => Dec.map Instr.jgJb (imm8 bs)

/-- Opcodes 80 to 8F of the primary map (R230). -/
def decode8 (cls : CpuClass) (lo : Nat) (bs : List Byte) : Dec Instr :=
  match lo with
  | 0 => group (group80 cls) bs
  | 1 => group (group81 cls) bs
  | 2 => group (group82 cls) bs
  | 3 => group (group83 cls) bs
  | 4 => formEbGb .testEbGb bs
  | 5 => formEwGw .testEwGw bs
  | 6 => formEbGb .xchgEbGb bs
  | 7 => formEwGw .xchgEwGw bs
  | 8 => formEbGb .movEbGb bs
  | 9 => formEwGw .movEwGw bs
  | 10 => formEbGb .movGbEb bs
  | 11 => formEwGw .movGwEw bs
  | 12 => group (group8C cls) bs
  | 13 => formMGw cls .leaGwM bs
  | 14 => group (group8E cls) bs
  | _ => group (group8F cls) bs

/-- Opcodes 90 to 9F of the primary map (R230). -/
def decode9 (_cls : CpuClass) (lo : Nat) (bs : List Byte) : Dec Instr :=
  match lo with
  | 0 => .ok (Instr.nop, bs)
  | 1 => .ok (Instr.xchgAxCx, bs)
  | 2 => .ok (Instr.xchgAxDx, bs)
  | 3 => .ok (Instr.xchgAxBx, bs)
  | 4 => .ok (Instr.xchgAxSp, bs)
  | 5 => .ok (Instr.xchgAxBp, bs)
  | 6 => .ok (Instr.xchgAxSi, bs)
  | 7 => .ok (Instr.xchgAxDi, bs)
  | 8 => .ok (Instr.cbw, bs)
  | 9 => .ok (Instr.cwd, bs)
  | 10 => Dec.map (fun p => Instr.callAp p.1 p.2) (imm16x2 bs)
  | 11 => .ok (Instr.wait, bs)
  | 12 => .ok (Instr.pushf, bs)
  | 13 => .ok (Instr.popf, bs)
  | 14 => .ok (Instr.sahf, bs)
  | _ => .ok (Instr.lahf, bs)

/-- Opcodes A0 to AF of the primary map (R230). -/
def decodeA (_cls : CpuClass) (lo : Nat) (bs : List Byte) : Dec Instr :=
  match lo with
  | 0 => Dec.map Instr.movAlOb (imm16 bs)
  | 1 => Dec.map Instr.movAxOw (imm16 bs)
  | 2 => Dec.map Instr.movObAl (imm16 bs)
  | 3 => Dec.map Instr.movOwAx (imm16 bs)
  | 4 => .ok (Instr.movsb, bs)
  | 5 => .ok (Instr.movsw, bs)
  | 6 => .ok (Instr.cmpsb, bs)
  | 7 => .ok (Instr.cmpsw, bs)
  | 8 => Dec.map Instr.testAlIb (imm8 bs)
  | 9 => Dec.map Instr.testAxIw (imm16 bs)
  | 10 => .ok (Instr.stosb, bs)
  | 11 => .ok (Instr.stosw, bs)
  | 12 => .ok (Instr.lodsb, bs)
  | 13 => .ok (Instr.lodsw, bs)
  | 14 => .ok (Instr.scasb, bs)
  | _ => .ok (Instr.scasw, bs)

/-- Opcodes B0 to BF of the primary map (R230). -/
def decodeB (_cls : CpuClass) (lo : Nat) (bs : List Byte) : Dec Instr :=
  match lo with
  | 0 => Dec.map (Instr.movR8Ib .al) (imm8 bs)
  | 1 => Dec.map (Instr.movR8Ib .cl) (imm8 bs)
  | 2 => Dec.map (Instr.movR8Ib .dl) (imm8 bs)
  | 3 => Dec.map (Instr.movR8Ib .bl) (imm8 bs)
  | 4 => Dec.map (Instr.movR8Ib .ah) (imm8 bs)
  | 5 => Dec.map (Instr.movR8Ib .ch) (imm8 bs)
  | 6 => Dec.map (Instr.movR8Ib .dh) (imm8 bs)
  | 7 => Dec.map (Instr.movR8Ib .bh) (imm8 bs)
  | 8 => Dec.map (Instr.movR16Iw .ax) (imm16 bs)
  | 9 => Dec.map (Instr.movR16Iw .cx) (imm16 bs)
  | 10 => Dec.map (Instr.movR16Iw .dx) (imm16 bs)
  | 11 => Dec.map (Instr.movR16Iw .bx) (imm16 bs)
  | 12 => Dec.map (Instr.movR16Iw .sp) (imm16 bs)
  | 13 => Dec.map (Instr.movR16Iw .bp) (imm16 bs)
  | 14 => Dec.map (Instr.movR16Iw .si) (imm16 bs)
  | _ => Dec.map (Instr.movR16Iw .di) (imm16 bs)

/-- Opcodes C0 to CF of the primary map (R230). -/
def decodeC (cls : CpuClass) (lo : Nat) (bs : List Byte) : Dec Instr :=
  match lo with
  | 0 =>
    match cls with
    | .c86 => Dec.map Instr.retIwC0 (imm16 bs)
    | .c186 => group (groupC0 cls) bs
    | .c286 => group (groupC0 cls) bs
  | 1 =>
    match cls with
    | .c86 => .ok (Instr.retC1, bs)
    | .c186 => group (groupC1 cls) bs
    | .c286 => group (groupC1 cls) bs
  | 2 => Dec.map Instr.retIw (imm16 bs)
  | 3 => .ok (Instr.ret, bs)
  | 4 => formMGw cls .lesGwMp bs
  | 5 => formMGw cls .ldsGwMp bs
  | 6 => group (groupC6 cls) bs
  | 7 => group (groupC7 cls) bs
  | 8 =>
    match cls with
    | .c86 => Dec.map Instr.retfIwC8 (imm16 bs)
    | .c186 => Dec.map (fun p => Instr.enterIwIb p.1 p.2) (imm16imm8 bs)
    | .c286 => Dec.map (fun p => Instr.enterIwIb p.1 p.2) (imm16imm8 bs)
  | 9 =>
    match cls with
    | .c86 => .ok (Instr.retfC9, bs)
    | .c186 => .ok (Instr.leave, bs)
    | .c286 => .ok (Instr.leave, bs)
  | 10 => Dec.map Instr.retfIw (imm16 bs)
  | 11 => .ok (Instr.retf, bs)
  | 12 => .ok (Instr.int3, bs)
  | 13 => Dec.map Instr.intIb (imm8 bs)
  | 14 => .ok (Instr.into, bs)
  | _ => .ok (Instr.iret, bs)

/-- Opcodes D0 to DF of the primary map (R230). -/
def decodeD (cls : CpuClass) (lo : Nat) (bs : List Byte) : Dec Instr :=
  match lo with
  | 0 => group (groupD0 cls) bs
  | 1 => group (groupD1 cls) bs
  | 2 => group (groupD2 cls) bs
  | 3 => group (groupD3 cls) bs
  | 4 => Dec.map Instr.aamIb (imm8 bs)
  | 5 => Dec.map Instr.aadIb (imm8 bs)
  | 6 => .ok (Instr.salc, bs)
  | 7 => .ok (Instr.xlat, bs)
  | 8 => group (fun k e bs => .ok (Instr.esc 0 k (asEw e), bs)) bs
  | 9 => group (fun k e bs => .ok (Instr.esc 1 k (asEw e), bs)) bs
  | 10 => group (fun k e bs => .ok (Instr.esc 2 k (asEw e), bs)) bs
  | 11 => group (fun k e bs => .ok (Instr.esc 3 k (asEw e), bs)) bs
  | 12 => group (fun k e bs => .ok (Instr.esc 4 k (asEw e), bs)) bs
  | 13 => group (fun k e bs => .ok (Instr.esc 5 k (asEw e), bs)) bs
  | 14 => group (fun k e bs => .ok (Instr.esc 6 k (asEw e), bs)) bs
  | _ => group (fun k e bs => .ok (Instr.esc 7 k (asEw e), bs)) bs

/-- Opcodes E0 to EF of the primary map (R230). -/
def decodeE (_cls : CpuClass) (lo : Nat) (bs : List Byte) : Dec Instr :=
  match lo with
  | 0 => Dec.map Instr.loopnzJb (imm8 bs)
  | 1 => Dec.map Instr.loopzJb (imm8 bs)
  | 2 => Dec.map Instr.loopJb (imm8 bs)
  | 3 => Dec.map Instr.jcxzJb (imm8 bs)
  | 4 => Dec.map Instr.inAlIb (imm8 bs)
  | 5 => Dec.map Instr.inAxIb (imm8 bs)
  | 6 => Dec.map Instr.outIbAl (imm8 bs)
  | 7 => Dec.map Instr.outIbAx (imm8 bs)
  | 8 => Dec.map Instr.callJw (imm16 bs)
  | 9 => Dec.map Instr.jmpJw (imm16 bs)
  | 10 => Dec.map (fun p => Instr.jmpAp p.1 p.2) (imm16x2 bs)
  | 11 => Dec.map Instr.jmpJb (imm8 bs)
  | 12 => .ok (Instr.inAlDx, bs)
  | 13 => .ok (Instr.inAxDx, bs)
  | 14 => .ok (Instr.outDxAl, bs)
  | _ => .ok (Instr.outDxAx, bs)

/-- Opcodes F0 to FF of the primary map (R230). -/
def decodeF (cls : CpuClass) (lo : Nat) (bs : List Byte) : Dec Instr :=
  match lo with
  | 0 => .ok (Instr.prefixLock, bs)
  | 1 =>
    match cls with
    | .c86 => .ok (Instr.prefixLockF1, bs)
    | .c186 => .ok (Instr.invalidOpcode, bs)
    | .c286 => .ok (Instr.invalidOpcode, bs)
  | 2 => .ok (Instr.prefixRepne, bs)
  | 3 => .ok (Instr.prefixRep, bs)
  | 4 => .ok (Instr.hlt, bs)
  | 5 => .ok (Instr.cmc, bs)
  | 6 => group (groupF6 cls) bs
  | 7 => group (groupF7 cls) bs
  | 8 => .ok (Instr.clc, bs)
  | 9 => .ok (Instr.stc, bs)
  | 10 => .ok (Instr.cli, bs)
  | 11 => .ok (Instr.sti, bs)
  | 12 => .ok (Instr.cld, bs)
  | 13 => .ok (Instr.std, bs)
  | 14 => group (groupFE cls) bs
  | _ => group (groupFF cls) bs

/-- The instruction, or the prefix byte, that the bytes begin with on the class (R200, R230, R274). -/
def decode (cls : CpuClass) : List Byte → Dec Instr
  | [] => .error .truncated
  | op :: bs =>
    match op.toNat / 16 with
    | 0x0 => decode0 cls (op.toNat % 16) bs
    | 0x1 => decode1 cls (op.toNat % 16) bs
    | 0x2 => decode2 cls (op.toNat % 16) bs
    | 0x3 => decode3 cls (op.toNat % 16) bs
    | 0x4 => decode4 cls (op.toNat % 16) bs
    | 0x5 => decode5 cls (op.toNat % 16) bs
    | 0x6 => decode6 cls (op.toNat % 16) bs
    | 0x7 => decode7 cls (op.toNat % 16) bs
    | 0x8 => decode8 cls (op.toNat % 16) bs
    | 0x9 => decode9 cls (op.toNat % 16) bs
    | 0xA => decodeA cls (op.toNat % 16) bs
    | 0xB => decodeB cls (op.toNat % 16) bs
    | 0xC => decodeC cls (op.toNat % 16) bs
    | 0xD => decodeD cls (op.toNat % 16) bs
    | 0xE => decodeE cls (op.toNat % 16) bs
    | _ => decodeF cls (op.toNat % 16) bs

/-! ## Encoding -/

/-- A word's bytes in address order (20_memory.md R107). -/
def wordBytes (w : Word) : List Byte := [loByte w, hiByte w]

/-- A ModRM byte of its fields (R218). -/
def modrmByte (md : BitVec 2) (k rm : BitVec 3) : Byte := md ++ k ++ rm

/-- The ModRM byte and displacement of an E operand, with the reg field `k` (R218 to R220). -/
def encodeRM (k : BitVec 3) : RM (BitVec 3) → List Byte
  | .reg r => [modrmByte 3 k r]
  | .mem (.ind b) => [modrmByte 0 k b.bits]
  | .mem (.direct d) => modrmByte 0 k 6 :: wordBytes d
  | .mem (.disp8 b d) => [modrmByte 1 k b.bits, d]
  | .mem (.disp16 b d) => modrmByte 2 k b.bits :: wordBytes d

/-- The ModRM bytes of an E operand of byte registers. -/
def encodeEb (k : BitVec 3) (e : RM Reg8) : List Byte := encodeRM k (e.map Reg8.bits)

/-- The ModRM bytes of an E operand of word registers. -/
def encodeEw (k : BitVec 3) (e : RM Reg16) : List Byte := encodeRM k (e.map Reg16.bits)

/-- The ModRM bytes of a memory operand. -/
def encodeM (k : BitVec 3) (m : MemRef) : List Byte := encodeRM k (.mem m)

/-- The bytes of an encoding that is no instruction. -/
def OpForm.encode : OpForm → List Byte
  | .byte op => [op]
  | .modrm op k e => op :: encodeRM k e
  | .ext op => [0x0F, op]
  | .extModrm op k e => 0x0F :: op :: encodeRM k e

/-- The bytes of an instruction, in address order, from the tables of 30_encoding.md (R230 to R239,
R257 to R259). A constructor has one encoding, whatever the class; for the constructors that stand
for many encodings (#UD, refused) one of them is given, and `OpForm.encode` gives each. -/
def encode : Instr → List Byte
  | .addEbGb e g => 0x00 :: encodeEb g.bits e
  | .addEwGw e g => 0x01 :: encodeEw g.bits e
  | .addGbEb e g => 0x02 :: encodeEb g.bits e
  | .addGwEw e g => 0x03 :: encodeEw g.bits e
  | .addAlIb ib => [0x04] ++ [ib]
  | .addAxIw iw => [0x05] ++ wordBytes iw
  | .addEbIb op82 e ib => (if op82 then 0x82 else 0x80) :: (encodeEb 0 e ++ [ib])
  | .addEwIw e iw => 0x81 :: (encodeEw 0 e ++ wordBytes iw)
  | .addEwIbs e ib => 0x83 :: (encodeEw 0 e ++ [ib])
  | .orEbGb e g => 0x08 :: encodeEb g.bits e
  | .orEwGw e g => 0x09 :: encodeEw g.bits e
  | .orGbEb e g => 0x0A :: encodeEb g.bits e
  | .orGwEw e g => 0x0B :: encodeEw g.bits e
  | .orAlIb ib => [0x0C] ++ [ib]
  | .orAxIw iw => [0x0D] ++ wordBytes iw
  | .orEbIb op82 e ib => (if op82 then 0x82 else 0x80) :: (encodeEb 1 e ++ [ib])
  | .orEwIw e iw => 0x81 :: (encodeEw 1 e ++ wordBytes iw)
  | .orEwIbs e ib => 0x83 :: (encodeEw 1 e ++ [ib])
  | .adcEbGb e g => 0x10 :: encodeEb g.bits e
  | .adcEwGw e g => 0x11 :: encodeEw g.bits e
  | .adcGbEb e g => 0x12 :: encodeEb g.bits e
  | .adcGwEw e g => 0x13 :: encodeEw g.bits e
  | .adcAlIb ib => [0x14] ++ [ib]
  | .adcAxIw iw => [0x15] ++ wordBytes iw
  | .adcEbIb op82 e ib => (if op82 then 0x82 else 0x80) :: (encodeEb 2 e ++ [ib])
  | .adcEwIw e iw => 0x81 :: (encodeEw 2 e ++ wordBytes iw)
  | .adcEwIbs e ib => 0x83 :: (encodeEw 2 e ++ [ib])
  | .sbbEbGb e g => 0x18 :: encodeEb g.bits e
  | .sbbEwGw e g => 0x19 :: encodeEw g.bits e
  | .sbbGbEb e g => 0x1A :: encodeEb g.bits e
  | .sbbGwEw e g => 0x1B :: encodeEw g.bits e
  | .sbbAlIb ib => [0x1C] ++ [ib]
  | .sbbAxIw iw => [0x1D] ++ wordBytes iw
  | .sbbEbIb op82 e ib => (if op82 then 0x82 else 0x80) :: (encodeEb 3 e ++ [ib])
  | .sbbEwIw e iw => 0x81 :: (encodeEw 3 e ++ wordBytes iw)
  | .sbbEwIbs e ib => 0x83 :: (encodeEw 3 e ++ [ib])
  | .andEbGb e g => 0x20 :: encodeEb g.bits e
  | .andEwGw e g => 0x21 :: encodeEw g.bits e
  | .andGbEb e g => 0x22 :: encodeEb g.bits e
  | .andGwEw e g => 0x23 :: encodeEw g.bits e
  | .andAlIb ib => [0x24] ++ [ib]
  | .andAxIw iw => [0x25] ++ wordBytes iw
  | .andEbIb op82 e ib => (if op82 then 0x82 else 0x80) :: (encodeEb 4 e ++ [ib])
  | .andEwIw e iw => 0x81 :: (encodeEw 4 e ++ wordBytes iw)
  | .andEwIbs e ib => 0x83 :: (encodeEw 4 e ++ [ib])
  | .subEbGb e g => 0x28 :: encodeEb g.bits e
  | .subEwGw e g => 0x29 :: encodeEw g.bits e
  | .subGbEb e g => 0x2A :: encodeEb g.bits e
  | .subGwEw e g => 0x2B :: encodeEw g.bits e
  | .subAlIb ib => [0x2C] ++ [ib]
  | .subAxIw iw => [0x2D] ++ wordBytes iw
  | .subEbIb op82 e ib => (if op82 then 0x82 else 0x80) :: (encodeEb 5 e ++ [ib])
  | .subEwIw e iw => 0x81 :: (encodeEw 5 e ++ wordBytes iw)
  | .subEwIbs e ib => 0x83 :: (encodeEw 5 e ++ [ib])
  | .xorEbGb e g => 0x30 :: encodeEb g.bits e
  | .xorEwGw e g => 0x31 :: encodeEw g.bits e
  | .xorGbEb e g => 0x32 :: encodeEb g.bits e
  | .xorGwEw e g => 0x33 :: encodeEw g.bits e
  | .xorAlIb ib => [0x34] ++ [ib]
  | .xorAxIw iw => [0x35] ++ wordBytes iw
  | .xorEbIb op82 e ib => (if op82 then 0x82 else 0x80) :: (encodeEb 6 e ++ [ib])
  | .xorEwIw e iw => 0x81 :: (encodeEw 6 e ++ wordBytes iw)
  | .xorEwIbs e ib => 0x83 :: (encodeEw 6 e ++ [ib])
  | .cmpEbGb e g => 0x38 :: encodeEb g.bits e
  | .cmpEwGw e g => 0x39 :: encodeEw g.bits e
  | .cmpGbEb e g => 0x3A :: encodeEb g.bits e
  | .cmpGwEw e g => 0x3B :: encodeEw g.bits e
  | .cmpAlIb ib => [0x3C] ++ [ib]
  | .cmpAxIw iw => [0x3D] ++ wordBytes iw
  | .cmpEbIb op82 e ib => (if op82 then 0x82 else 0x80) :: (encodeEb 7 e ++ [ib])
  | .cmpEwIw e iw => 0x81 :: (encodeEw 7 e ++ wordBytes iw)
  | .cmpEwIbs e ib => 0x83 :: (encodeEw 7 e ++ [ib])
  | .incR16 r => [0x40 + r.bits.setWidth 8]
  | .decR16 r => [0x48 + r.bits.setWidth 8]
  | .pushR16 r => [0x50 + r.bits.setWidth 8]
  | .popR16 r => [0x58 + r.bits.setWidth 8]
  | .boundGwMa m g => 0x62 :: encodeM g.bits m
  | .arplEwGw e g => 0x63 :: encodeEw g.bits e
  | .pushIw iw => [0x68] ++ wordBytes iw
  | .imulGwEwIw e g iw => 0x69 :: (encodeEw g.bits e ++ wordBytes iw)
  | .pushIbs ib => [0x6A] ++ [ib]
  | .imulGwEwIbs e g ib => 0x6B :: (encodeEw g.bits e ++ [ib])
  | .joJb ib => [0x70] ++ [ib]
  | .jnoJb ib => [0x71] ++ [ib]
  | .jbJb ib => [0x72] ++ [ib]
  | .jnbJb ib => [0x73] ++ [ib]
  | .jzJb ib => [0x74] ++ [ib]
  | .jnzJb ib => [0x75] ++ [ib]
  | .jbeJb ib => [0x76] ++ [ib]
  | .jaJb ib => [0x77] ++ [ib]
  | .jsJb ib => [0x78] ++ [ib]
  | .jnsJb ib => [0x79] ++ [ib]
  | .jpJb ib => [0x7A] ++ [ib]
  | .jnpJb ib => [0x7B] ++ [ib]
  | .jlJb ib => [0x7C] ++ [ib]
  | .jgeJb ib => [0x7D] ++ [ib]
  | .jleJb ib => [0x7E] ++ [ib]
  | .jgJb ib => [0x7F] ++ [ib]
  | .joJb60 ib => [0x60] ++ [ib]
  | .jnoJb61 ib => [0x61] ++ [ib]
  | .jbJb62 ib => [0x62] ++ [ib]
  | .jnbJb63 ib => [0x63] ++ [ib]
  | .jzJb64 ib => [0x64] ++ [ib]
  | .jnzJb65 ib => [0x65] ++ [ib]
  | .jbeJb66 ib => [0x66] ++ [ib]
  | .jaJb67 ib => [0x67] ++ [ib]
  | .jsJb68 ib => [0x68] ++ [ib]
  | .jnsJb69 ib => [0x69] ++ [ib]
  | .jpJb6A ib => [0x6A] ++ [ib]
  | .jnpJb6B ib => [0x6B] ++ [ib]
  | .jlJb6C ib => [0x6C] ++ [ib]
  | .jgeJb6D ib => [0x6D] ++ [ib]
  | .jleJb6E ib => [0x6E] ++ [ib]
  | .jgJb6F ib => [0x6F] ++ [ib]
  | .testEbGb e g => 0x84 :: encodeEb g.bits e
  | .testEwGw e g => 0x85 :: encodeEw g.bits e
  | .xchgEbGb e g => 0x86 :: encodeEb g.bits e
  | .xchgEwGw e g => 0x87 :: encodeEw g.bits e
  | .movEbGb e g => 0x88 :: encodeEb g.bits e
  | .movEwGw e g => 0x89 :: encodeEw g.bits e
  | .movGbEb e g => 0x8A :: encodeEb g.bits e
  | .movGwEw e g => 0x8B :: encodeEw g.bits e
  | .movEwSw e sr => 0x8C :: encodeEw sr.bits e
  | .movEwSwHigh e sr => 0x8C :: encodeEw (sr.bits + 4) e
  | .leaGwM m g => 0x8D :: encodeM g.bits m
  | .movSwEw e sr => 0x8E :: encodeEw sr.bits e
  | .movCsEw e => 0x8E :: encodeEw 1 e
  | .movSwEwHigh e sr => 0x8E :: encodeEw (sr.bits + 4) e
  | .popEw e => 0x8F :: encodeEw 0 e
  | .callAp off sel => [0x9A] ++ wordBytes off ++ wordBytes sel
  | .movAlOb off => [0xA0] ++ wordBytes off
  | .movAxOw off => [0xA1] ++ wordBytes off
  | .movObAl off => [0xA2] ++ wordBytes off
  | .movOwAx off => [0xA3] ++ wordBytes off
  | .testAlIb ib => [0xA8] ++ [ib]
  | .testAxIw iw => [0xA9] ++ wordBytes iw
  | .movR8Ib r ib => [0xB0 + r.bits.setWidth 8] ++ [ib]
  | .movR16Iw r iw => [0xB8 + r.bits.setWidth 8] ++ wordBytes iw
  | .rolEbIb e ib => 0xC0 :: (encodeEb 0 e ++ [ib])
  | .rorEbIb e ib => 0xC0 :: (encodeEb 1 e ++ [ib])
  | .rclEbIb e ib => 0xC0 :: (encodeEb 2 e ++ [ib])
  | .rcrEbIb e ib => 0xC0 :: (encodeEb 3 e ++ [ib])
  | .shlEbIb e ib => 0xC0 :: (encodeEb 4 e ++ [ib])
  | .shrEbIb e ib => 0xC0 :: (encodeEb 5 e ++ [ib])
  | .sarEbIb e ib => 0xC0 :: (encodeEb 7 e ++ [ib])
  | .rolEwIb e ib => 0xC1 :: (encodeEw 0 e ++ [ib])
  | .rorEwIb e ib => 0xC1 :: (encodeEw 1 e ++ [ib])
  | .rclEwIb e ib => 0xC1 :: (encodeEw 2 e ++ [ib])
  | .rcrEwIb e ib => 0xC1 :: (encodeEw 3 e ++ [ib])
  | .shlEwIb e ib => 0xC1 :: (encodeEw 4 e ++ [ib])
  | .shrEwIb e ib => 0xC1 :: (encodeEw 5 e ++ [ib])
  | .sarEwIb e ib => 0xC1 :: (encodeEw 7 e ++ [ib])
  | .rolEb1 e => 0xD0 :: encodeEb 0 e
  | .rorEb1 e => 0xD0 :: encodeEb 1 e
  | .rclEb1 e => 0xD0 :: encodeEb 2 e
  | .rcrEb1 e => 0xD0 :: encodeEb 3 e
  | .shlEb1 e => 0xD0 :: encodeEb 4 e
  | .shrEb1 e => 0xD0 :: encodeEb 5 e
  | .sarEb1 e => 0xD0 :: encodeEb 7 e
  | .rolEw1 e => 0xD1 :: encodeEw 0 e
  | .rorEw1 e => 0xD1 :: encodeEw 1 e
  | .rclEw1 e => 0xD1 :: encodeEw 2 e
  | .rcrEw1 e => 0xD1 :: encodeEw 3 e
  | .shlEw1 e => 0xD1 :: encodeEw 4 e
  | .shrEw1 e => 0xD1 :: encodeEw 5 e
  | .sarEw1 e => 0xD1 :: encodeEw 7 e
  | .rolEbCl e => 0xD2 :: encodeEb 0 e
  | .rorEbCl e => 0xD2 :: encodeEb 1 e
  | .rclEbCl e => 0xD2 :: encodeEb 2 e
  | .rcrEbCl e => 0xD2 :: encodeEb 3 e
  | .shlEbCl e => 0xD2 :: encodeEb 4 e
  | .shrEbCl e => 0xD2 :: encodeEb 5 e
  | .sarEbCl e => 0xD2 :: encodeEb 7 e
  | .rolEwCl e => 0xD3 :: encodeEw 0 e
  | .rorEwCl e => 0xD3 :: encodeEw 1 e
  | .rclEwCl e => 0xD3 :: encodeEw 2 e
  | .rcrEwCl e => 0xD3 :: encodeEw 3 e
  | .shlEwCl e => 0xD3 :: encodeEw 4 e
  | .shrEwCl e => 0xD3 :: encodeEw 5 e
  | .sarEwCl e => 0xD3 :: encodeEw 7 e
  | .retIwC0 iw => [0xC0] ++ wordBytes iw
  | .retIw iw => [0xC2] ++ wordBytes iw
  | .lesGwMp m g => 0xC4 :: encodeM g.bits m
  | .ldsGwMp m g => 0xC5 :: encodeM g.bits m
  | .movEbIb e ib => 0xC6 :: (encodeEb 0 e ++ [ib])
  | .movEwIw e iw => 0xC7 :: (encodeEw 0 e ++ wordBytes iw)
  | .enterIwIb iw lev => [0xC8] ++ wordBytes iw ++ [lev]
  | .retfIwC8 iw => [0xC8] ++ wordBytes iw
  | .retfIw iw => [0xCA] ++ wordBytes iw
  | .intIb ib => [0xCD] ++ [ib]
  | .aamIb ib => [0xD4] ++ [ib]
  | .aadIb ib => [0xD5] ++ [ib]
  | .esc n k e => (0xD8 + n.setWidth 8) :: encodeEw k e
  | .loopnzJb ib => [0xE0] ++ [ib]
  | .loopzJb ib => [0xE1] ++ [ib]
  | .loopJb ib => [0xE2] ++ [ib]
  | .jcxzJb ib => [0xE3] ++ [ib]
  | .inAlIb ib => [0xE4] ++ [ib]
  | .inAxIb ib => [0xE5] ++ [ib]
  | .outIbAl ib => [0xE6] ++ [ib]
  | .outIbAx ib => [0xE7] ++ [ib]
  | .callJw iw => [0xE8] ++ wordBytes iw
  | .jmpJw iw => [0xE9] ++ wordBytes iw
  | .jmpAp off sel => [0xEA] ++ wordBytes off ++ wordBytes sel
  | .jmpJb ib => [0xEB] ++ [ib]
  | .testEbIb e ib => 0xF6 :: (encodeEb 0 e ++ [ib])
  | .testEbIb1 e ib => 0xF6 :: (encodeEb 1 e ++ [ib])
  | .notEb e => 0xF6 :: encodeEb 2 e
  | .negEb e => 0xF6 :: encodeEb 3 e
  | .mulEb e => 0xF6 :: encodeEb 4 e
  | .imulEb e => 0xF6 :: encodeEb 5 e
  | .divEb e => 0xF6 :: encodeEb 6 e
  | .idivEb e => 0xF6 :: encodeEb 7 e
  | .testEwIw e iw => 0xF7 :: (encodeEw 0 e ++ wordBytes iw)
  | .testEwIw1 e iw => 0xF7 :: (encodeEw 1 e ++ wordBytes iw)
  | .notEw e => 0xF7 :: encodeEw 2 e
  | .negEw e => 0xF7 :: encodeEw 3 e
  | .mulEw e => 0xF7 :: encodeEw 4 e
  | .imulEw e => 0xF7 :: encodeEw 5 e
  | .divEw e => 0xF7 :: encodeEw 6 e
  | .idivEw e => 0xF7 :: encodeEw 7 e
  | .incEb e => 0xFE :: encodeEb 0 e
  | .decEb e => 0xFE :: encodeEb 1 e
  | .incEw e => 0xFF :: encodeEw 0 e
  | .decEw e => 0xFF :: encodeEw 1 e
  | .callEw e => 0xFF :: encodeEw 2 e
  | .callMp m => 0xFF :: encodeM 3 m
  | .jmpEw e => 0xFF :: encodeEw 4 e
  | .jmpMp m => 0xFF :: encodeM 5 m
  | .pushEw e => 0xFF :: encodeEw 6 e
  | .sldtEw e => 0x0F :: 0x00 :: encodeEw 0 e
  | .strEw e => 0x0F :: 0x00 :: encodeEw 1 e
  | .lldtEw e => 0x0F :: 0x00 :: encodeEw 2 e
  | .ltrEw e => 0x0F :: 0x00 :: encodeEw 3 e
  | .verrEw e => 0x0F :: 0x00 :: encodeEw 4 e
  | .verwEw e => 0x0F :: 0x00 :: encodeEw 5 e
  | .sgdtMs m => 0x0F :: 0x01 :: encodeM 0 m
  | .sidtMs m => 0x0F :: 0x01 :: encodeM 1 m
  | .lgdtMs m => 0x0F :: 0x01 :: encodeM 2 m
  | .lidtMs m => 0x0F :: 0x01 :: encodeM 3 m
  | .smswEw e => 0x0F :: 0x01 :: encodeEw 4 e
  | .lmswEw e => 0x0F :: 0x01 :: encodeEw 6 e
  | .larGwEw e g => 0x0F :: 0x02 :: encodeEw g.bits e
  | .lslGwEw e g => 0x0F :: 0x03 :: encodeEw g.bits e
  | .pushEs => [0x06]
  | .popEs => [0x07]
  | .pushCs => [0x0E]
  | .pushSs => [0x16]
  | .popSs => [0x17]
  | .pushDs => [0x1E]
  | .popDs => [0x1F]
  | .popCs => [0x0F]
  | .invalidOpcode => [0xF1]
  | .prefixEs => [0x26]
  | .prefixCs => [0x2E]
  | .prefixSs => [0x36]
  | .prefixDs => [0x3E]
  | .prefixLock => [0xF0]
  | .prefixLockF1 => [0xF1]
  | .prefixRepne => [0xF2]
  | .prefixRep => [0xF3]
  | .daa => [0x27]
  | .das => [0x2F]
  | .aaa => [0x37]
  | .aas => [0x3F]
  | .pushSp => [0x54]
  | .pusha => [0x60]
  | .popa => [0x61]
  | .insb => [0x6C]
  | .insw => [0x6D]
  | .outsb => [0x6E]
  | .outsw => [0x6F]
  | .reservedC86 => [0x8F, 0xC8]
  | .nop => [0x90]
  | .xchgAxCx => [0x91]
  | .xchgAxDx => [0x92]
  | .xchgAxBx => [0x93]
  | .xchgAxSp => [0x94]
  | .xchgAxBp => [0x95]
  | .xchgAxSi => [0x96]
  | .xchgAxDi => [0x97]
  | .cbw => [0x98]
  | .cwd => [0x99]
  | .wait => [0x9B]
  | .pushf => [0x9C]
  | .popf => [0x9D]
  | .sahf => [0x9E]
  | .lahf => [0x9F]
  | .movsb => [0xA4]
  | .movsw => [0xA5]
  | .cmpsb => [0xA6]
  | .cmpsw => [0xA7]
  | .stosb => [0xAA]
  | .stosw => [0xAB]
  | .lodsb => [0xAC]
  | .lodsw => [0xAD]
  | .scasb => [0xAE]
  | .scasw => [0xAF]
  | .retC1 => [0xC1]
  | .ret => [0xC3]
  | .leave => [0xC9]
  | .retfC9 => [0xC9]
  | .retf => [0xCB]
  | .int3 => [0xCC]
  | .into => [0xCE]
  | .iret => [0xCF]
  | .salc => [0xD6]
  | .xlat => [0xD7]
  | .inAlDx => [0xEC]
  | .inAxDx => [0xED]
  | .outDxAl => [0xEE]
  | .outDxAx => [0xEF]
  | .hlt => [0xF4]
  | .cmc => [0xF5]
  | .clc => [0xF8]
  | .stc => [0xF9]
  | .cli => [0xFA]
  | .sti => [0xFB]
  | .cld => [0xFC]
  | .std => [0xFD]
  | .pushSpFF => [0xFF, 0xF4]
  | .loadall => [0x0F, 0x05]
  | .clts => [0x0F, 0x06]

/-! ## The host's question about one word of the opcode table -/

/-- The bytes of an instruction whose bits are `w`, bit 0 the least significant bit of the first
byte, `nbits` of them given and every later bit 0, out to the longest instruction of C286 (ten
bytes, R203). -/
def tableBytes (nbits w : Nat) : List Byte :=
  (List.range 10).map fun k => BitVec.ofNat 8 ((w % 2 ^ nbits) >>> (8 * k))

/-- The instruction the decoder reads from such bytes on the default instance. -/
def decodeTableWord (nbits w : Nat) : Option Instr :=
  match decode Config.default.cpuClass (tableBytes nbits w) with
  | .ok (i, _) => some i
  | .error _ => none

end Sys2Proof
end

