-- ==== Sys2Proof/Machine/State.lean ====
section
/-! DEFINITION. The state of the block: every piece of state the spec names, as plain data, with the
reasons a step can stop and the reset of 70_reset_and_hazards.md R1000. -/

namespace Sys2Proof.Machine

/-! ## The reasons a step stops -/

/-- Why the machine stops (00_scope.md R14: the stuck states). -/
inductive Fault where
  /-- Raised by `step` in run status SHUTDOWN: no step until reset (60 R971). Safe: the spec gives none. -/
  | shutdown
  /-- Raised by `step` in run status ERROR: no step until reset (60 R983). Safe: the spec gives none. -/
  | hostError
  /-- Raised by `step` on C86 and C186 when a whole 64 KiB segment is prefix bytes: the decoder has come
  back to where it began and never ends (30 R203: no length limit). Safe: the instruction never completes,
or, where a second pass may read other bytes, the model stops early (notes/assumptions/20.md). -/
  | endlessPrefixes
  /-- Raised by `step` when exceptions follow one another inside one step, each raised by the first
  instruction of the handler before it, more often than `handlerFuel` (60 R911: the step goes on). Safe:
  the spec's step goes on without a bound. -/
  | endlessHandlers
  /-- Raised by `step` if the decoder needed more bytes than the longest instruction body has; it never
  does. Safe. -/
  | fetchWindow
deriving DecidableEq, Repr

/-- Why the model gives a step no outcome. -/
inductive Refusal where
  /-- Raised by `exec` for an instruction without a meaning yet. Safe: nothing can be proved of it. -/
  | notModelled (mnemonic : String)
  /-- Raised by the encodings 30 R273 refuses on C86 (92 D29: "the model has no meaning for it").
  Safe. -/
  | reservedEncodingC86
  /-- Raised by LOADALL, 0F 05 on C286 (30 R262: "This spec gives it no meaning"). Safe. -/
  | loadallUnspecified
deriving DecidableEq, Repr

/-! ## Registers -/

/-- The eight general registers (10 R20). -/
structure Regs where
  ax : Word
  cx : Word
  dx : Word
  bx : Word
  sp : Word
  bp : Word
  si : Word
  di : Word
deriving DecidableEq, Repr

/-- The result size of the lazy flag record: BYTE = 0x100 or WORD = 0x10000 (10 R29). -/
inductive ResultSize where
  | byte | word
deriving DecidableEq, Repr

/-- The lazy flag record (10 R29): only bits 16:0 of its values are ever read. -/
structure FlagTriple where
  value       : BitVec 17
  paritySign  : BitVec 17
  auxOverflow : BitVec 17
  size        : ResultSize
deriving DecidableEq, Repr

/-- A segment register with its descriptor cache entry (10 R42). -/
structure SegCache where
  selector   : Word
  base       : BitVec 24
  limit      : BitVec 20
  access     : Byte
  nullLoaded : Bool
deriving DecidableEq, Repr

/-- The four segment registers (10 R41). -/
structure SegRegs where
  es : SegCache
  cs : SegCache
  ss : SegCache
  ds : SegCache
deriving DecidableEq, Repr

/-- GDTR or IDTR (10 R45). -/
structure TableReg where
  base  : BitVec 24
  limit : BitVec 16
deriving DecidableEq, Repr

/-- LDTR or TR: a selector with its hidden descriptor cache (10 R46). -/
structure SysSegReg where
  selector : Word
  base     : BitVec 24
  limit    : BitVec 16
  access   : Byte
deriving DecidableEq, Repr

/-- The 80286 system registers and CPL (10 R44 to R47). -/
structure SysRegs where
  msw  : Word
  gdtr : TableReg
  idtr : TableReg
  ldtr : SysSegReg
  tr   : SysSegReg
  cpl  : BitVec 2
deriving DecidableEq, Repr

/-! ## Events, decode scratch, run status -/

/-- `intFlags`, the pending-event bitset (10 R48). -/
structure IntFlags where
  intr : Bool
  trap : Bool
  halt : Bool
  dma  : Bool
deriving DecidableEq, Repr

/-- The per-instruction scratch (10 R26, R50): where the instruction and its last prefix began, the
prefixes seen (`segData` is the override or the default, `segStack` is always SS), the last computed
effective address and the last one written to. -/
structure Scratch where
  startIp      : Word
  lastPrefixIp : Word
  override     : Option SegReg
  rep          : Option RepKind
  lock         : Bool
  ea           : Option Word
  eaWrite      : Option Word
deriving DecidableEq, Repr

/-- The run status (10 R52). HALTED is `run` with `intFlags.halt` set. -/
inductive RunStatus where
  | run | shutdown | error
deriving DecidableEq, Repr

/-! ## The bus -/

/-- The kinds of memory block (20 R101). -/
inductive BlockKind where
  | unmapped | ram | rom | device (d : Nat)
deriving DecidableEq, Repr

/-- A run of blocks of one kind, from block index `first` (20 R100, `installBlock`). -/
structure BlockRange where
  first : Nat
  count : Nat
  kind  : BlockKind
deriving DecidableEq, Repr

/-- The prefetch queue's registers (10 R54): the ring of (physical address, byte) slots, head and
tail indexes, the two counts, and the instruction offset of the next byte to prefetch, from which
its physical address follows. `latch` is the model's own (notes/assumptions/12.md): the byte that is next
for the ring, read while the ring is full. -/
structure Prefetch where
  slots       : List Host.Cell
  head        : Nat
  tail        : Nat
  queuedBytes : Nat
  validBytes  : Nat
  nextOffset  : Word
  latch       : Option Host.Cell
deriving DecidableEq, Repr

/-- `repeatPending` (10 R51, 44 R602): the string instruction whose repetition is unfinished, its
carried prefix state, its first byte, and the offset after it. `ahead` is the model's own
(notes/assumptions/12.md): the queue as it stands at that offset. -/
structure RepeatPending where
  instr        : Instr
  startIp      : Word
  lastPrefixIp : Word
  nextIp       : Word
  override     : Option SegReg
  rep          : RepKind
  lock         : Bool
  ahead        : Prefetch
deriving DecidableEq, Repr

/-! ## The host's side -/

/-- An answer of `getIRRVector` (60 R904): −1 with no state change, −1 with INTR cleared, or a vector. -/
inductive PicAnswer where
  | noInterrupt | spurious | vector (v : Byte)
deriving DecidableEq, Repr

/-- What one DMA tick does (60 R906): the bytes it writes, and whether DMA is still in progress. -/
structure DmaTick where
  writes     : List Host.Cell
  inProgress : Bool
deriving DecidableEq, Repr

/-- An entry of the software-interrupt notification registry: the vector, and the observer and callback of one
of its pairs (10 R57). -/
structure IntNotify where
  vector   : Byte
  observer : Nat
  callback : Nat
deriving DecidableEq, Repr

/-- An entry of the return notification registry: the linear address before masking, the nesting
depth, and which callback it is (10 R57, 60 R981). -/
structure ReturnNotify where
  linear   : BitVec 32
  depth    : Nat
  callback : Nat
deriving DecidableEq, Repr

/-- The bookkeeping of 10 R58. -/
structure Cycles where
  remaining    : Int
  burstCycles  : Nat
  totalCycles  : Nat
  burstDivisor : Nat
  multiplier   : Nat
deriving DecidableEq, Repr

/-- One thing host code does to the block: a call of 60 R980 to R984, or a direct change of a piece of its
state (a callback "may change any state", R981). -/
inductive HostCall where
  | updateIntr (raised : Bool)
  | delayIntr
  | requestDma
  | setA20 (on : Bool)
  | installBlock (index : Nat) (kind : BlockKind)
  | setError
  | haltCpu
  | enterStepCpu (minCycles : Nat)
  | addIntNotify (n : IntNotify)
  | addIntReturn (n : ReturnNotify)
  | reset
  | writeByte (addr : Nat) (v : Byte)
  | setByte (addr : Nat) (v : Byte)
  | setReg (r : Reg16) (v : Word)
  | setIp (v : Word)
  | setPs (v : Word)
  | setTriple (t : FlagTriple)
  | setIntFlags (f : IntFlags)
  | setNointr (on : Bool)
  | setRepeat (p : Option RepeatPending)
  | setStatus (r : RunStatus)
  | setScratch (c : Scratch)
  | setCycles (c : Cycles)
  | setIntNotify (l : List IntNotify)
  | setReturnNotify (l : List ReturnNotify)
  | flushQueue
  | setSeg (r : SegReg) (c : SegCache)
  | setMsw (v : Word)
  | setGdtr (t : TableReg)
  | setIdtr (t : TableReg)
  | setLdtr (t : SysSegReg)
  | setTr (t : SysSegReg)
  | setCpl (v : BitVec 2)
deriving DecidableEq, Repr

/-- An answer of `INT_INTERCEPT` (92 D36): go on, or suppress the interrupt after what host code did. -/
inductive InterceptAnswer where
  | proceed
  | suppress (calls : List HostCall)
deriving DecidableEq, Repr

/-- A call the block made on a host oracle: a port access (20 R112), an access of a `device` block
(20 R110), `updateAllTimers` (60 R907), or a callback of the return registry (60 R981). -/
inductive BusEvent where
  | portRead (port : Word) (width : Nat)
  | portWrite (port : Word) (width : Nat) (v : Word)
  | deviceRead (addr : Nat) (width : Nat)
  | deviceWrite (addr : Nat) (width : Nat) (v : Word)
  | updateAllTimers
  | returnCallback (callback : Nat)
deriving DecidableEq, Repr

/-- The host's side: the registries (10 R57), the answers its oracles will give, oldest first, whether
the current `stepCPU` call asked for zero cycles (60 R900), the calls made on it, newest first, and
the cycle bookkeeping. `timerAnswers` holds the `updateINTR` calls each `updateAllTimers` makes (60
R907), `callbacks` what each callback of the return registry does (60 R981). -/
structure HostSide where
  intNotify    : List IntNotify
  returnNotify : List ReturnNotify
  picAnswers   : List PicAnswer
  dmaTicks     : List DmaTick
  intercepts   : List InterceptAnswer
  ioAnswers    : List Word
  timerAnswers : List (List Bool)
  callbacks    : List (List HostCall)
  singleStep   : Bool
  calls        : List BusEvent
  cycles       : Cycles
deriving DecidableEq, Repr

/-! ## The state -/

/-- The whole state. `cfg` is fixed for the life of an instance (00 R6). -/
structure State where
  cfg          : Config
  /-- The general registers (10 R20). -/
  regs         : Regs
  /-- IP (10 R24); after decoding it is the offset of the next instruction (R25). -/
  ip           : Word
  /-- The live word of the direct PS bits (10 R27). -/
  live         : Word
  /-- The lazy flag record (10 R29). -/
  triple       : FlagTriple
  /-- The segment registers (10 R42). -/
  segs         : SegRegs
  /-- MSW, GDTR, IDTR, LDTR, TR and CPL (10 R44 to R47). -/
  sys          : SysRegs
  /-- The pending events (10 R48). -/
  intFlags     : IntFlags
  /-- `opFlags.NOINTR` (10 R49). -/
  nointr       : Bool
  /-- The decode scratch (10 R26, R50). -/
  scratch      : Scratch
  /-- `repeatPending` (10 R51). -/
  rep          : Option RepeatPending
  /-- The run status (10 R52). -/
  status       : RunStatus
  /-- The model's own: the instruction just run raised an exception that was delivered, and the step goes on
  with the handler's first instruction (60 R911). No step leaves it set. -/
  handlerEntry : Bool
  /-- The A20 gate (10 R53). -/
  a20          : Bool
  /-- `MEMMAP` (20 R100), the newest installation first. -/
  blocks       : List BlockRange
  /-- Physical memory: the bytes that are not zero, by rising address. -/
  mem          : List Host.Cell
  /-- The prefetch queue (10 R54). -/
  queue        : Prefetch
  /-- The host's side. -/
  host         : HostSide
  /-- The model's own: how many free values have been drawn. -/
  draws        : Nat
deriving DecidableEq, Repr

/-- The class of the instance. -/
def State.cls (s : State) : CpuClass := s.cfg.cpuClass

/-! ## Reset -/

/-- The cache a real-mode load leaves (20 R119). -/
def SegCache.real (sel : Word) : SegCache where
  selector   := sel
  base       := sel.setWidth 24 <<< 4
  limit      := 0xFFFF
  access     := 0x93
  nullLoaded := false

/-- CS at reset (70 R1001). -/
def resetCs : CpuClass → SegCache
  | .c86 => .real 0xFFFF
  | .c186 => .real 0xFFFF
  | .c286 => { selector := 0xF000, base := 0xFF0000, limit := 0xFFFF, access := 0x93, nullLoaded := false }

/-- IP at reset (70 R1001). -/
def resetIp : CpuClass → Word
  | .c86 => 0
  | .c186 => 0
  | .c286 => 0xFFF0

/-- The system registers at reset (70 R1001). DESIGN CHOICE (notes/assumptions/2.md): the spec leaves
GDTR, LDTR and TR unspecified at reset; the model gives them zeros. -/
def resetSys : SysRegs where
  msw  := 0xFFF0
  gdtr := { base := 0, limit := 0 }
  idtr := { base := 0, limit := 0x03FF }
  ldtr := { selector := 0, base := 0, limit := 0, access := 0 }
  tr   := { selector := 0, base := 0, limit := 0, access := 0 }
  cpl  := 0

/-- The scratch at a boundary (60 R900). DESIGN CHOICE (notes/assumptions/30.md): `lastPrefixIP`, undefined while
the instruction has no prefix (10 R26), is then startIP. -/
def Scratch.atBoundary (ip : Word) : Scratch where
  startIp      := ip
  lastPrefixIp := ip
  override     := none
  rep          := none
  lock         := false
  ea           := none
  eaWrite      := none

/-- The ring has the next power of two of slots at or above `QUEUE_DEPTH` (10 R54). -/
def Prefetch.ringSize (m : Model) : Nat := if m.queueDepth ≤ 4 then 4 else 8

/-- An empty queue that prefetches next at the given offset (10 R55). DESIGN CHOICE (notes/assumptions/2.md): head
and tail are slot 0, and every slot holds (0, 0). -/
def Prefetch.emptyAt (m : Model) (off : Word) : Prefetch where
  slots       := List.replicate (ringSize m) (0, 0)
  head        := 0
  tail        := 0
  queuedBytes := 0
  validBytes  := 0
  nextOffset  := off
  latch       := none

/-- Reset (70 R1000): CPU state and the two registries; memory, the block map, the oracles and the
bookkeeping are the host's and stay (92 D70). -/
def State.resetCpu (s : State) : State :=
  { s with
    regs := { ax := 0, cx := 0, dx := 0, bx := 0, sp := 0, bp := 0, si := 0, di := 0 }
    ip := resetIp s.cls
    live := 0
    triple := { value := 1, paritySign := 1, auxOverflow := 0, size := .word }
    segs := { es := .real 0, cs := resetCs s.cls, ss := .real 0, ds := .real 0 }
    sys := resetSys
    intFlags := { intr := false, trap := false, halt := false, dma := false }
    nointr := false
    scratch := .atBoundary (resetIp s.cls)
    rep := none
    status := .run
    handlerEntry := false
    a20 := s.cls == .c286
    queue := .emptyAt s.cfg.model (resetIp s.cls)
    host := { s.host with intNotify := [], returnNotify := [] } }

/-- The host's side of a new instance. -/
def HostSide.initial : HostSide where
  intNotify    := []
  returnNotify := []
  picAnswers   := []
  dmaTicks     := []
  intercepts   := []
  ioAnswers    := []
  timerAnswers := []
  callbacks    := []
  singleStep   := false
  calls        := []
  cycles       := { remaining := 0, burstCycles := 0, totalCycles := 0, burstDivisor := 0, multiplier := 0 }

/-- Construction (70 R1000): the parameters, then reset. DESIGN CHOICE (notes/assumptions/3.md):
`MEMMAP` is the host's; a new instance has `ram` at every physical address. -/
def State.construct (c : Config) : State :=
  State.resetCpu
    { cfg := c
      regs := { ax := 0, cx := 0, dx := 0, bx := 0, sp := 0, bp := 0, si := 0, di := 0 }
      ip := 0
      live := 0
      triple := { value := 1, paritySign := 1, auxOverflow := 0, size := .word }
      segs := { es := .real 0, cs := .real 0, ss := .real 0, ds := .real 0 }
      sys := resetSys
      intFlags := { intr := false, trap := false, halt := false, dma := false }
      nointr := false
      scratch := .atBoundary 0
      rep := none
      status := .run
      handlerEntry := false
      a20 := false
      blocks := [{ first := 0, count := 0x1000000 >>> c.blockShift, kind := .ram }]
      mem := []
      queue := .emptyAt c.model 0
      host := .initial
      draws := 0 }

/-- The machine right after reset, with every parameter at its default. -/
def State.reset : State := State.construct Config.default

end Sys2Proof.Machine
end

