-- ==== Sys2Proof/Machine/Flags.lean ====
section
/-! DEFINITION. The processor status word: the lazy flag record and its derivation, the canonical
records of each kind of result, the setters, `getPS` and `setPS` (10_state.md R27 to R40). -/

namespace Sys2Proof.Machine

/-- The six arithmetic flags (10 R27). -/
structure Flags where
  cf : Bool
  pf : Bool
  af : Bool
  zf : Bool
  sf : Bool
  of : Bool
deriving DecidableEq, Repr

/-- True when bits 7:0 hold an even number of ones (00 R8). -/
def parity8 {n : Nat} (v : BitVec n) : Bool :=
  !(v.getLsbD 0 ^^ v.getLsbD 1 ^^ v.getLsbD 2 ^^ v.getLsbD 3
    ^^ v.getLsbD 4 ^^ v.getLsbD 5 ^^ v.getLsbD 6 ^^ v.getLsbD 7)

/-- `resultSize` as the number 2^n (R29). -/
def ResultSize.bit : ResultSize → BitVec 17
  | .byte => 0x100
  | .word => 0x10000

/-- The derivation of the flags (R30). -/
def FlagTriple.flags (t : FlagTriple) : Flags where
  cf := (t.value &&& t.size.bit) != 0
  zf := (t.value &&& (t.size.bit - 1)) == 0
  sf := (t.paritySign &&& (t.size.bit >>> 1)) != 0
  pf := parity8 t.paritySign
  af := ((t.paritySign ^^^ t.auxOverflow) &&& 0x10) != 0
  of := ((t.paritySign ^^^ t.auxOverflow ^^^ (t.paritySign >>> 1)) &&& (t.size.bit >>> 1)) != 0

/-- The parity-and-sign value of R36 before the parity correction. -/
def encodedSign (f : Flags) (size : ResultSize) : BitVec 17 := if f.sf then size.bit >>> 1 else 0

/-- `Encode`, the canonical record of a flag set (R36). -/
def FlagTriple.encode (f : Flags) (size : ResultSize) : FlagTriple where
  value       := (if f.cf then size.bit else 0) ||| (if f.zf then 0 else 1)
  paritySign  :=
    if parity8 (encodedSign f size) != f.pf then encodedSign f size ^^^ 1 else encodedSign f size
  auxOverflow := (if f.af then 0x10 else 0) ||| (if f.sf ^^ f.of then size.bit >>> 1 else 0)
  size        := size

/-- One as a number for a carry (00 R8). -/
def carryBit (c : Bool) : BitVec 17 := if c then 1 else 0

/-- The 17-bit mask of n+1 bits (R33: results are taken modulo 2^(n+1)). -/
def ResultSize.mask (z : ResultSize) : BitVec 17 := z.bit ||| (z.bit - 1)

/-- The record of an addition `d + s + c` (R32). -/
def addTriple {n : Nat} (z : ResultSize) (d s : BitVec n) (c : Bool) : FlagTriple where
  value       := d.setWidth 17 + s.setWidth 17 + carryBit c
  paritySign  := d.setWidth 17 + s.setWidth 17 + carryBit c
  auxOverflow := (d ^^^ s).setWidth 17
  size        := z

/-- The record of a subtraction `d - s - b` (R33). -/
def subTriple {n : Nat} (z : ResultSize) (d s : BitVec n) (b : Bool) : FlagTriple where
  value       := (d.setWidth 17 - s.setWidth 17 - carryBit b) &&& z.mask
  paritySign  := (d.setWidth 17 - s.setWidth 17 - carryBit b) &&& z.mask
  auxOverflow := (d ^^^ s).setWidth 17
  size        := z

/-- The record of a logical result (R34). -/
def logicTriple {n : Nat} (z : ResultSize) (r : BitVec n) : FlagTriple where
  value       := r.setWidth 17
  paritySign  := r.setWidth 17
  auxOverflow := r.setWidth 17
  size        := z

/-- The record of INC, which keeps the carry `c0` (R35). -/
def incTriple {n : Nat} (z : ResultSize) (d : BitVec n) (c0 : Bool) : FlagTriple where
  value       := ((d.setWidth 17 + 1) &&& (z.bit - 1)) ||| (if c0 then z.bit else 0)
  paritySign  := d.setWidth 17 + 1
  auxOverflow := d.setWidth 17 ^^^ 1
  size        := z

/-- The record of DEC, which keeps the carry `c0` (R35). -/
def decTriple {n : Nat} (z : ResultSize) (d : BitVec n) (c0 : Bool) : FlagTriple where
  value       := ((d.setWidth 17 - 1) &&& (z.bit - 1)) ||| (if c0 then z.bit else 0)
  paritySign  := (d.setWidth 17 - 1) &&& z.mask
  auxOverflow := d.setWidth 17 ^^^ 1
  size        := z

/-! ## Flags of the state -/

/-- The six arithmetic flags, derived (R30). -/
def State.flags (s : State) : Flags := s.triple.flags

/-- Set the lazy flag record (R31). -/
def State.setTriple (s : State) (t : FlagTriple) : State := { s with triple := t }

/-- Store an arbitrary flag set with a result size (R36). -/
def State.setFlags (s : State) (f : Flags) (z : ResultSize) : State := s.setTriple (.encode f z)

/-- The explicit setters: the current size stays (R37). -/
def State.keepSizeSetFlags (s : State) (f : Flags) : State := s.setFlags f s.triple.size

/-- The setter of CF (R37). -/
def State.setCf (s : State) (v : Bool) : State := s.keepSizeSetFlags { s.flags with cf := v }

/-- The setter of ZF (R37). -/
def State.setZf (s : State) (v : Bool) : State := s.keepSizeSetFlags { s.flags with zf := v }

/-- The bits of PS stored in the live word (R27, R38). -/
def directMask : CpuClass → Word
  | .c86 => 0x0700
  | .c186 => 0x0700
  | .c286 => 0x7700

/-- The bits of PS that read the same always (R27, R38). -/
def fixedBits (c : Config) : Word :=
  match c.cpuClass, c.psHigh with
  | .c286, _ => 0x0002
  | _, .zeros => 0x0002
  | _, .ones => 0xF002

/-- Bit positions of the direct flags (R27). -/
def tfBit : Nat := 8
def ifBit : Nat := 9
def dfBit : Nat := 10
def ntBit : Nat := 14

/-- TF (R28). -/
def State.tf (s : State) : Bool := s.live.getLsbD tfBit

/-- IF (R28). -/
def State.ifl (s : State) : Bool := s.live.getLsbD ifBit

/-- DF (R28). -/
def State.df (s : State) : Bool := s.live.getLsbD dfBit

/-- NT (R28). -/
def State.nt (s : State) : Bool := s.live.getLsbD ntBit

/-- IOPL (R28). -/
def State.iopl (s : State) : BitVec 2 := s.live.extractLsb' 12 2

/-- The word with one bit set or cleared. -/
def setBit (w : Word) (k : Nat) (v : Bool) : Word :=
  if v then w ||| (1 <<< k : Word) else w &&& ~~~(1 <<< k : Word)

/-- Write one direct bit: the live word only (R37). -/
def State.setDirect (s : State) (k : Nat) (v : Bool) : State := { s with live := setBit s.live k v }

/-- The six arithmetic flags at their positions of R27. -/
def Flags.toWord (f : Flags) : Word :=
  (if f.cf then 0x0001 else 0) ||| (if f.pf then 0x0004 else 0) ||| (if f.af then 0x0010 else 0)
    ||| (if f.zf then 0x0040 else 0) ||| (if f.sf then 0x0080 else 0) ||| (if f.of then 0x0800 else 0)

/-- The six arithmetic flags of a PS word (R27). -/
def Flags.ofWord (w : Word) : Flags where
  cf := w.getLsbD 0
  pf := w.getLsbD 2
  af := w.getLsbD 4
  zf := w.getLsbD 6
  sf := w.getLsbD 7
  of := w.getLsbD 11

/-- `getPS` (R38). -/
def State.getPS (s : State) : Word :=
  (s.live &&& directMask s.cls) ||| s.flags.toWord ||| fixedBits s.cfg

/-- Whether the block runs in protected mode: C286 with MSW.PE = 1 (R44). -/
def State.protectedMode (s : State) : Bool := s.cls == .c286 && s.sys.msw.getLsbD 0

/-- What a write of PS may hold in bits 14:12: nothing on C286 in real mode (R39; 92 D14). -/
def State.psWritable (s : State) : Word :=
  if s.cls == .c286 && !s.protectedMode then 0x8FFF else 0xFFFF

/-- `setPS(v, writeMask)` (R39): the record is encoded anew with size WORD (92 D57), and each direct bit
of the mask takes the bit of `v`. -/
def State.setPS (s : State) (v mask : Word) : State :=
  { s with
    triple := .encode (.ofWord v) .word
    live := (s.live &&& ~~~(directMask s.cls &&& mask))
      ||| (v &&& s.psWritable &&& (directMask s.cls &&& mask)) }

/-- The write mask of POPF and of an IRET to the same level (R39; 92 D15). -/
def State.popMask (s : State) : Word :=
  if s.protectedMode then
    (if s.iopl.toNat < s.sys.cpl.toNat then 0xFDFF else 0xFFFF) &&& (if s.sys.cpl = 0 then 0xFFFF else 0xCFFF)
  else 0xFFFF

/-! ## Undefined flags (92 D32) -/

/-- Draw the next free value: the counter moves on, so that no later draw is the same one. -/
def State.drawn (s : State) : State := { s with draws := s.draws + 1 }

/-- The free value of a flag an instruction leaves undefined. -/
def State.undefinedFlag (s : State) (f : ArithFlag) : Bool := Config.undefinedFlag s.draws f

/-! ## The flags of each kind of result -/

/-- The flags of a logical result: AF is undefined (43 R500). -/
def State.setLogic {n : Nat} (s : State) (z : ResultSize) (r : BitVec n) : State :=
  (s.setFlags { (logicTriple z r).flags with af := s.undefinedFlag .af } z).drawn

/-- The flags of a multiplication: CF = OF, the others undefined (42 R411 to R413). -/
def State.setMul (s : State) (z : ResultSize) (wide : Bool) : State :=
  (s.setFlags
    { cf := wide, of := wide, pf := s.undefinedFlag .pf, af := s.undefinedFlag .af,
      zf := s.undefinedFlag .zf, sf := s.undefinedFlag .sf } z).drawn

/-- The flags of a division: all six undefined (42 R414, R415). -/
def State.setDiv (s : State) (z : ResultSize) : State :=
  (s.setFlags
    { cf := s.undefinedFlag .cf, of := s.undefinedFlag .of, pf := s.undefinedFlag .pf,
      af := s.undefinedFlag .af, zf := s.undefinedFlag .zf, sf := s.undefinedFlag .sf } z).drawn

/-- The flags of DAA and DAS: CF and AF given, SF, ZF and PF of AL, OF undefined (42 R416, R417). -/
def State.setDecimal (s : State) (al : Byte) (cf af : Bool) : State :=
  (s.setFlags
    { (logicTriple .byte al).flags with cf := cf, af := af, of := s.undefinedFlag .of } .byte).drawn

/-- The flags of AAA and AAS: CF = AF, the others undefined (42 R418, R419). -/
def State.setAscii (s : State) (adjust : Bool) : State :=
  (s.setFlags
    { cf := adjust, af := adjust, of := s.undefinedFlag .of, pf := s.undefinedFlag .pf,
      zf := s.undefinedFlag .zf, sf := s.undefinedFlag .sf } .byte).drawn

/-- The flags of AAM and AAD: SF, ZF and PF of AL, the others undefined (42 R420, R421). -/
def State.setAdjusted (s : State) (al : Byte) : State :=
  (s.setFlags
    { (logicTriple .byte al).flags with
      cf := s.undefinedFlag .cf, af := s.undefinedFlag .af, of := s.undefinedFlag .of } .byte).drawn

/-! ## Shifts and rotates (43 R511 to R519) -/

/-- The result of a shift or rotate by a count above 0, with the CF it gives and the OF it gives for a
count of 1. -/
structure Shifted (n : Nat) where
  r  : BitVec n
  cf : Bool
  of : Bool
deriving DecidableEq, Repr

/-- ROL (R511). -/
def rolResult {n : Nat} (_cf : Bool) (d : BitVec n) (c : Nat) : Shifted n where
  r  := d.rotateLeft (c % n)
  cf := (d.rotateLeft (c % n)).getLsbD 0
  of := (d.rotateLeft (c % n)).msb ^^ (d.rotateLeft (c % n)).getLsbD 0

/-- ROR (R512). -/
def rorResult {n : Nat} (_cf : Bool) (d : BitVec n) (c : Nat) : Shifted n where
  r  := d.rotateRight (c % n)
  cf := (d.rotateRight (c % n)).msb
  of := (d.rotateRight (c % n)).msb ^^ (d.rotateRight (c % n)).getLsbD (n - 2)

/-- The (n+1)-bit value CF:d rotated left (R513). -/
def rclWide {n : Nat} (cf : Bool) (d : BitVec n) (c : Nat) : BitVec (n + 1) :=
  (BitVec.cons cf d).rotateLeft (c % (n + 1))

/-- RCL (R513). -/
def rclResult {n : Nat} (cf : Bool) (d : BitVec n) (c : Nat) : Shifted n where
  r  := (rclWide cf d c).setWidth n
  cf := (rclWide cf d c).msb
  of := (rclWide cf d c).getLsbD (n - 1) ^^ (rclWide cf d c).msb

/-- The (n+1)-bit value CF:d rotated right (R514). -/
def rcrWide {n : Nat} (cf : Bool) (d : BitVec n) (c : Nat) : BitVec (n + 1) :=
  (BitVec.cons cf d).rotateRight (c % (n + 1))

/-- RCR (R514). -/
def rcrResult {n : Nat} (cf : Bool) (d : BitVec n) (c : Nat) : Shifted n where
  r  := (rcrWide cf d c).setWidth n
  cf := (rcrWide cf d c).msb
  of := (rcrWide cf d c).getLsbD (n - 1) ^^ (rcrWide cf d c).getLsbD (n - 2)

/-- SHL (R515). -/
def shlResult {n : Nat} (_cf : Bool) (d : BitVec n) (c : Nat) : Shifted n where
  r  := d <<< c
  cf := decide (c ≤ n) && d.getLsbD (n - c)
  of := (d <<< c).msb ^^ (decide (c ≤ n) && d.getLsbD (n - c))

/-- SHR (R516). -/
def shrResult {n : Nat} (_cf : Bool) (d : BitVec n) (c : Nat) : Shifted n where
  r  := d >>> c
  cf := decide (c ≤ n) && d.getLsbD (c - 1)
  of := d.msb

/-- SAR (R517). -/
def sarResult {n : Nat} (_cf : Bool) (d : BitVec n) (c : Nat) : Shifted n where
  r  := d.sshiftRight c
  cf := if c ≤ n then d.getLsbD (c - 1) else d.msb
  of := false

/-- OF of a shift or rotate: given for a count of 1, undefined above it (R510). -/
def State.shiftOf (s : State) (of : Bool) (c : Nat) : Bool := if c = 1 then of else s.undefinedFlag .of

/-- The flags of a rotate: CF and OF, by the setters (R511 to R514, R519). -/
def State.setRotate {n : Nat} (s : State) (_z : ResultSize) (x : Shifted n) (c : Nat) : State :=
  (s.keepSizeSetFlags { s.flags with cf := x.cf, of := s.shiftOf x.of c }).drawn

/-- The flags of a shift: SF, ZF and PF of the result, AF undefined (R515 to R517, R519). -/
def State.setShift {n : Nat} (s : State) (z : ResultSize) (x : Shifted n) (c : Nat) : State :=
  (s.setFlags
    { (logicTriple z x.r).flags with cf := x.cf, of := s.shiftOf x.of c, af := s.undefinedFlag .af } z).drawn

/-- The count that is used: as given on C86, modulo 32 on C186 and C286 (R510). -/
def State.shiftCount (s : State) (c : Byte) : Nat :=
  match s.cls with
  | .c86 => c.toNat
  | .c186 => c.toNat % 32
  | .c286 => c.toNat % 32

/-! ## Conditions (30 R232) -/

/-- The conditions of Jcc, by the low four bits of the opcode (R232). -/
inductive Cond where
  | o | no | b | nb | z | nz | be | a | s | ns | p | np | l | ge | le | g
deriving DecidableEq, Repr

/-- Whether a condition holds of the flags (R232). -/
def Cond.holds (f : Flags) : Cond → Bool
  | .o => f.of
  | .no => !f.of
  | .b => f.cf
  | .nb => !f.cf
  | .z => f.zf
  | .nz => !f.zf
  | .be => f.cf || f.zf
  | .a => !f.cf && !f.zf
  | .s => f.sf
  | .ns => !f.sf
  | .p => f.pf
  | .np => !f.pf
  | .l => f.sf != f.of
  | .ge => f.sf == f.of
  | .le => f.zf || f.sf != f.of
  | .g => !f.zf && f.sf == f.of

end Sys2Proof.Machine
end

