-- ==== Sys2Proof/Machine/Ops.lean ====
section
/-! DEFINITION. The named operations every meaning is written over: registers, the memory bus, address
translation and its checks, segment loads, the stack, port accesses, taking an exception, returning
from one, and the task switch (20_memory.md, 41_data_transfer.md R330, R354, 60_exceptions.md). -/

namespace Sys2Proof.Machine

/-! ## General registers (10 R20 to R22) -/

/-- One general register of the file. -/
def Regs.get (g : Regs) : Reg16 → Word
  | .ax => g.ax
  | .cx => g.cx
  | .dx => g.dx
  | .bx => g.bx
  | .sp => g.sp
  | .bp => g.bp
  | .si => g.si
  | .di => g.di

/-- Write one general register of the file. -/
def Regs.set (g : Regs) (r : Reg16) (v : Word) : Regs :=
  match r with
  | .ax => { g with ax := v }
  | .cx => { g with cx := v }
  | .dx => { g with dx := v }
  | .bx => { g with bx := v }
  | .sp => { g with sp := v }
  | .bp => { g with bp := v }
  | .si => { g with si := v }
  | .di => { g with di := v }

/-- `R16[i]` (R21). -/
def State.reg (s : State) (r : Reg16) : Word := s.regs.get r

/-- `R16[i] <- v` (R21). -/
def State.setReg (s : State) (r : Reg16) (v : Word) : State := { s with regs := s.regs.set r v }

/-- The word register a byte register is half of (R22). -/
def reg8Word : Reg8 → Reg16
  | .al => .ax
  | .cl => .cx
  | .dl => .dx
  | .bl => .bx
  | .ah => .ax
  | .ch => .cx
  | .dh => .dx
  | .bh => .bx

/-- Whether a byte register is the high half of its word register (R22). -/
def reg8High : Reg8 → Bool
  | .al => false
  | .cl => false
  | .dl => false
  | .bl => false
  | .ah => true
  | .ch => true
  | .dh => true
  | .bh => true

/-- `R8[i]` (R22). -/
def State.reg8 (s : State) (r : Reg8) : Byte :=
  if reg8High r then hiByte (s.reg (reg8Word r)) else loByte (s.reg (reg8Word r))

/-- `R8[i] <- v`: only that byte of the word register changes (R22). -/
def State.setReg8 (s : State) (r : Reg8) (v : Byte) : State :=
  s.setReg (reg8Word r) (if reg8High r then mkWord (loByte (s.reg (reg8Word r))) v else mkWord v (hiByte (s.reg (reg8Word r))))

/-! ## Segment registers and the instruction pointer -/

/-- One segment register with its cache (10 R41, R42). -/
def SegRegs.get (g : SegRegs) : SegReg → SegCache
  | .es => g.es
  | .cs => g.cs
  | .ss => g.ss
  | .ds => g.ds

/-- Write one segment register with its cache. -/
def SegRegs.set (g : SegRegs) (r : SegReg) (c : SegCache) : SegRegs :=
  match r with
  | .es => { g with es := c }
  | .cs => { g with cs := c }
  | .ss => { g with ss := c }
  | .ds => { g with ds := c }

/-- `SREG[i]` with its cache (10 R42). -/
def State.seg (s : State) (r : SegReg) : SegCache := s.segs.get r

/-- Load a segment register and its cache (10 R42). -/
def State.setSeg (s : State) (r : SegReg) (c : SegCache) : State := { s with segs := s.segs.set r c }

/-- `flush(newAddr)` (20 R148): the next byte to prefetch is the one at instruction offset `off`. -/
def Prefetch.flush (q : Prefetch) (off : Word) : Prefetch :=
  { q with tail := q.head, queuedBytes := 0, validBytes := 0, nextOffset := off, latch := none }

/-- Flush the queue at the current CS:IP (20 R160), and what an unfinished repetition keeps of it. -/
def State.flushQueue (s : State) : State :=
  { s with
    queue := s.queue.flush s.ip
    rep := s.rep.map fun p => { p with ahead := p.ahead.flush p.nextIp } }

/-- `ip <- target`, with the flush of every write of IP that is no sequential advance (20 R160). -/
def State.jump (s : State) (target : Word) : State :=
  { s with ip := target, queue := s.queue.flush target }

/-! ## Exceptions as values -/

/-- The exceptions the block raises (60 R910), with the error code of a protected-mode delivery. -/
inductive Exc where
  | de | db | br | ud | nm | df
  | ts (code : Word)
  | np (code : Word)
  | ss (code : Word)
  | gp (code : Word)
deriving DecidableEq, Repr

/-- The vector of an exception (R910). -/
def Exc.vector : Exc → Byte
  | .de => 0
  | .db => 1
  | .br => 5
  | .ud => 6
  | .nm => 7
  | .df => 8
  | .ts _ => 10
  | .np _ => 11
  | .ss _ => 12
  | .gp _ => 13

/-- The error code of an exception, if it has one (R910; 92 D64). -/
def Exc.code : Exc → Option Word
  | .de => none
  | .db => none
  | .br => none
  | .ud => none
  | .nm => none
  | .df => some 0
  | .ts c => some c
  | .np c => some c
  | .ss c => some c
  | .gp c => some c

/-- A raised exception: the state when it was raised, of which only what outside parties have seen stays
(92 D37), unless it was raised after the commit point of a task switch (92 D65). -/
structure Raise where
  exc       : Exc
  seen      : State
  committed : Bool
deriving DecidableEq, Repr

/-- The result of an operation that may raise (00 R10). -/
abbrev Res (α : Type) := Except Raise α

/-- `raise` (00 R10). -/
def raise {α : Type} (s : State) (e : Exc) : Res α := .error { exc := e, seen := s, committed := false }

/-- Raise when a check fails. -/
def raiseIf (c : Bool) (s : State) (e : Exc) : Res Unit := if c then raise s e else .ok ()

/-! ## Physical memory (20 R100 to R107) -/

/-- What a byte of the memory list reads as. DESIGN CHOICE (notes/assumptions/4.md): a byte nothing
has written reads as zero. -/
def Memory.read : List Host.Cell → Nat → Byte
  | [], _ => 0
  | (a, b) :: m, k => if a = k then b else Memory.read m k

/-- The list without the byte at an address. -/
def Memory.erase : List Host.Cell → Nat → List Host.Cell
  | [], _ => []
  | (a, b) :: m, k => if a = k then Memory.erase m k else (a, b) :: Memory.erase m k

/-- The list with a byte put at its place by rising address. -/
def Memory.insert : List Host.Cell → Nat → Byte → List Host.Cell
  | [], k, v => [(k, v)]
  | (a, b) :: m, k, v => if k < a then (k, v) :: (a, b) :: m else (a, b) :: Memory.insert m k v

/-- Write a byte; writing what an unlisted byte reads as unlists it. -/
def Memory.write (m : List Host.Cell) (k : Nat) (v : Byte) : List Host.Cell :=
  if v = 0 then Memory.erase m k else Memory.insert (Memory.erase m k) k v

/-- Addresses from `lo` on, strictly rising, no byte zero. -/
def Memory.wfFrom : Nat → List Host.Cell → Bool
  | _, [] => true
  | lo, (a, b) :: m => decide (lo ≤ a) && b != 0 && Memory.wfFrom (a + 1) m

/-- The canonical form of a memory list. -/
def Memory.wf (m : List Host.Cell) : Bool := Memory.wfFrom 0 m

/-- Whether a run of blocks holds block `k`. -/
def BlockRange.covers (r : BlockRange) (k : Nat) : Bool := decide (r.first ≤ k) && decide (k < r.first + r.count)

/-- The kind of the block a physical address lies in: the newest installation wins, and an address no
block covers is `unmapped` (R100, R101). -/
def State.kindAt (s : State) (p : Nat) : BlockKind :=
  match s.blocks.find? (fun r => r.covers (p >>> s.cfg.blockShift)) with
  | some r => r.kind
  | none => .unmapped

/-- Whether the address is the last of its block (R105). -/
def State.lastOfBlock (s : State) (p : Nat) : Bool :=
  p % 2 ^ s.cfg.blockShift == 2 ^ s.cfg.blockShift - 1

/-- `addrMask` (R102; 92 D3, 90 C1). -/
def State.addrMask (s : State) : BitVec 32 :=
  match s.cls, s.a20, s.cfg.a20OffMask with
  | .c286, true, _ => 0xFFFFFF
  | .c286, false, .low20 => 0x0FFFFF
  | .c286, false, .clearBit20 => 0xEFFFFF
  | _, true, _ => 0x1FFFFF
  | _, false, _ => 0x0FFFFF

/-- The physical address of a linear address (R103). -/
def State.phys (s : State) (linear : BitVec 32) : Nat := (linear &&& s.addrMask).toNat

/-- The physical address after another one (R105, R106). -/
def State.physNext (s : State) (p : Nat) : Nat := s.phys (BitVec.ofNat 32 (p + 1))

/-- Note a call of a host oracle. -/
def State.note (s : State) (e : BusEvent) : State := { s with host := { s.host with calls := e :: s.host.calls } }

/-- `readByte` of the block (R101, R104): a device answers a free value. DESIGN CHOICE (notes/assumptions/28.md): a
device changes no byte of memory inside its call (R137 lets it). -/
def State.busRead8 (s : State) (p : Nat) : Byte × State :=
  match s.kindAt p with
  | .ram => (Memory.read s.mem p, s)
  | .rom => (Memory.read s.mem p, s)
  | .unmapped => (0, s)
  | .device _ => (Config.deviceByte s.draws p, s.drawn.note (.deviceRead p 1))

/-- `writeByte` of the block (R101, R104): only `ram` changes memory. DESIGN CHOICE (notes/assumptions/28.md): a
device changes no byte of memory inside its call (R137 lets it). -/
def State.busWrite8 (s : State) (p : Nat) (v : Byte) : State :=
  match s.kindAt p with
  | .ram => { s with mem := Memory.write s.mem p v }
  | .rom => s
  | .unmapped => s
  | .device _ => s.note (.deviceWrite p 1 (zext16 v))

/-- Two byte reads, low byte first (R105, R116; 92 D58). -/
def State.busReadBytes (s : State) (p q : Nat) : Word × State :=
  (mkWord (s.busRead8 p).1 ((s.busRead8 p).2.busRead8 q).1, ((s.busRead8 p).2.busRead8 q).2)

/-- `MemRead(paddr, 2)` (R105). -/
def State.busRead16 (s : State) (p : Nat) : Word × State :=
  if s.lastOfBlock p then s.busReadBytes p (s.physNext p)
  else
    match s.kindAt p with
    | .ram => (mkWord (Memory.read s.mem p) (Memory.read s.mem (p + 1)), s)
    | .rom => (mkWord (Memory.read s.mem p) (Memory.read s.mem (p + 1)), s)
    | .unmapped => (0, s)
    | .device _ => (Config.deviceWord s.draws p, s.drawn.note (.deviceRead p 2))

/-- Two byte writes, low byte first (R106, R116; 92 D58). -/
def State.busWriteBytes (s : State) (p q : Nat) (v : Word) : State :=
  (s.busWrite8 p (loByte v)).busWrite8 q (hiByte v)

/-- `MemWrite(paddr, 2, v)` (R106). -/
def State.busWrite16 (s : State) (p : Nat) (v : Word) : State :=
  if s.lastOfBlock p then s.busWriteBytes p (s.physNext p) v
  else
    match s.kindAt p with
    | .ram => { s with mem := Memory.write (Memory.write s.mem p (loByte v)) (p + 1) (hiByte v) }
    | .rom => s
    | .unmapped => s
    | .device _ => s.note (.deviceWrite p 2 v)

/-! ## Address translation and its checks (20 R113 to R117, R129 to R134) -/

/-- `linear` of an offset in a segment: base plus offset, exact (R113). -/
def SegCache.linear (c : SegCache) (off : Word) : BitVec 32 := c.base.setWidth 32 + off.setWidth 32

/-- The physical address of the byte at an offset of a segment (R113). -/
def State.segAddr (s : State) (r : SegReg) (off : Word) : Nat := s.phys ((s.seg r).linear off)

/-- The physical address of the second byte of a word at offset 0xFFFF (R117; 92 D48): C86 wraps to
offset 0 of the segment, C186 goes on past it. On C286 the access has faulted in real mode, and in protected mode
unless the segment's 20-bit limit lies above 0xFFFF (R123): there R131's test passes, R117 says that it faults, and the
model lets it through, with the second byte at base + 0x10000 (DESIGN CHOICE, notes/assumptions/34.md). -/
def State.wrapAddr (s : State) (r : SegReg) : Nat :=
  match s.cls with
  | .c86 => s.segAddr r 0
  | .c186 => s.phys ((s.seg r).base.setWidth 32 + 0x10000)
  | .c286 => s.phys ((s.seg r).base.setWidth 32 + 0x10000)

/-- The fields of an access byte (10 R43). -/
def accPresent (a : Byte) : Bool := a.getLsbD 7
def accDpl (a : Byte) : BitVec 2 := a.extractLsb' 5 2
def accCodeOrData (a : Byte) : Bool := a.getLsbD 4
def accExec (a : Byte) : Bool := a.getLsbD 3
/-- Bit 2: conforming for code, expand-down for data. -/
def accBit2 (a : Byte) : Bool := a.getLsbD 2
/-- Bit 1: readable for code, writable for data. -/
def accBit1 (a : Byte) : Bool := a.getLsbD 1
def accAccessed (a : Byte) : Bool := a.getLsbD 0
/-- The type field of a system descriptor. -/
def accType (a : Byte) : BitVec 4 := a.extractLsb' 0 4

/-- `Fault(s)`: #SS(0) for SS and #GP(0) otherwise (R131; 92 D38). -/
def segFault : SegReg → Exc
  | .ss => .ss 0
  | .es => .gp 0
  | .cs => .gp 0
  | .ds => .gp 0

/-- Whether a protected-mode offset range is outside the segment (R131; expand-down by 92 D22). -/
def SegCache.outside (c : SegCache) (off : Word) (extra : Nat) : Bool :=
  if accBit2 c.access && !accExec c.access then
    decide (off.toNat ≤ c.limit.toNat) || decide (0xFFFF < off.toNat + extra)
  else decide (c.limit.toNat < off.toNat + extra)

/-- Whether the segment's type forbids the access (R131). -/
def SegCache.forbids (c : SegCache) (write : Bool) : Bool :=
  if write then accExec c.access || !accBit1 c.access else accExec c.access && !accBit1 c.access

/-- `checkRead` and `checkWrite` with `extra = byteCount − 1` (R130 to R134): what the access raises. -/
def State.accessFault (s : State) (r : SegReg) (off : Word) (extra : Nat) (write : Bool) : Option Exc :=
  match s.cls with
  | .c86 => none
  | .c186 => none
  | .c286 =>
    if s.protectedMode then
      if (s.seg r).nullLoaded then some (.gp 0)
      else if (s.seg r).outside off extra then some (segFault r)
      else if (s.seg r).forbids write then some (.gp 0)
      else none
    else if 0xFFFF < off.toNat + extra then some (segFault r)
    else none

/-- The check of an access, as an operation that raises before any byte moves (R129). -/
def State.checkAccess (s : State) (r : SegReg) (off : Word) (extra : Nat) (write : Bool) : Res Unit :=
  match s.accessFault r off extra write with
  | none => .ok ()
  | some e => raise s e

/-- The word at an offset of a segment, unchecked: one word access, or two byte accesses where the
offset passes 0xFFFF (R116, R117). -/
def State.segGet16 (s : State) (r : SegReg) (off : Word) : Word × State :=
  if off = 0xFFFF then s.busReadBytes (s.segAddr r off) (s.wrapAddr r) else s.busRead16 (s.segAddr r off)

/-- Put a word at an offset of a segment, unchecked (R116, R117). -/
def State.segPut16 (s : State) (r : SegReg) (off : Word) (v : Word) : State :=
  if off = 0xFFFF then s.busWriteBytes (s.segAddr r off) (s.wrapAddr r) v else s.busWrite16 (s.segAddr r off) v

/-- `SegRead(sreg, off, 1)` (R129). -/
def State.segRead8 (s : State) (r : SegReg) (off : Word) : Res (Byte × State) := do
  s.checkAccess r off 0 false
  return s.busRead8 (s.segAddr r off)

/-- `SegRead(sreg, off, 2)` (R129). -/
def State.segRead16 (s : State) (r : SegReg) (off : Word) : Res (Word × State) := do
  s.checkAccess r off 1 false
  return s.segGet16 r off

/-- `SegWrite(sreg, off, 1, v)` (R129). -/
def State.segWrite8 (s : State) (r : SegReg) (off : Word) (v : Byte) : Res State := do
  s.checkAccess r off 0 true
  return s.busWrite8 (s.segAddr r off) v

/-- `SegWrite(sreg, off, 2, v)` (R129). -/
def State.segWrite16 (s : State) (r : SegReg) (off : Word) (v : Word) : Res State := do
  s.checkAccess r off 1 true
  return s.segPut16 r off v

/-! ## The stack (41 R330) -/

/-- `Push16` (R330). -/
def State.push16 (s : State) (v : Word) : Res State := do
  let t ← s.segWrite16 .ss (s.regs.sp - 2) v
  return t.setReg .sp (s.regs.sp - 2)

/-- `Pop16` (R330). -/
def State.pop16 (s : State) : Res (Word × State) := do
  let (v, t) ← s.segRead16 .ss s.regs.sp
  return (v, t.setReg .sp (s.regs.sp + 2))

/-- Push words in order. -/
def State.pushAll : List Word → State → Res State
  | [], s => .ok s
  | v :: vs, s => do
    let t ← s.push16 v
    State.pushAll vs t

/-! ## Ports (20 R112, 41 R354) -/

/-- `IORead(port, n)`: the host's next queued answer, else a free value (R112; 92 D7). -/
def State.ioRead (s : State) (port : Word) (width : Nat) : Word × State :=
  match s.host.ioAnswers with
  | a :: rest => (a, { s with host := { s.host with ioAnswers := rest, calls := .portRead port width :: s.host.calls } })
  | [] => (Config.ioAnswer s.draws port width, s.drawn.note (.portRead port width))

/-- `IOWrite(port, n, v)` (R112). -/
def State.ioWrite (s : State) (port : Word) (width : Nat) (v : Word) : State := s.note (.portWrite port width v)

/-- Whether CPL > IOPL in protected mode (R354; 92 D16). -/
def State.ioplDenies (s : State) : Bool := s.protectedMode && decide (s.iopl.toNat < s.sys.cpl.toNat)

/-- The check of an IOPL-sensitive instruction (R354; 46 R753, R754). -/
def State.checkIopl (s : State) : Res Unit := raiseIf s.ioplDenies s (.gp 0)

/-- The check of a privileged instruction (47 R800, 46 R758; 92 D17). -/
def State.checkCpl0 (s : State) : Res Unit := raiseIf (s.protectedMode && s.sys.cpl != 0) s (.gp 0)

/-- The check of a protected-mode-only instruction (47 R800; 92 D18). -/
def State.checkProtected (s : State) : Res Unit := raiseIf (!s.protectedMode) s .ud

/-! ## System tables and descriptors (20 R121, R123, R135) -/

/-- A byte of a system table (R135). -/
def State.sysRead8 (s : State) (linear : BitVec 32) : Byte × State := s.busRead8 (s.phys linear)

/-- A word of a system table (R135). -/
def State.sysRead16 (s : State) (linear : BitVec 32) : Word × State := s.busRead16 (s.phys linear)

/-- Write a byte of a system table (R135). -/
def State.sysWrite8 (s : State) (linear : BitVec 32) (v : Byte) : State := s.busWrite8 (s.phys linear) v

/-- Write a word of a system table (R135). -/
def State.sysWrite16 (s : State) (linear : BitVec 32) (v : Word) : State := s.busWrite16 (s.phys linear) v

/-- The bytes of a descriptor or gate that mean something: bytes 0-1, 2-3, 4, 5 and 6 (R123, 60 R921). -/
structure Desc where
  lo     : Word
  mid    : Word
  b4     : Byte
  access : Byte
  b6     : Byte
deriving DecidableEq, Repr

/-- The 24-bit base: bytes 2, 3, 4 (R123; 90 C5). -/
def Desc.base (d : Desc) : BitVec 24 := d.b4 ++ d.mid

/-- The 20-bit limit: bytes 0, 1 and the low half of 6 (R123). -/
def Desc.limit (d : Desc) : BitVec 20 := d.b6.extractLsb' 0 4 ++ d.lo

/-- The word count of a call gate (45 R677). -/
def Desc.count (d : Desc) : Nat := (d.b4.extractLsb' 0 5).toNat

/-- The DPL of a descriptor (10 R43). -/
def Desc.dpl (d : Desc) : BitVec 2 := accDpl d.access

/-- A present bit (10 R43). -/
def Desc.present (d : Desc) : Bool := accPresent d.access

/-- Whether the descriptor is a code segment (10 R43). -/
def Desc.isCode (d : Desc) : Bool := accCodeOrData d.access && accExec d.access

/-- Whether it is a conforming code segment. -/
def Desc.conforming (d : Desc) : Bool := d.isCode && accBit2 d.access

/-- Whether it is a data segment. -/
def Desc.isData (d : Desc) : Bool := accCodeOrData d.access && !accExec d.access

/-- Whether it is a writable data segment. -/
def Desc.writable (d : Desc) : Bool := d.isData && accBit1 d.access

/-- Whether it is data, or code that may be read. -/
def Desc.readable (d : Desc) : Bool := d.isData || (d.isCode && accBit1 d.access)

/-- Whether it is a system descriptor of the type (10 R43). -/
def Desc.isSystem (d : Desc) (ty : BitVec 4) : Bool := !accCodeOrData d.access && accType d.access == ty

/-- Read the eight bytes of a table entry (R121); byte 7 is read and unused. -/
def State.readDesc (s : State) (lin : BitVec 32) : Desc × State :=
  let (b0, s) := s.sysRead8 lin
  let (b1, s) := s.sysRead8 (lin + 1)
  let (b2, s) := s.sysRead8 (lin + 2)
  let (b3, s) := s.sysRead8 (lin + 3)
  let (b4, s) := s.sysRead8 (lin + 4)
  let (b5, s) := s.sysRead8 (lin + 5)
  let (b6, s) := s.sysRead8 (lin + 6)
  let (_, s) := s.sysRead8 (lin + 7)
  ({ lo := mkWord b0 b1, mid := mkWord b2 b3, b4 := b4, access := b5, b6 := b6 }, s)

/-- The RPL of a selector. -/
def rpl (sel : Word) : BitVec 2 := sel.extractLsb' 0 2

/-- The error code of a selector (90 C7). -/
def errSel (sel : Word) : Word := sel &&& 0xFFFC

/-- `IsNull` (R122; 92 D19). -/
def State.isNull (s : State) (sel : Word) : Bool :=
  match s.cfg.nullSel with
  | .source => sel &&& 0xFFFB == 0
  | .intel => sel &&& 0xFFFC == 0

/-- The table a selector names: the GDT, or the LDT when bit 2 is set (R121). -/
def State.tableOf (s : State) (sel : Word) : TableReg :=
  if sel.getLsbD 2 then { base := s.sys.ldtr.base, limit := s.sys.ldtr.limit } else s.sys.gdtr

/-- The linear address of a selector's entry (R121). -/
def State.descAddr (s : State) (sel : Word) : BitVec 32 :=
  (s.tableOf sel).base.setWidth 32 + (sel &&& 0xFFF8).setWidth 32

/-- Whether the entry lies in its table, and the LDT exists where the selector names it (R121). -/
def State.inTable (s : State) (sel : Word) : Bool :=
  !(sel.getLsbD 2 && s.isNull s.sys.ldtr.selector) &&
    decide ((sel &&& 0xFFF8).toNat + 7 ≤ (s.tableOf sel).limit.toNat)

/-- `FetchDescriptor` with the exception of a selector outside its table (R121). -/
def State.fetchDescOr (s : State) (sel : Word) (outside : Exc) : Res (Desc × State) := do
  raiseIf (!s.inTable sel) s outside
  return s.readDesc (s.descAddr sel)

/-- `FetchDescriptor` (R121). -/
def State.fetchDesc (s : State) (sel : Word) : Res (Desc × State) := s.fetchDescOr sel (.gp (errSel sel))

/-- Write an access byte back to its descriptor (R127, 47 R804, 60 R960). -/
def State.putAccess (s : State) (sel : Word) (a : Byte) : State := s.sysWrite8 (s.descAddr sel + 5) a

/-- `SetAccessed` (R127; 92 D21). -/
def State.setAccessed (s : State) (sel : Word) (d : Desc) : State :=
  if accAccessed d.access then s else s.putAccess sel (d.access ||| 1)

/-- The cache a protected-mode load leaves (R120, R124, R127). -/
def Desc.cache (d : Desc) (sel : Word) : SegCache where
  selector   := sel
  base       := d.base
  limit      := d.limit
  access     := d.access ||| 1
  nullLoaded := false

/-! ## Segment loads (20 R118 to R128) -/

/-- The larger of CPL and a selector's RPL. -/
def State.effPl (s : State) (sel : Word) : Nat := max s.sys.cpl.toNat (rpl sel).toNat

/-- The checks of a DS or ES load of a selector that is not null, with the exceptions of a selector
outside its table, of a wrong type or privilege, and of a segment not present (R120). -/
def State.checkData (s : State) (sel : Word) (outside bad absent : Exc) : Res (Desc × State) := do
  let (d, s) ← s.fetchDescOr sel outside
  raiseIf (!d.readable) s bad
  raiseIf (!d.conforming && decide (d.dpl.toNat < s.effPl sel)) s bad
  raiseIf (!d.present) s absent
  return (d, s)

/-- A null selector in DS or ES: the mark is set, the rest of the cache stays (R120, R122). -/
def SegCache.nulled (c : SegCache) (sel : Word) : SegCache := { c with selector := sel, nullLoaded := true }

/-- The protected-mode load of DS or ES with its exceptions (R120). -/
def State.loadDataOr (s : State) (r : SegReg) (sel : Word) (outside bad absent : Exc) : Res State :=
  if s.isNull sel then .ok (s.setSeg r ((s.seg r).nulled sel))
  else do
    let (d, s) ← s.checkData sel outside bad absent
    return (s.setAccessed sel d).setSeg r (d.cache sel)

/-- The checks of an SS load at a privilege level, with the exceptions of a null selector, of a selector
outside its table, and of a wrong type or privilege; not present raises #SS (R124, 60 R942). -/
def State.checkStack (s : State) (sel : Word) (level : BitVec 2) (null outside bad : Exc) :
    Res (Desc × State) := do
  raiseIf (s.isNull sel) s null
  let (d, s) ← s.fetchDescOr sel outside
  raiseIf (!d.writable) s bad
  raiseIf (rpl sel != level || d.dpl != level) s bad
  raiseIf (!d.present) s (.ss (errSel sel))
  return (d, s)

/-- Put a checked stack segment into SS. NOINTR stays: MOV SS and POP SS set it (10 R49), the
other loads of SS do not (DESIGN CHOICE: notes/assumptions/32.md). -/
def State.setStack (s : State) (sel : Word) (d : Desc) : State := (s.setAccessed sel d).setSeg .ss (d.cache sel)

/-- `load(sreg, selector)` of an instruction (R118): the real-mode load of R119, or the protected-mode
loads of R120 and R124. CS is loaded by control transfers, and by MOV CS and POP CS in real mode. -/
def State.loadSeg (s : State) (r : SegReg) (sel : Word) : Res State :=
  if s.protectedMode then
    match r with
    | .ss => do
      let (d, t) ← s.checkStack sel s.sys.cpl (.np 0) (.gp (errSel sel)) (.gp (errSel sel))
      return t.setStack sel d
    | .es => s.loadDataOr .es sel (.gp (errSel sel)) (.gp (errSel sel)) (.np (errSel sel))
    | .ds => s.loadDataOr .ds sel (.gp (errSel sel)) (.gp (errSel sel)) (.np (errSel sel))
    | .cs => .ok (s.setSeg .cs (.real sel))
  else .ok (s.setSeg r (.real sel))

/-- The protected-mode load of CS from a checked descriptor: the accessed bit, the selector with its new
RPL, and CPL (R126, R127; 92 D39). -/
def State.setCode (s : State) (sel : Word) (newRpl : BitVec 2) (d : Desc) : State :=
  let t := (s.setAccessed sel d).setSeg .cs (d.cache (errSel sel ||| newRpl.setWidth 16))
  { t with sys := { t.sys with cpl := newRpl } }

/-- The real-mode load of CS (R119), with the jump. -/
def State.farJumpReal (s : State) (sel off : Word) : State := (s.setSeg .cs (.real sel)).jump off

/-- `ip <- target` of a near transfer, checked against CS.limit in protected mode (45 R650, R667). -/
def State.nearJump (s : State) (target : Word) : Res State := do
  raiseIf (s.protectedMode && decide ((s.seg .cs).limit.toNat < target.toNat)) s (.gp 0)
  return s.jump target

/-! ## Taking an exception or an interrupt (60 R920 to R942) -/

/-- The base of the vector table: 0 where there is no IDTR (R920). -/
def State.idtBase (s : State) : BitVec 32 :=
  match s.cls with
  | .c86 => 0
  | .c186 => 0
  | .c286 => s.sys.idtr.base.setWidth 32

/-- Clear direct bits of PS (R920, R921: the entry mask). -/
def State.clearDirect (s : State) (mask : Word) : State := { s with live := s.live &&& ~~~mask }

/-- TF and IF (R920). -/
def maskTfIf : Word := 0x0300

/-- NT and TF (R921: trap gate). -/
def maskNtTf : Word := 0x4100

/-- NT, TF and IF (R921: interrupt gate). -/
def maskNtTfIf : Word := 0x4300

/-- The real-mode delivery of vector `n` (R920, R930). -/
def State.deliverReal (s : State) (n : Byte) (savedIp : Word) : Res State := do
  raiseIf (s.cls == .c286 && decide (s.sys.idtr.limit.toNat < 4 * n.toNat + 3)) s (.gp 0)
  let (off, s) := s.sysRead16 (s.idtBase + BitVec.ofNat 32 (4 * n.toNat))
  let (sel, s) := s.sysRead16 (s.idtBase + BitVec.ofNat 32 (4 * n.toNat + 2))
  let s ← State.pushAll [s.getPS, (s.seg .cs).selector, savedIp] s
  return (s.clearDirect maskTfIf).farJumpReal sel off

/-- The error code that names an IDT entry (R921). -/
def idtCode (n : Byte) : Word := zext16 n * 8 + 2

/-- The gate of vector `n` (R921). -/
def State.readGate (s : State) (n : Byte) : Res (Desc × State) := do
  raiseIf (decide (s.sys.idtr.limit.toNat < 8 * n.toNat + 7)) s (.gp (idtCode n))
  let (g, s) := s.readDesc (s.idtBase + BitVec.ofNat 32 (8 * n.toNat))
  raiseIf (!(g.isSystem 6 || g.isSystem 7)) s (.gp (idtCode n))
  return (g, s)

/-- The stack pair of a level from the TSS: (SS, SP) (R942). -/
def State.tssStack (s : State) (level : BitVec 2) : Res ((Word × Word) × State) := do
  raiseIf (decide (s.sys.tr.limit.toNat < 4 * level.toNat + 5)) s (.ts (errSel s.sys.tr.selector))
  let (nsp, s) := s.sysRead16 (s.sys.tr.base.setWidth 32 + BitVec.ofNat 32 (2 + 4 * level.toNat))
  let (nss, s) := s.sysRead16 (s.sys.tr.base.setWidth 32 + BitVec.ofNat 32 (4 + 4 * level.toNat))
  return ((nss, nsp), s)

/-- The inner-level stack the TSS gives, validated: SS, SP and the descriptor (R942). -/
def State.innerCheck (s : State) (level : BitVec 2) : Res ((Word × Word × Desc) × State) := do
  let ((nss, nsp), s) ← s.tssStack level
  let (d, s) ← s.checkStack nss level (.ts (errSel nss)) (.ts (errSel nss)) (.ts (errSel nss))
  return ((nss, nsp, d), s)

/-- Switch to an inner-level stack: CPL, SS and SP change (R941, 45 R677). DESIGN CHOICE (notes/assumptions/14.md): the
accessed bit of the new SS's descriptor is written here, before the words are pushed. NOINTR stays (DESIGN CHOICE:
notes/assumptions/32.md). -/
def State.enterStack (s : State) (nss nsp : Word) (d : Desc) (level : BitVec 2) : State :=
  let t := (s.setStack nss d).setReg .sp nsp
  { t with sys := { t.sys with cpl := level } }

/-- The words of the frame: PS, CS, IP and the error code if there is one (R941; 92 D64). -/
def frameWords (f cs ip : Word) (code : Option Word) : List Word :=
  [f, cs, ip] ++ code.toList

/-- The code segment a gate names, checked (R941). -/
def State.gateTarget (s : State) (g : Desc) : Res (Desc × State) := do
  raiseIf (s.isNull g.mid) s (.gp 0)
  let (t, s) ← s.fetchDesc g.mid
  raiseIf (!t.isCode || decide (s.sys.cpl.toNat < t.dpl.toNat)) s (.gp (errSel g.mid))
  raiseIf (!t.present) s (.np (errSel g.mid))
  raiseIf (decide (t.limit.toNat < g.lo.toNat)) s (.gp 0)
  return (t, s)

/-- The pushes of a protected-mode delivery, on the inner level's stack where the target is more
privileged and not conforming (R941). -/
def State.pushFrame (s : State) (t : Desc) (frame : List Word) : Res State :=
  if !t.conforming && decide (t.dpl.toNat < s.sys.cpl.toNat) then do
    let ((nss, nsp, d), u) ← s.innerCheck t.dpl
    State.pushAll ([(s.seg .ss).selector, s.regs.sp] ++ frame) (u.enterStack nss nsp d t.dpl)
  else State.pushAll frame s

/-- The protected-mode delivery of vector `n` (R941). -/
def State.deliverProtected (s : State) (n : Byte) (software : Bool) (savedIp : Word) (code : Option Word) :
    Res State := do
  let (g, s) ← s.readGate n
  raiseIf (software && decide (g.dpl.toNat < s.sys.cpl.toNat)) s (.gp (idtCode n))
  raiseIf (!g.present) s (.np (idtCode n))
  let (t, s) ← s.gateTarget g
  let s ← s.pushFrame t (frameWords s.getPS (s.seg .cs).selector savedIp code)
  let s := (s.setCode g.mid s.sys.cpl t).jump g.lo
  return s.clearDirect (if g.isSystem 6 then maskNtTfIf else maskNtTf)

/-- `Deliver(n, kind, errorCode?)` (R930): one delivery, all or nothing. -/
def State.deliver (s : State) (n : Byte) (software : Bool) (savedIp : Word) (code : Option Word) : Res State :=
  if s.protectedMode then s.deliverProtected n software savedIp code else s.deliverReal n savedIp

/-- What stays of an abandoned attempt: the state before it, with what outside parties have seen. -/
def State.undo (s seen : State) : State := { s with draws := seen.draws, host := seen.host }

/-- TAKING AN EXCEPTION (R930, R970, R971): its vector is delivered with the saved IP; a fault in that
delivery is replaced by #DF, and a fault in the delivery of #DF shuts the block down. DESIGN CHOICE
(notes/assumptions/29.md): in SHUTDOWN IP is where the decoder had got to, not the saved IP. -/
def State.takeException (s : State) (savedIp : Word) (e : Exc) : State :=
  match s.deliver e.vector false savedIp e.code with
  | .ok t => t
  | .error r =>
    match (s.undo r.seen).deliver Exc.df.vector false savedIp Exc.df.code with
    | .ok t => t
    | .error r2 => { s.undo r2.seen with status := .shutdown }

/-- The saved IP of an exception an instruction raises (R931): C86 and C186 save the next instruction
for #DE; everything else saves the first byte of the instruction. -/
def State.savedIp (s : State) (e : Exc) : Word :=
  match e, s.cls with
  | .de, .c86 => s.ip
  | .de, .c186 => s.ip
  | _, _ => s.scratch.startIp

/-- Deliver the exception an instruction raised (R911; 92 D37): the instruction has no effect, or, after
the commit point of a task switch, the fault is the new task's (92 D65). `handlerEntry` makes the step go
on with the handler's first instruction (R911). -/
def State.deliverRaise (s : State) (r : Raise) : State :=
  { (if r.committed then r.seen.takeException r.seen.ip r.exc
     else (s.undo r.seen).takeException (s.savedIp r.exc) r.exc) with handlerEntry := true }

/-- Latch the single-step trap if the instruction began with TF set (R905; 92 D9). -/
def State.latchTrap (s t : State) : State :=
  if s.tf then { t with intFlags := { t.intFlags with trap := true } } else t

/-- How an instruction that began in state `s` ends: completed, or with an exception taken. -/
def State.finish (s : State) (r : Res State) : Host.Outcome State Fault Refusal :=
  match r with
  | .ok t => .next (s.latchTrap t)
  | .error e => .next (s.deliverRaise e)

/-! ## Task switching (60 R960 to R962) -/

/-- The kinds of task switch (R960). -/
inductive SwitchKind where
  | jmp | call | iret
deriving DecidableEq, Repr

/-- Write words at rising word offsets of a TSS. -/
def State.tssWriteAll : List Word → BitVec 32 → State → State
  | [], _, s => s
  | v :: vs, lin, s => State.tssWriteAll vs (lin + 2) (s.sysWrite16 lin v)

/-- The outgoing task's words from offset 14 (IP) to offset 40 (DS) (R960, R961). -/
def State.taskWords (s : State) : List Word :=
  [s.ip, s.getPS, s.regs.ax, s.regs.cx, s.regs.dx, s.regs.bx, s.regs.sp, s.regs.bp, s.regs.si, s.regs.di,
    s.segs.es.selector, s.segs.cs.selector, s.segs.ss.selector, s.segs.ds.selector]

/-- Save the outgoing task into its TSS (R960). -/
def State.saveTask (s : State) : State :=
  State.tssWriteAll s.taskWords (s.sys.tr.base.setWidth 32 + 14) s

/-- Change the busy bit of a TSS descriptor in memory (R960). -/
def State.markBusy (s : State) (sel : Word) (busy : Bool) : State :=
  let (a, t) := s.sysRead8 (s.descAddr sel + 5)
  t.putAccess sel (if busy then a ||| 2 else a &&& ~~~2)

/-- The words of the new TSS that are loaded into registers (R961). -/
structure TaskImage where
  ip   : Word
  ps   : Word
  regs : Regs
  es   : Word
  cs   : Word
  ss   : Word
  ds   : Word
  ldt  : Word
deriving DecidableEq, Repr

/-- Read the new task's words, from offset 14 to offset 42 (R960, R961). -/
def State.readTask (s : State) : TaskImage × State :=
  let b : BitVec 32 := s.sys.tr.base.setWidth 32
  let (ip, s) := s.sysRead16 (b + 14)
  let (ps, s) := s.sysRead16 (b + 16)
  let (ax, s) := s.sysRead16 (b + 18)
  let (cx, s) := s.sysRead16 (b + 20)
  let (dx, s) := s.sysRead16 (b + 22)
  let (bx, s) := s.sysRead16 (b + 24)
  let (sp, s) := s.sysRead16 (b + 26)
  let (bp, s) := s.sysRead16 (b + 28)
  let (si, s) := s.sysRead16 (b + 30)
  let (di, s) := s.sysRead16 (b + 32)
  let (es, s) := s.sysRead16 (b + 34)
  let (cs, s) := s.sysRead16 (b + 36)
  let (ss, s) := s.sysRead16 (b + 38)
  let (ds, s) := s.sysRead16 (b + 40)
  let (ldt, s) := s.sysRead16 (b + 42)
  ({ ip := ip, ps := ps,
     regs := { ax := ax, cx := cx, dx := dx, bx := bx, sp := sp, bp := bp, si := si, di := di },
     es := es, cs := cs, ss := ss, ds := ds, ldt := ldt }, s)

/-- Put the new task's words into the registers: the selectors of the segment registers too, whose
caches wait for their loads, and CPL from CS (R960). -/
def State.enterTask (s : State) (k : SwitchKind) (t : TaskImage) : State :=
  let u := ({ s with regs := t.regs } : State).setPS t.ps 0xFFFF
  let u := if k = .call then u.setDirect ntBit true else u
  let u := { u with
    segs := { es := { u.segs.es with selector := t.es }, cs := { u.segs.cs with selector := t.cs },
              ss := { u.segs.ss with selector := t.ss }, ds := { u.segs.ds with selector := t.ds } }
    sys := { u.sys with cpl := rpl t.cs, ldtr := { u.sys.ldtr with selector := t.ldt } } }
  u.jump t.ip

/-- The LDTR of a descriptor (47 R803). -/
def Desc.sysSeg (d : Desc) (sel : Word) (access : Byte) : SysSegReg where
  selector := sel
  base     := d.base
  limit    := d.lo
  access   := access

/-- Load LDTR from the new task's selector (R960). -/
def State.loadTaskLdt (s : State) (sel : Word) : Res State :=
  if s.isNull sel then .ok { s with sys := { s.sys with ldtr := { s.sys.ldtr with selector := sel } } }
  else do
    raiseIf (sel.getLsbD 2) s (.ts (errSel sel))
    let (d, s) ← s.fetchDescOr sel (.ts (errSel sel))
    raiseIf (!d.isSystem 2 || !d.present) s (.ts (errSel sel))
    return { s with sys := { s.sys with ldtr := d.sysSeg sel d.access } }

/-- Load CS from the new task's selector (R960): null raises #NP(0) (20 R122), outside its table #GP (20 R121).
DEDUCED (notes/assumptions/15.md): the code-segment checks. -/
def State.loadTaskCs (s : State) (sel : Word) : Res State := do
  raiseIf (s.isNull sel) s (.np 0)
  let (d, s) ← s.fetchDesc sel
  raiseIf (!d.isCode) s (.ts (errSel sel))
  raiseIf (if d.conforming then decide ((rpl sel).toNat < d.dpl.toNat) else d.dpl != rpl sel) s
    (.ts (errSel sel))
  raiseIf (!d.present) s (.np (errSel sel))
  return s.setCode sel (rpl sel) d

/-- Load LDTR, CS, SS, DS and ES and check IP in the new task (R960): the checks of 20 R120, R121 and R124, whose
type and privilege errors are #TS. The load of SS does not set NOINTR (DESIGN CHOICE: notes/assumptions/32.md). -/
def State.loadTaskSegs (s : State) (t : TaskImage) : Res State := do
  let s ← s.loadTaskLdt t.ldt
  let s ← s.loadTaskCs t.cs
  let (d, s) ← s.checkStack t.ss s.sys.cpl (.np 0) (.gp (errSel t.ss)) (.ts (errSel t.ss))
  let s := s.setStack t.ss d
  let s ← s.loadDataOr .ds t.ds (.gp (errSel t.ds)) (.ts (errSel t.ds)) (.np (errSel t.ds))
  let s ← s.loadDataOr .es t.es (.gp (errSel t.es)) (.ts (errSel t.es)) (.np (errSel t.es))
  raiseIf (decide ((s.seg .cs).limit.toNat < s.ip.toNat)) s (.gp 0)
  return s

/-- A fault after the commit point is the new task's (92 D65). -/
def committed {α : Type} : Res α → Res α
  | .ok a => .ok a
  | .error r => .error { r with committed := true }

/-- The part of a task switch before its commit point's loads: save, busy bits, back link, TR, MSW.TS
(R960). -/
def State.commitTask (s : State) (nsel : Word) (nd : Desc) (k : SwitchKind) : State :=
  let u := s.saveTask
  let u := if k = .call then u else u.markBusy s.sys.tr.selector false
  let u := if k = .call then u.sysWrite16 (nd.base.setWidth 32) s.sys.tr.selector else u
  let u := if k = .iret then u else u.markBusy nsel true
  { u with sys := { u.sys with tr := nd.sysSeg nsel (nd.access ||| 2), msw := u.sys.msw ||| 0x0008 } }

/-- `TaskSwitch(nsel, nd, kind)` (R960). -/
def State.taskSwitch (s : State) (nsel : Word) (nd : Desc) (k : SwitchKind) : Res State := do
  raiseIf (decide (nd.limit.toNat < 43)) s (.ts (errSel nsel))
  let (t, u) := (s.commitTask nsel nd k).readTask
  committed ((u.enterTask k t).loadTaskSegs t)

/-- `TaskReturn()` (R962). -/
def State.taskReturn (s : State) : Res State := do
  let (b, s) := s.sysRead16 (s.sys.tr.base.setWidth 32)
  raiseIf (s.isNull b || b.getLsbD 2) s (.ts (errSel b))
  let (d, s) ← s.fetchDescOr b (.ts (errSel b))
  raiseIf (!d.isSystem 3) s (.ts (errSel b))
  raiseIf (!d.present) s (.np (errSel b))
  s.taskSwitch b d .iret

/-! ## Returning from an interrupt (60 R950, R951; 45 R684) -/

/-- The checks of a return CS (45 R684). -/
def State.checkReturnCs (s : State) (sel off : Word) : Res (Desc × State) := do
  raiseIf (decide ((rpl sel).toNat < s.sys.cpl.toNat)) s (.gp (errSel sel))
  raiseIf (s.isNull sel) s (.gp 0)
  let (d, s) ← s.fetchDesc sel
  raiseIf (!d.isCode) s (.gp (errSel sel))
  raiseIf (if d.conforming then decide ((rpl sel).toNat < d.dpl.toNat) else d.dpl != rpl sel) s
    (.gp (errSel sel))
  raiseIf (!d.present) s (.np (errSel sel))
  raiseIf (decide (d.limit.toNat < off.toNat)) s (.gp 0)
  return (d, s)

/-- Null a data segment register whose segment the new CPL may not use (45 R684). -/
def State.dropSeg (s : State) (r : SegReg) : State :=
  let c := s.seg r
  if !c.nullLoaded && !(accExec c.access && accBit2 c.access) && decide ((accDpl c.access).toNat < s.sys.cpl.toNat)
  then s.setSeg r (c.nulled 0) else s

/-- IRET in real mode (R950). -/
def State.iretReal (s : State) : Res State := do
  let (off, s) ← s.pop16
  let (sel, s) ← s.pop16
  let (f, s) ← s.pop16
  return (s.farJumpReal sel off).setPS f 0xFFFF

/-- The outer stack segment of a return, checked at the level returned to as 20 R124 checks an SS load (45 R684,
R951). DEDUCED (notes/assumptions/9.md): a null selector raises R124's #NP(0), not the #GP(selector) that R684
names for the other failures. -/
def State.checkReturnSs (s : State) (nss : Word) (level : BitVec 2) : Res (Desc × State) :=
  s.checkStack nss level (.np 0) (.gp (errSel nss)) (.gp (errSel nss))

/-- The end of an IRET to an outer level: PS, the outer stack, the data segments (R951). DESIGN CHOICE
(notes/assumptions/32.md): this load of SS does not set NOINTR. -/
def State.iretOuter (s : State) (off sel f : Word) (d : Desc) : Res State := do
  let (nsp, s) ← s.segRead16 .ss (s.regs.sp + 6)
  let (nss, s) ← s.segRead16 .ss (s.regs.sp + 8)
  let (sd, s) ← s.checkReturnSs nss (rpl sel)
  let s := ((s.setCode sel (rpl sel) d).jump off).setPS f 0xFFFF
  let s := (s.setStack nss sd).setReg .sp nsp
  return (s.dropSeg .ds).dropSeg .es

/-- IRET in protected mode when there is no task to return to (R951). -/
def State.iretCode (s : State) (off sel f : Word) : Res State := do
  let (d, s) ← s.checkReturnCs sel off
  if rpl sel = s.sys.cpl then
    return (((s.setCode sel (rpl sel) d).jump off).setPS f s.popMask).setReg .sp (s.regs.sp + 6)
  else s.iretOuter off sel f d

/-- IRET in protected mode (R951; 92 D35, D67). -/
def State.iretProtected (s : State) : Res State :=
  if s.cfg.iretNt == .current && s.nt then s.taskReturn
  else do
    let (off, s) ← s.segRead16 .ss s.regs.sp
    let (sel, s) ← s.segRead16 .ss (s.regs.sp + 2)
    let (f, s) ← s.segRead16 .ss (s.regs.sp + 4)
    if s.cfg.iretNt == .popped && f.getLsbD ntBit then (s.setReg .sp (s.regs.sp + 6)).taskReturn
    else s.iretCode off sel f

/-- RETURNING FROM AN INTERRUPT OR EXCEPTION (R950, R951). -/
def State.interruptReturn (s : State) : Res State :=
  if s.protectedMode then s.iretProtected else s.iretReal

end Sys2Proof.Machine
end

