-- ==== Sys2Proof/Machine/Operands.lean ====
section
/-! DEFINITION. The operand forms: effective addresses and their segments, the E operand's reads and
writes, and the shapes that many instructions share (30_encoding.md R218 to R227, 42 R400). -/

namespace Sys2Proof.Machine

/-! ## Effective addresses (30 R220, R221) -/

/-- The register part of an effective address (R220). -/
def AddrBase.value (b : AddrBase) (g : Regs) : Word :=
  match b with
  | .bxsi => g.bx + g.si
  | .bxdi => g.bx + g.di
  | .bpsi => g.bp + g.si
  | .bpdi => g.bp + g.di
  | .si => g.si
  | .di => g.di
  | .bp => g.bp
  | .bx => g.bx

/-- The default segment of an address base: SS where BP is used (R220). -/
def AddrBase.defaultSeg : AddrBase → SegReg
  | .bxsi => .ds
  | .bxdi => .ds
  | .bpsi => .ss
  | .bpdi => .ss
  | .si => .ds
  | .di => .ds
  | .bp => .ss
  | .bx => .ds

/-- The effective address of a memory operand (R220). -/
def State.ea (s : State) : MemRef → Word
  | .ind b => AddrBase.value b s.regs
  | .direct d => d
  | .disp8 b d => AddrBase.value b s.regs + sext16 d
  | .disp16 b d => AddrBase.value b s.regs + d

/-- The default segment of a memory operand (R220). -/
def memDefaultSeg : MemRef → SegReg
  | .ind b => AddrBase.defaultSeg b
  | .direct _ => .ds
  | .disp8 b _ => AddrBase.defaultSeg b
  | .disp16 b _ => AddrBase.defaultSeg b

/-- The override's segment if there is one, else the default given (R221; 92 D62). -/
def State.segOr (s : State) (r : SegReg) : SegReg := s.scratch.override.getD r

/-- The segment of a memory operand (R221). -/
def State.opSeg (s : State) (m : MemRef) : SegReg := s.segOr (memDefaultSeg m)

/-- Record the effective address (10 R50). DESIGN CHOICE (notes/assumptions/25.md): the operands in memory of ModRM
and moffs forms, LEA and ESC set EA; the offsets of XLAT, of the string elements and of the stack do not. -/
def State.noteEa (s : State) (off : Word) : State := { s with scratch := { s.scratch with ea := some off } }

/-- Record the effective address written to (10 R50). DESIGN CHOICE (notes/assumptions/25.md): R50 only names
`regEAWrite`; here it is the offset of the last ModRM or moffs memory operand written by the instruction. -/
def State.noteWrite (s : State) (off : Word) : State := { s with scratch := { s.scratch with eaWrite := some off } }

/-! ## The E operand (30 R219, R227) -/

/-- Read a byte E operand. -/
def State.readEb (s : State) : RM Reg8 → Res (Byte × State)
  | .reg r => .ok (s.reg8 r, s)
  | .mem m => (s.noteEa (s.ea m)).segRead8 (s.opSeg m) (s.ea m)

/-- Read a word E operand. -/
def State.readEw (s : State) : RM Reg16 → Res (Word × State)
  | .reg r => .ok (s.reg r, s)
  | .mem m => (s.noteEa (s.ea m)).segRead16 (s.opSeg m) (s.ea m)

/-- Write a byte E operand. -/
def State.writeEb (s : State) (e : RM Reg8) (v : Byte) : Res State :=
  match e with
  | .reg r => .ok (s.setReg8 r v)
  | .mem m => ((s.noteEa (s.ea m)).noteWrite (s.ea m)).segWrite8 (s.opSeg m) (s.ea m) v

/-- Write a word E operand. -/
def State.writeEw (s : State) (e : RM Reg16) (v : Word) : Res State :=
  match e with
  | .reg r => .ok (s.setReg r v)
  | .mem m => ((s.noteEa (s.ea m)).noteWrite (s.ea m)).segWrite16 (s.opSeg m) (s.ea m) v

/-- Read the two words of a far pointer or of BOUND's limits, at EA and EA + 2 (41 R325, 45 R672, R712). -/
def State.readPair (s : State) (m : MemRef) : Res ((Word × Word) × State) := do
  let (a, t) ← (s.noteEa (s.ea m)).segRead16 (s.opSeg m) (s.ea m)
  let (b, u) ← t.segRead16 (s.opSeg m) (s.ea m + 2)
  return ((a, b), u)

/-! ## The forms of the two-operand operations (42 R400) -/

/-- A two-operand operation: the result, and the state with the flags set. -/
abbrev BinOp (n : Nat) := BitVec n → BitVec n → State → BitVec n × State

/-- A one-operand operation: the result, and the state with the flags set. -/
abbrev UnOp (n : Nat) := BitVec n → State → BitVec n × State

/-- E is the destination, a byte value the source. -/
def State.binEb (s : State) (op : BinOp 8) (e : RM Reg8) (src : Byte) : Res State := do
  let (d, t) ← s.readEb e
  (op d src t).2.writeEb e (op d src t).1

/-- E is the destination, a word value the source. -/
def State.binEw (s : State) (op : BinOp 16) (e : RM Reg16) (src : Word) : Res State := do
  let (d, t) ← s.readEw e
  (op d src t).2.writeEw e (op d src t).1

/-- A byte register is the destination, E the source. -/
def State.binGb (s : State) (op : BinOp 8) (g : Reg8) (e : RM Reg8) : Res State := do
  let (v, t) ← s.readEb e
  return (op (s.reg8 g) v t).2.setReg8 g (op (s.reg8 g) v t).1

/-- A word register is the destination, E the source. -/
def State.binGw (s : State) (op : BinOp 16) (g : Reg16) (e : RM Reg16) : Res State := do
  let (v, t) ← s.readEw e
  return (op (s.reg g) v t).2.setReg g (op (s.reg g) v t).1

/-- A byte register is the destination, a value the source. -/
def State.binReg8 (s : State) (op : BinOp 8) (r : Reg8) (src : Byte) : Res State :=
  .ok ((op (s.reg8 r) src s).2.setReg8 r (op (s.reg8 r) src s).1)

/-- A word register is the destination, a value the source. -/
def State.binReg (s : State) (op : BinOp 16) (r : Reg16) (src : Word) : Res State :=
  .ok ((op (s.reg r) src s).2.setReg r (op (s.reg r) src s).1)

/-- Only the flags: E against a byte value. -/
def State.testEb (s : State) (op : BinOp 8) (e : RM Reg8) (src : Byte) : Res State := do
  let (d, t) ← s.readEb e
  return (op d src t).2

/-- Only the flags: E against a word value. -/
def State.testEw (s : State) (op : BinOp 16) (e : RM Reg16) (src : Word) : Res State := do
  let (d, t) ← s.readEw e
  return (op d src t).2

/-- Only the flags: a byte register against E. -/
def State.testGb (s : State) (op : BinOp 8) (g : Reg8) (e : RM Reg8) : Res State := do
  let (v, t) ← s.readEb e
  return (op (s.reg8 g) v t).2

/-- Only the flags: a word register against E. -/
def State.testGw (s : State) (op : BinOp 16) (g : Reg16) (e : RM Reg16) : Res State := do
  let (v, t) ← s.readEw e
  return (op (s.reg g) v t).2

/-- A one-operand operation on a byte E. -/
def State.unEb (s : State) (op : UnOp 8) (e : RM Reg8) : Res State := do
  let (d, t) ← s.readEb e
  (op d t).2.writeEb e (op d t).1

/-- A one-operand operation on a word E. -/
def State.unEw (s : State) (op : UnOp 16) (e : RM Reg16) : Res State := do
  let (d, t) ← s.readEw e
  (op d t).2.writeEw e (op d t).1

end Sys2Proof.Machine
end

