-- ==== Sys2Proof/Machine/Arithmetic.lean ====
section
/-! DEFINITION. The arithmetic instructions (42_arithmetic.md). -/

namespace Sys2Proof.Machine

/-- ADD (R401). -/
def addOp {n : Nat} (z : ResultSize) : BinOp n := fun d x s => (d + x, s.setTriple (addTriple z d x false))

/-- ADC (R402). -/
def adcOp {n : Nat} (z : ResultSize) : BinOp n := fun d x s =>
  (d + x + (if s.flags.cf then 1 else 0), s.setTriple (addTriple z d x s.flags.cf))

/-- SUB, and the flags of CMP (R403, R405). -/
def subOp {n : Nat} (z : ResultSize) : BinOp n := fun d x s => (d - x, s.setTriple (subTriple z d x false))

/-- SBB (R404). -/
def sbbOp {n : Nat} (z : ResultSize) : BinOp n := fun d x s =>
  (d - x - (if s.flags.cf then 1 else 0), s.setTriple (subTriple z d x s.flags.cf))

/-- INC (R406, R407). -/
def incOp {n : Nat} (z : ResultSize) : UnOp n := fun d s => (d + 1, s.setTriple (incTriple z d s.flags.cf))

/-- DEC (R408, R409). -/
def decOp {n : Nat} (z : ResultSize) : UnOp n := fun d s => (d - 1, s.setTriple (decTriple z d s.flags.cf))

/-- NEG (R410). -/
def negOp {n : Nat} (z : ResultSize) : UnOp n := fun d s => (0 - d, s.setTriple (subTriple z 0 d false))

/-- `DX:AX` (00 R8). -/
def State.dxax (s : State) : BitVec 32 := s.reg .dx ++ s.reg .ax

/-- `DX:AX <- p`. -/
def State.setDxax (s : State) (p : BitVec 32) : State :=
  (s.setReg .ax (p.extractLsb' 0 16)).setReg .dx (p.extractLsb' 16 16)

/-- MUL Eb (R411). -/
def State.mulByte (s : State) (e : RM Reg8) : Res State := do
  let (v, t) ← s.readEb e
  let p : Word := zext16 (s.reg8 .al) * zext16 v
  return (t.setReg .ax p).setMul .byte (hiByte p != 0)

/-- MUL Ew (R411). -/
def State.mulWord (s : State) (e : RM Reg16) : Res State := do
  let (v, t) ← s.readEw e
  let p : BitVec 32 := (s.reg .ax).setWidth 32 * v.setWidth 32
  return (t.setDxax p).setMul .word (p.extractLsb' 16 16 != 0)

/-- IMUL Eb (R412). -/
def State.imulByte (s : State) (e : RM Reg8) : Res State := do
  let (v, t) ← s.readEb e
  let p : Word := sext16 (s.reg8 .al) * sext16 v
  return (t.setReg .ax p).setMul .byte (p != sext16 (loByte p))

/-- IMUL Ew (R412). -/
def State.imulWord (s : State) (e : RM Reg16) : Res State := do
  let (v, t) ← s.readEw e
  let p : BitVec 32 := (s.reg .ax).signExtend 32 * v.signExtend 32
  return (t.setDxax p).setMul .word (p != (p.extractLsb' 0 16).signExtend 32)

/-- IMUL Gw,Ew,I (R413). -/
def State.imulImm (s : State) (g : Reg16) (e : RM Reg16) (imm : Word) : Res State := do
  let (v, t) ← s.readEw e
  let p : BitVec 32 := v.signExtend 32 * imm.signExtend 32
  return (t.setReg g (p.extractLsb' 0 16)).setMul .word (p != (p.extractLsb' 0 16).signExtend 32)

/-- DIV Eb (R414). -/
def State.divByte (s : State) (e : RM Reg8) : Res State := do
  let (v, t) ← s.readEb e
  raiseIf (v == 0) t .de
  raiseIf (decide (0xFF < (s.reg .ax).toNat / v.toNat)) t .de
  let q := (s.reg .ax).toNat / v.toNat
  let r := (s.reg .ax).toNat % v.toNat
  return (t.setReg .ax (mkWord (BitVec.ofNat 8 q) (BitVec.ofNat 8 r))).setDiv .byte

/-- DIV Ew (R414). -/
def State.divWord (s : State) (e : RM Reg16) : Res State := do
  let (v, t) ← s.readEw e
  raiseIf (v == 0) t .de
  raiseIf (decide (0xFFFF < s.dxax.toNat / v.toNat)) t .de
  let q := s.dxax.toNat / v.toNat
  let r := s.dxax.toNat % v.toNat
  return ((t.setReg .ax (BitVec.ofNat 16 q)).setReg .dx (BitVec.ofNat 16 r)).setDiv .word

/-- The least quotient IDIV accepts: C86 faults on the most negative one (R415, 30 R249). -/
def State.leastQuotient (s : State) (n : Nat) : Int :=
  match s.cls with
  | .c86 => -(2 ^ (n - 1) - 1)
  | .c186 => -(2 ^ (n - 1))
  | .c286 => -(2 ^ (n - 1))

/-- IDIV Eb (R415). -/
def State.idivByte (s : State) (e : RM Reg8) : Res State := do
  let (v, t) ← s.readEb e
  raiseIf (v == 0) t .de
  let q := (s.reg .ax).toInt.tdiv v.toInt
  let r := (s.reg .ax).toInt.tmod v.toInt
  raiseIf (decide (q < s.leastQuotient 8) || decide (127 < q)) t .de
  return (t.setReg .ax (mkWord (BitVec.ofInt 8 q) (BitVec.ofInt 8 r))).setDiv .byte

/-- IDIV Ew (R415). -/
def State.idivWord (s : State) (e : RM Reg16) : Res State := do
  let (v, t) ← s.readEw e
  raiseIf (v == 0) t .de
  let q := s.dxax.toInt.tdiv v.toInt
  let r := s.dxax.toInt.tmod v.toInt
  raiseIf (decide (q < s.leastQuotient 16) || decide (32767 < q)) t .de
  return ((t.setReg .ax (BitVec.ofInt 16 q)).setReg .dx (BitVec.ofInt 16 r)).setDiv .word

/-- Whether the low digit needs adjusting (R416 to R419). -/
def State.lowAdjust (s : State) : Bool := decide (9 < (s.reg8 .al &&& 0x0F).toNat) || s.flags.af

/-- Whether the high digit needs adjusting (R416, R417). -/
def State.highAdjust (s : State) : Bool := decide (0x99 < (s.reg8 .al).toNat) || s.flags.cf

/-- DAA (R416). -/
def State.decimalAdd (s : State) : State :=
  let a := s.reg8 .al
  let a := if s.lowAdjust then a + 6 else a
  let a := if s.highAdjust then a + 0x60 else a
  (s.setReg8 .al a).setDecimal a s.highAdjust s.lowAdjust

/-- DAS (R417). -/
def State.decimalSub (s : State) : State :=
  let a := s.reg8 .al
  let borrow := s.lowAdjust && (s.flags.cf || decide (a.toNat < 6))
  let a := if s.lowAdjust then a - 6 else a
  let a := if s.highAdjust then a - 0x60 else a
  (s.setReg8 .al a).setDecimal a (s.highAdjust || borrow) s.lowAdjust

/-- The part of AAA before AL is cut to its low digit (R418; 92 D63). -/
def State.asciiAddAx (s : State) : Word :=
  match s.cls with
  | .c86 => mkWord (s.reg8 .al + 6) (s.reg8 .ah + 1)
  | .c186 => mkWord (s.reg8 .al + 6) (s.reg8 .ah + 1)
  | .c286 => s.reg .ax + 0x106

/-- The part of AAS before AL is cut to its low digit (R419; 92 D63). -/
def State.asciiSubAx (s : State) : Word :=
  match s.cls with
  | .c86 => mkWord (s.reg8 .al - 6) (s.reg8 .ah - 1)
  | .c186 => mkWord (s.reg8 .al - 6) (s.reg8 .ah - 1)
  | .c286 => s.reg .ax - 6 - 0x100

/-- AAA (R418). -/
def State.asciiAdd (s : State) : State :=
  (s.setReg .ax ((if s.lowAdjust then s.asciiAddAx else s.reg .ax) &&& 0xFF0F)).setAscii s.lowAdjust

/-- AAS (R419). -/
def State.asciiSub (s : State) : State :=
  (s.setReg .ax ((if s.lowAdjust then s.asciiSubAx else s.reg .ax) &&& 0xFF0F)).setAscii s.lowAdjust

/-- AAM Ib (R420). -/
def State.adjustMul (s : State) (ib : Byte) : Res State := do
  raiseIf (ib == 0) s .de
  return (s.setReg .ax (mkWord (s.reg8 .al % ib) (s.reg8 .al / ib))).setAdjusted (s.reg8 .al % ib)

/-- AAD Ib (R421). -/
def State.adjustDiv (s : State) (ib : Byte) : State :=
  (s.setReg .ax (zext16 (s.reg8 .al + s.reg8 .ah * ib))).setAdjusted (s.reg8 .al + s.reg8 .ah * ib)

/-! ## The instructions -/

/-- `ADD_Eb_Gb` (42 R401). -/
def execAddEbGb (e : RM Reg8) (g : Reg8) (s : State) : Host.Outcome State Fault Refusal :=
  s.finish (s.binEb (addOp .byte) e (s.reg8 g))

/-- `ADD_Ew_Gw` (42 R401). -/
def execAddEwGw (e : RM Reg16) (g : Reg16) (s : State) : Host.Outcome State Fault Refusal :=
  s.finish (s.binEw (addOp .word) e (s.reg g))

/-- `ADD_Gb_Eb` (42 R401). -/
def execAddGbEb (e : RM Reg8) (g : Reg8) (s : State) : Host.Outcome State Fault Refusal :=
  s.finish (s.binGb (addOp .byte) g e)

/-- `ADD_Gw_Ew` (42 R401). -/
def execAddGwEw (e : RM Reg16) (g : Reg16) (s : State) : Host.Outcome State Fault Refusal :=
  s.finish (s.binGw (addOp .word) g e)

/-- `ADD_AL_Ib` (42 R401). -/
def execAddAlIb (ib : Byte) (s : State) : Host.Outcome State Fault Refusal :=
  s.finish (s.binReg8 (addOp .byte) .al ib)

/-- `ADD_AX_Iw` (42 R401). -/
def execAddAxIw (iw : Word) (s : State) : Host.Outcome State Fault Refusal :=
  s.finish (s.binReg (addOp .word) .ax iw)

/-- `ADD_Eb_Ib` (42 R401). -/
def execAddEbIb (e : RM Reg8) (ib : Byte) (s : State) : Host.Outcome State Fault Refusal :=
  s.finish (s.binEb (addOp .byte) e ib)

/-- `ADD_Ew_Iw` (42 R401). -/
def execAddEwIw (e : RM Reg16) (iw : Word) (s : State) : Host.Outcome State Fault Refusal :=
  s.finish (s.binEw (addOp .word) e iw)

/-- `ADD_Ew_Ibs` (42 R401). -/
def execAddEwIbs (e : RM Reg16) (ib : Byte) (s : State) : Host.Outcome State Fault Refusal :=
  s.finish (s.binEw (addOp .word) e (sext16 ib))

/-- `ADC_Eb_Gb` (42 R402). -/
def execAdcEbGb (e : RM Reg8) (g : Reg8) (s : State) : Host.Outcome State Fault Refusal :=
  s.finish (s.binEb (adcOp .byte) e (s.reg8 g))

/-- `ADC_Ew_Gw` (42 R402). -/
def execAdcEwGw (e : RM Reg16) (g : Reg16) (s : State) : Host.Outcome State Fault Refusal :=
  s.finish (s.binEw (adcOp .word) e (s.reg g))

/-- `ADC_Gb_Eb` (42 R402). -/
def execAdcGbEb (e : RM Reg8) (g : Reg8) (s : State) : Host.Outcome State Fault Refusal :=
  s.finish (s.binGb (adcOp .byte) g e)

/-- `ADC_Gw_Ew` (42 R402). -/
def execAdcGwEw (e : RM Reg16) (g : Reg16) (s : State) : Host.Outcome State Fault Refusal :=
  s.finish (s.binGw (adcOp .word) g e)

/-- `ADC_AL_Ib` (42 R402). -/
def execAdcAlIb (ib : Byte) (s : State) : Host.Outcome State Fault Refusal :=
  s.finish (s.binReg8 (adcOp .byte) .al ib)

/-- `ADC_AX_Iw` (42 R402). -/
def execAdcAxIw (iw : Word) (s : State) : Host.Outcome State Fault Refusal :=
  s.finish (s.binReg (adcOp .word) .ax iw)

/-- `ADC_Eb_Ib` (42 R402). -/
def execAdcEbIb (e : RM Reg8) (ib : Byte) (s : State) : Host.Outcome State Fault Refusal :=
  s.finish (s.binEb (adcOp .byte) e ib)

/-- `ADC_Ew_Iw` (42 R402). -/
def execAdcEwIw (e : RM Reg16) (iw : Word) (s : State) : Host.Outcome State Fault Refusal :=
  s.finish (s.binEw (adcOp .word) e iw)

/-- `ADC_Ew_Ibs` (42 R402). -/
def execAdcEwIbs (e : RM Reg16) (ib : Byte) (s : State) : Host.Outcome State Fault Refusal :=
  s.finish (s.binEw (adcOp .word) e (sext16 ib))

/-- `SBB_Eb_Gb` (42 R404). -/
def execSbbEbGb (e : RM Reg8) (g : Reg8) (s : State) : Host.Outcome State Fault Refusal :=
  s.finish (s.binEb (sbbOp .byte) e (s.reg8 g))

/-- `SBB_Ew_Gw` (42 R404). -/
def execSbbEwGw (e : RM Reg16) (g : Reg16) (s : State) : Host.Outcome State Fault Refusal :=
  s.finish (s.binEw (sbbOp .word) e (s.reg g))

/-- `SBB_Gb_Eb` (42 R404). -/
def execSbbGbEb (e : RM Reg8) (g : Reg8) (s : State) : Host.Outcome State Fault Refusal :=
  s.finish (s.binGb (sbbOp .byte) g e)

/-- `SBB_Gw_Ew` (42 R404). -/
def execSbbGwEw (e : RM Reg16) (g : Reg16) (s : State) : Host.Outcome State Fault Refusal :=
  s.finish (s.binGw (sbbOp .word) g e)

/-- `SBB_AL_Ib` (42 R404). -/
def execSbbAlIb (ib : Byte) (s : State) : Host.Outcome State Fault Refusal :=
  s.finish (s.binReg8 (sbbOp .byte) .al ib)

/-- `SBB_AX_Iw` (42 R404). -/
def execSbbAxIw (iw : Word) (s : State) : Host.Outcome State Fault Refusal :=
  s.finish (s.binReg (sbbOp .word) .ax iw)

/-- `SBB_Eb_Ib` (42 R404). -/
def execSbbEbIb (e : RM Reg8) (ib : Byte) (s : State) : Host.Outcome State Fault Refusal :=
  s.finish (s.binEb (sbbOp .byte) e ib)

/-- `SBB_Ew_Iw` (42 R404). -/
def execSbbEwIw (e : RM Reg16) (iw : Word) (s : State) : Host.Outcome State Fault Refusal :=
  s.finish (s.binEw (sbbOp .word) e iw)

/-- `SBB_Ew_Ibs` (42 R404). -/
def execSbbEwIbs (e : RM Reg16) (ib : Byte) (s : State) : Host.Outcome State Fault Refusal :=
  s.finish (s.binEw (sbbOp .word) e (sext16 ib))

/-- `SUB_Eb_Gb` (42 R403). -/
def execSubEbGb (e : RM Reg8) (g : Reg8) (s : State) : Host.Outcome State Fault Refusal :=
  s.finish (s.binEb (subOp .byte) e (s.reg8 g))

/-- `SUB_Ew_Gw` (42 R403). -/
def execSubEwGw (e : RM Reg16) (g : Reg16) (s : State) : Host.Outcome State Fault Refusal :=
  s.finish (s.binEw (subOp .word) e (s.reg g))

/-- `SUB_Gb_Eb` (42 R403). -/
def execSubGbEb (e : RM Reg8) (g : Reg8) (s : State) : Host.Outcome State Fault Refusal :=
  s.finish (s.binGb (subOp .byte) g e)

/-- `SUB_Gw_Ew` (42 R403). -/
def execSubGwEw (e : RM Reg16) (g : Reg16) (s : State) : Host.Outcome State Fault Refusal :=
  s.finish (s.binGw (subOp .word) g e)

/-- `SUB_AL_Ib` (42 R403). -/
def execSubAlIb (ib : Byte) (s : State) : Host.Outcome State Fault Refusal :=
  s.finish (s.binReg8 (subOp .byte) .al ib)

/-- `SUB_AX_Iw` (42 R403). -/
def execSubAxIw (iw : Word) (s : State) : Host.Outcome State Fault Refusal :=
  s.finish (s.binReg (subOp .word) .ax iw)

/-- `SUB_Eb_Ib` (42 R403). -/
def execSubEbIb (e : RM Reg8) (ib : Byte) (s : State) : Host.Outcome State Fault Refusal :=
  s.finish (s.binEb (subOp .byte) e ib)

/-- `SUB_Ew_Iw` (42 R403). -/
def execSubEwIw (e : RM Reg16) (iw : Word) (s : State) : Host.Outcome State Fault Refusal :=
  s.finish (s.binEw (subOp .word) e iw)

/-- `SUB_Ew_Ibs` (42 R403). -/
def execSubEwIbs (e : RM Reg16) (ib : Byte) (s : State) : Host.Outcome State Fault Refusal :=
  s.finish (s.binEw (subOp .word) e (sext16 ib))

/-- `CMP_Eb_Gb` (42 R405). -/
def execCmpEbGb (e : RM Reg8) (g : Reg8) (s : State) : Host.Outcome State Fault Refusal :=
  s.finish (s.testEb (subOp .byte) e (s.reg8 g))

/-- `CMP_Ew_Gw` (42 R405). -/
def execCmpEwGw (e : RM Reg16) (g : Reg16) (s : State) : Host.Outcome State Fault Refusal :=
  s.finish (s.testEw (subOp .word) e (s.reg g))

/-- `CMP_Gb_Eb` (42 R405). -/
def execCmpGbEb (e : RM Reg8) (g : Reg8) (s : State) : Host.Outcome State Fault Refusal :=
  s.finish (s.testGb (subOp .byte) g e)

/-- `CMP_Gw_Ew` (42 R405). -/
def execCmpGwEw (e : RM Reg16) (g : Reg16) (s : State) : Host.Outcome State Fault Refusal :=
  s.finish (s.testGw (subOp .word) g e)

/-- `CMP_AL_Ib` (42 R405). -/
def execCmpAlIb (ib : Byte) (s : State) : Host.Outcome State Fault Refusal :=
  s.finish (s.testEb (subOp .byte) (.reg .al) ib)

/-- `CMP_AX_Iw` (42 R405). -/
def execCmpAxIw (iw : Word) (s : State) : Host.Outcome State Fault Refusal :=
  s.finish (s.testEw (subOp .word) (.reg .ax) iw)

/-- `CMP_Eb_Ib` (42 R405). -/
def execCmpEbIb (e : RM Reg8) (ib : Byte) (s : State) : Host.Outcome State Fault Refusal :=
  s.finish (s.testEb (subOp .byte) e ib)

/-- `CMP_Ew_Iw` (42 R405). -/
def execCmpEwIw (e : RM Reg16) (iw : Word) (s : State) : Host.Outcome State Fault Refusal :=
  s.finish (s.testEw (subOp .word) e iw)

/-- `CMP_Ew_Ibs` (42 R405). -/
def execCmpEwIbs (e : RM Reg16) (ib : Byte) (s : State) : Host.Outcome State Fault Refusal :=
  s.finish (s.testEw (subOp .word) e (sext16 ib))

/-- `INC_r16` (42 R407). -/
def execIncR16 (r : Reg16) (s : State) : Host.Outcome State Fault Refusal :=
  s.finish (s.unEw (incOp .word) (.reg r))

/-- `DEC_r16` (42 R409). -/
def execDecR16 (r : Reg16) (s : State) : Host.Outcome State Fault Refusal :=
  s.finish (s.unEw (decOp .word) (.reg r))

/-- `IMUL_Gw_Ew_Iw` (42 R413). -/
def execImulGwEwIw (e : RM Reg16) (g : Reg16) (iw : Word) (s : State) : Host.Outcome State Fault Refusal :=
  s.finish (s.imulImm g e iw)

/-- `IMUL_Gw_Ew_Ibs` (42 R413). -/
def execImulGwEwIbs (e : RM Reg16) (g : Reg16) (ib : Byte) (s : State) : Host.Outcome State Fault Refusal :=
  s.finish (s.imulImm g e (sext16 ib))

/-- `AAM_Ib` (42 R420). -/
def execAamIb (ib : Byte) (s : State) : Host.Outcome State Fault Refusal :=
  s.finish (s.adjustMul ib)

/-- `AAD_Ib` (42 R421). -/
def execAadIb (ib : Byte) (s : State) : Host.Outcome State Fault Refusal :=
  s.finish (.ok (s.adjustDiv ib))

/-- `NEG_Eb` (42 R410). -/
def execNegEb (e : RM Reg8) (s : State) : Host.Outcome State Fault Refusal :=
  s.finish (s.unEb (negOp .byte) e)

/-- `MUL_Eb` (42 R411). -/
def execMulEb (e : RM Reg8) (s : State) : Host.Outcome State Fault Refusal :=
  s.finish (s.mulByte e)

/-- `IMUL_Eb` (42 R412). -/
def execImulEb (e : RM Reg8) (s : State) : Host.Outcome State Fault Refusal :=
  s.finish (s.imulByte e)

/-- `DIV_Eb` (42 R414). -/
def execDivEb (e : RM Reg8) (s : State) : Host.Outcome State Fault Refusal :=
  s.finish (s.divByte e)

/-- `IDIV_Eb` (42 R415). -/
def execIdivEb (e : RM Reg8) (s : State) : Host.Outcome State Fault Refusal :=
  s.finish (s.idivByte e)

/-- `NEG_Ew` (42 R410). -/
def execNegEw (e : RM Reg16) (s : State) : Host.Outcome State Fault Refusal :=
  s.finish (s.unEw (negOp .word) e)

/-- `MUL_Ew` (42 R411). -/
def execMulEw (e : RM Reg16) (s : State) : Host.Outcome State Fault Refusal :=
  s.finish (s.mulWord e)

/-- `IMUL_Ew` (42 R412). -/
def execImulEw (e : RM Reg16) (s : State) : Host.Outcome State Fault Refusal :=
  s.finish (s.imulWord e)

/-- `DIV_Ew` (42 R414). -/
def execDivEw (e : RM Reg16) (s : State) : Host.Outcome State Fault Refusal :=
  s.finish (s.divWord e)

/-- `IDIV_Ew` (42 R415). -/
def execIdivEw (e : RM Reg16) (s : State) : Host.Outcome State Fault Refusal :=
  s.finish (s.idivWord e)

/-- `INC_Eb` (42 R406). -/
def execIncEb (e : RM Reg8) (s : State) : Host.Outcome State Fault Refusal :=
  s.finish (s.unEb (incOp .byte) e)

/-- `DEC_Eb` (42 R408). -/
def execDecEb (e : RM Reg8) (s : State) : Host.Outcome State Fault Refusal :=
  s.finish (s.unEb (decOp .byte) e)

/-- `INC_Ew` (42 R406). -/
def execIncEw (e : RM Reg16) (s : State) : Host.Outcome State Fault Refusal :=
  s.finish (s.unEw (incOp .word) e)

/-- `DEC_Ew` (42 R408). -/
def execDecEw (e : RM Reg16) (s : State) : Host.Outcome State Fault Refusal :=
  s.finish (s.unEw (decOp .word) e)

/-- `DAA` (42 R416). -/
def execDaa (s : State) : Host.Outcome State Fault Refusal :=
  s.finish (.ok s.decimalAdd)

/-- `DAS` (42 R417). -/
def execDas (s : State) : Host.Outcome State Fault Refusal :=
  s.finish (.ok s.decimalSub)

/-- `AAA` (42 R418). -/
def execAaa (s : State) : Host.Outcome State Fault Refusal :=
  s.finish (.ok s.asciiAdd)

/-- `AAS` (42 R419). -/
def execAas (s : State) : Host.Outcome State Fault Refusal :=
  s.finish (.ok s.asciiSub)

/-- `SALC` (42 R422). -/
def execSalc (s : State) : Host.Outcome State Fault Refusal :=
  s.finish (.ok (s.setReg8 .al (if s.flags.cf then 0xFF else 0)))

end Sys2Proof.Machine
end

