-- ==== Sys2Proof/Machine/HostApi.lean ====
section
/-! DEFINITION. The host's side of the interface: the calls it makes between steps, the callbacks, and
the save and restore payload (60_exceptions.md R980 to R984, 10_state.md R57, R59). -/

namespace Sys2Proof.Machine

/-! ## Calls (R980 to R984) -/

/-- Change the bookkeeping of 10 R58. -/
def State.setCycles (s : State) (c : Cycles) : State := { s with host := { s.host with cycles := c } }

/-- `addIntNotify(vector, observer, fn)` (R981). -/
def State.addIntNotify (s : State) (n : IntNotify) : State :=
  { s with host := { s.host with intNotify := n :: s.host.intNotify } }

/-- `addIntReturn(linearAddr, fn)` (R981). -/
def State.addIntReturn (s : State) (n : ReturnNotify) : State :=
  { s with host := { s.host with returnNotify := n :: s.host.returnNotify } }

/-- `updateINTR(raise)` (R984). -/
def State.updateIntr (s : State) (raised : Bool) : State := { s with intFlags := { s.intFlags with intr := raised } }

/-- The `updateINTR` calls of the timers, in order (R907). -/
def State.updateIntrs : List Bool → State → State
  | [], s => s
  | b :: bs, s => State.updateIntrs bs (s.updateIntr b)

/-- `updateAllTimers()` (R907): the host's next queued answer. DESIGN CHOICE (notes/assumptions/8.md): no
queued answer calls no `updateINTR`. -/
def State.updateAllTimers (s : State) : State :=
  match s.host.timerAnswers with
  | [] => s.note .updateAllTimers
  | a :: rest =>
    State.updateIntrs a
      (({ s with host := { s.host with timerAnswers := rest } } : State).note .updateAllTimers)

/-- Entry of `stepCPU(nMinCycles)` (R980): the budget is set, and the timers are updated once. -/
def State.enterStepCpu (s : State) (n : Nat) : State :=
  ({ s with host := { s.host with
      singleStep := n == 0
      cycles := { s.host.cycles with remaining := n, burstCycles := n } } } : State).updateAllTimers

/-- What `stepCPU` returns: `nBurstCycles − remaining` (R980; 92 D68). -/
def State.cyclesExecuted (s : State) : Int := s.host.cycles.burstCycles - s.host.cycles.remaining

/-- An unfinished repetition that host code sets. DESIGN CHOICE (notes/assumptions/8.md): the queue has no bytes
for it. -/
def State.setRepeat (s : State) (p : Option RepeatPending) : State :=
  { s with rep := p.map fun q => { q with ahead := .emptyAt s.cfg.model q.nextIp } }

/-- One host call, or one change of state by host code (R981, R984). The address of `writeByte` is not masked (DESIGN
CHOICE: notes/assumptions/31.md). -/
def State.applyCall (s : State) : HostCall → State
  | .updateIntr raised => s.updateIntr raised
  | .delayIntr => { s with nointr := true }
  | .requestDma => { s with intFlags := { s.intFlags with dma := true } }
  | .setA20 on => ({ s with a20 := on } : State).flushQueue
  | .installBlock k kind => { s with blocks := { first := k, count := 1, kind := kind } :: s.blocks }
  | .setError => { s with status := .error }
  | .haltCpu => s.setCycles { s.host.cycles with remaining := 0 }
  | .enterStepCpu n => s.enterStepCpu n
  | .addIntNotify n => s.addIntNotify n
  | .addIntReturn n => s.addIntReturn n
  | .reset => s.resetCpu
  | .writeByte a v => s.busWrite8 a v
  | .setByte a v => { s with mem := Memory.write s.mem a v }
  | .setReg r v => s.setReg r v
  | .setIp v => s.jump v
  | .setPs v => s.setPS v 0xFFFF
  | .setTriple t => s.setTriple t
  | .setIntFlags f => { s with intFlags := f }
  | .setNointr on => { s with nointr := on }
  | .setRepeat p => s.setRepeat p
  | .setStatus r => { s with status := r }
  | .setScratch c => { s with scratch := c }
  | .setCycles c => s.setCycles c
  | .setIntNotify l => { s with host := { s.host with intNotify := l } }
  | .setReturnNotify l => { s with host := { s.host with returnNotify := l } }
  | .flushQueue => s.flushQueue
  | .setSeg r c => (s.setSeg r c).flushQueue
  | .setMsw v => { s with sys := { s.sys with msw := v ||| 0xFFF0 } }
  | .setGdtr t => { s with sys := { s.sys with gdtr := t } }
  | .setIdtr t => { s with sys := { s.sys with idtr := t } }
  | .setLdtr t => { s with sys := { s.sys with ldtr := t } }
  | .setTr t => { s with sys := { s.sys with tr := t } }
  | .setCpl v => { s with sys := { s.sys with cpl := v } }

/-- What host code does, in order. -/
def State.applyCalls : List HostCall → State → State
  | [], s => s
  | c :: cs, s => State.applyCalls cs (s.applyCall c)

/-- A callback of the return registry runs as host code (R981): the host's next queued list of what it does.
DESIGN CHOICE (notes/assumptions/8.md): no queued list changes nothing. -/
def State.runCallback (s : State) (n : ReturnNotify) : State :=
  match s.host.callbacks with
  | [] => s.note (.returnCallback n.callback)
  | cs :: rest =>
    State.applyCalls cs
      (({ s with host := { s.host with callbacks := rest } } : State).note (.returnCallback n.callback))

/-- `ReturnNotify()` (R981; 92 D69): the first entry whose address is CS.base + IP, before masking, leaves
the registry and its callback runs. DESIGN CHOICE (notes/assumptions/26.md): of several entries for one
address only the newest fires at a boundary, the others stay registered, and the nesting depth is never
read. -/
def State.returnNotify (s : State) : State :=
  match s.host.returnNotify.find? (fun n => n.linear == (s.seg .cs).linear s.ip) with
  | none => s
  | some n => ({ s with host := { s.host with returnNotify := s.host.returnNotify.erase n } } : State).runCallback n

/-! ## The oracles' answers -/

/-- `getIRRVector()` (R904): the host's next queued answer. DESIGN CHOICE (notes/assumptions/8.md): no
queued answer is −1 with no state change. -/
def State.pic (s : State) : PicAnswer × State :=
  match s.host.picAnswers with
  | [] => (.noInterrupt, s)
  | a :: rest => (a, { s with host := { s.host with picAnswers := rest } })

/-- The bytes a DMA tick writes (R906). DESIGN CHOICE (notes/assumptions/31.md): their addresses are physical
and are not masked by addrMask, which 20 R102 applies to the CPU's accesses. -/
def State.dmaWrites : List Host.Cell → State → State
  | [], s => s
  | (a, v) :: ws, s => State.dmaWrites ws (s.busWrite8 a v)

/-- `checkDMA()` (R906): the host's next queued tick. DESIGN CHOICE (notes/assumptions/8.md): no queued tick
is one that writes nothing and goes on. -/
def State.dma (s : State) : Bool × State :=
  match s.host.dmaTicks with
  | [] => (true, s)
  | t :: rest => (t.inProgress, State.dmaWrites t.writes { s with host := { s.host with dmaTicks := rest } })

/-- `INT_INTERCEPT` for a vector (45 R700; 92 D36): asked only if the vector has a notifier. DESIGN CHOICE
(notes/assumptions/8.md): no queued answer is `proceed`. -/
def State.intercept (s : State) (n : Byte) : InterceptAnswer × State :=
  if s.host.intNotify.any (fun e => e.vector == n) then
    match s.host.intercepts with
    | [] => (.proceed, s)
    | a :: rest => (a, { s with host := { s.host with intercepts := rest } })
  else (.proceed, s)

/-! ## Save and restore (10 R59) -/

/-- `prot_state` (R59). -/
structure ProtState where
  msw  : Word
  gdtr : TableReg
  idtr : TableReg
  ldtr : SysSegReg
  tss  : SysSegReg
deriving DecidableEq, Repr

/-- The payload (R59), its two segment names as text. -/
structure Payload where
  regs         : Regs
  ip           : Word
  segs         : SegRegs
  ps           : Word
  prot         : Option ProtState
  segData      : String
  segStack     : String
  opFlags      : Bool
  override     : Option SegReg
  rep          : Option RepKind
  lock         : Bool
  intFlags     : IntFlags
  regEA        : Option Word
  regEAWrite   : Option Word
  burstDivisor : Nat
  totalCycles  : Nat
  multiplier   : Nat
  memory       : List Host.Cell
deriving DecidableEq, Repr

/-- The name of a segment register in a payload. -/
def segName : SegReg → String
  | .es => "ES"
  | .cs => "CS"
  | .ss => "SS"
  | .ds => "DS"

/-- The segment register a name stands for. -/
def segOfName (n : String) : Option SegReg :=
  if n = "ES" then some .es else if n = "CS" then some .cs
  else if n = "SS" then some .ss else if n = "DS" then some .ds else none

/-- Save (R59). -/
def State.save (s : State) : Payload where
  regs         := s.regs
  ip           := s.ip
  segs         := s.segs
  ps           := s.getPS
  prot         :=
    if s.cls == .c286 then
      some { msw := s.sys.msw, gdtr := s.sys.gdtr, idtr := s.sys.idtr, ldtr := s.sys.ldtr, tss := s.sys.tr }
    else none
  segData      := segName (s.segOr .ds)
  segStack     := segName .ss
  opFlags      := s.nointr
  override     := s.scratch.override
  rep          := s.scratch.rep
  lock         := s.scratch.lock
  intFlags     := s.intFlags
  regEA        := s.scratch.ea
  regEAWrite   := s.scratch.eaWrite
  burstDivisor := s.host.cycles.burstDivisor
  totalCycles  := s.host.cycles.totalCycles
  multiplier   := s.host.cycles.multiplier
  memory       := s.mem

/-- The system registers a payload restores; CPL is implied by CS (R59). -/
def Payload.sys (p : Payload) (old : SysRegs) : SysRegs :=
  match p.prot with
  | none => old
  | some q =>
    { msw := q.msw, gdtr := q.gdtr, idtr := q.idtr, ldtr := q.ldtr, tr := q.tss
      cpl := if q.msw.getLsbD 0 then rpl p.segs.cs.selector else 0 }

/-- Restore (R59; 92 D53): a payload that names an unknown segment is rejected; the record is rebuilt
from PS and the queue is flushed. -/
def State.restore (s : State) (p : Payload) : Option State :=
  match segOfName p.segData, segOfName p.segStack with
  | some _, some _ =>
    some
      (({ s with
          regs := p.regs
          ip := p.ip
          segs := p.segs
          sys := p.sys s.sys
          nointr := p.opFlags
          scratch := { Scratch.atBoundary p.ip with
            override := p.override, rep := p.rep, lock := p.lock, ea := p.regEA, eaWrite := p.regEAWrite }
          rep := none
          handlerEntry := false
          intFlags := p.intFlags
          mem := p.memory
          host := { s.host with cycles := { s.host.cycles with
            burstDivisor := p.burstDivisor, totalCycles := p.totalCycles, multiplier := p.multiplier } } } :
          State).setPS p.ps 0xFFFF).flushQueue
  | _, _ => none

end Sys2Proof.Machine
end

