-- ==== Sys2Proof/Machine/ControlTransfer.lean ====
section
/-! DEFINITION. The control transfer instructions (45_control_transfer.md). -/

namespace Sys2Proof.Machine

/-- A short jump taken on a condition (R650, R693). -/
def State.branchIf (s : State) (c : Bool) (ib : Byte) : Res State :=
  if c then s.nearJump (s.ip + sext16 ib) else .ok s

/-- LOOP, LOOPZ and LOOPNZ (R690 to R692). -/
def State.loopIf (s : State) (c : Bool) (ib : Byte) : Res State :=
  (s.setReg .cx (s.reg .cx - 1)).branchIf (s.reg .cx - 1 != 0 && c) ib

/-- CALL near: CS.limit is checked before the push (R673, R674). -/
def State.callNear (s : State) (target : Word) : Res State := do
  raiseIf (s.protectedMode && decide ((s.seg .cs).limit.toNat < target.toNat)) s (.gp 0)
  let t ← s.push16 s.ip
  return t.jump target

/-- CALL Ew (R674). -/
def State.callOperand (s : State) (e : RM Reg16) : Res State := do
  let (v, t) ← s.readEw e
  t.callNear v

/-- JMP Ew (R669). -/
def State.jmpOperand (s : State) (e : RM Reg16) : Res State := do
  let (v, t) ← s.readEw e
  t.nearJump v

/-- RET near, and RET Iw (R680, R681). -/
def State.retNear (s : State) (k : Word) : Res State := do
  let (v, t) ← s.pop16
  let u ← t.nearJump v
  return u.setReg .sp (u.regs.sp + k)

/-! ### Far transfers (R671 to R678) -/

/-- The return address of a far CALL, CS first; nothing for a JMP (R671). -/
def State.pushReturn (s : State) (call : Bool) : Res State :=
  if call then State.pushAll [(s.seg .cs).selector, s.ip] s else .ok s

/-- A far transfer to a code segment (R671). -/
def State.farCode (s : State) (call : Bool) (sel off : Word) (d : Desc) : Res State := do
  raiseIf (d.conforming && decide (s.sys.cpl.toNat < d.dpl.toNat)) s (.gp (errSel sel))
  raiseIf (!d.conforming && (decide (s.sys.cpl.toNat < (rpl sel).toNat) || d.dpl != s.sys.cpl)) s
    (.gp (errSel sel))
  raiseIf (!d.present) s (.np (errSel sel))
  raiseIf (decide (d.limit.toNat < off.toNat)) s (.gp 0)
  let t ← s.pushReturn call
  return (t.setCode sel s.sys.cpl d).jump off

/-- A fault on the new stack of a call gate (R677). -/
def onNewStack {α : Type} (nss : Word) : Res α → Res α
  | .ok a => .ok a
  | .error r => .error { r with exc := .ss (errSel nss) }

/-- Read a word at an offset of a stack segment that SS no longer holds (R677: "copied from the old stack"). -/
def State.readOldStack (s : State) (old : SegCache) (off : Word) : Res (Word × State) := do
  let (v, t) ← (s.setSeg .ss old).segRead16 .ss off
  return (v, t.setSeg .ss (s.seg .ss))

/-- The parameters a call gate copies from `osp` of the old stack to the new one, the one at the highest address first
(R677). Each is pushed as it is read, not all read before the first push (DESIGN CHOICE: R677 orders the pushes only, and
70 R1017 has source operands read before any write; seen where the two stacks overlap: notes/assumptions/36.md). -/
def State.gateParams (old : SegCache) (osp nss : Word) : Nat → State → Res State
  | 0, s => .ok s
  | k + 1, s => do
    let (v, t) ← s.readOldStack old (osp + BitVec.ofNat 16 (2 * k))
    let u ← onNewStack nss (t.push16 v)
    State.gateParams old osp nss k u

/-- The inter-level call through a gate (R677). -/
def State.gateInner (s : State) (g t : Desc) : Res State := do
  let ((nss, nsp, d), u) ← s.innerCheck t.dpl
  let v ← onNewStack nss (State.pushAll [(s.seg .ss).selector, s.regs.sp] (u.enterStack nss nsp d t.dpl))
  let v ← State.gateParams (s.seg .ss) s.regs.sp nss g.count v
  let v ← onNewStack nss (State.pushAll [(s.seg .cs).selector, s.ip] v)
  return (v.setCode g.mid t.dpl t).jump g.lo

/-- `CallGate(kind, gsel, g)` (R677). -/
def State.callGate (s : State) (call : Bool) (gsel : Word) (g : Desc) : Res State := do
  raiseIf (decide (g.dpl.toNat < s.effPl gsel)) s (.gp (errSel gsel))
  raiseIf (!g.present) s (.np (errSel gsel))
  let (t, s) ← s.gateTarget g
  raiseIf (!call && !t.conforming && t.dpl != s.sys.cpl) s (.gp (errSel g.mid))
  if call && !t.conforming && decide (t.dpl.toNat < s.sys.cpl.toNat) then s.gateInner g t
  else do
    let u ← s.pushReturn call
    return (u.setCode g.mid s.sys.cpl t).jump g.lo

/-- The kind of task switch a far JMP or CALL makes (R678). -/
def switchKind (call : Bool) : SwitchKind := if call then .call else .jmp

/-- `TaskTransfer` through a task gate (R678). -/
def State.taskGate (s : State) (call : Bool) (sel : Word) (g : Desc) : Res State := do
  raiseIf (decide (g.dpl.toNat < s.effPl sel)) s (.gp (errSel sel))
  raiseIf (!g.present) s (.np (errSel sel))
  raiseIf (s.isNull g.mid || g.mid.getLsbD 2) s (.gp (errSel g.mid))
  let (d, s) ← s.fetchDesc g.mid
  raiseIf (!d.isSystem 1) s (.gp (errSel g.mid))
  raiseIf (!d.present) s (.np (errSel g.mid))
  s.taskSwitch g.mid d (switchKind call)

/-- `TaskTransfer` to a TSS (R678). DEDUCED (notes/assumptions/16.md): a selector of the LDT is refused as
R128 does. -/
def State.taskDirect (s : State) (call : Bool) (sel : Word) (d : Desc) : Res State := do
  raiseIf (decide (d.dpl.toNat < s.effPl sel) || sel.getLsbD 2) s (.gp (errSel sel))
  raiseIf (!d.present) s (.np (errSel sel))
  s.taskSwitch sel d (switchKind call)

/-- `FarTransfer` in protected mode (R671). -/
def State.farProtected (s : State) (call : Bool) (sel off : Word) : Res State := do
  raiseIf (s.isNull sel) s (.gp 0)
  let (d, s) ← s.fetchDesc sel
  if d.isCode then s.farCode call sel off d
  else if d.isSystem 4 then s.callGate call sel d
  else if d.isSystem 5 then s.taskGate call sel d
  else if d.isSystem 1 then s.taskDirect call sel d
  else raise s (.gp (errSel sel))

/-- `FarTransfer(kind, sel, off)` (R671). -/
def State.farTransfer (s : State) (call : Bool) (sel off : Word) : Res State :=
  if s.protectedMode then s.farProtected call sel off
  else do
    let t ← s.pushReturn call
    return t.farJumpReal sel off

/-- JMP Mp and CALL Mp (R672, R676). -/
def State.farOperand (s : State) (call : Bool) (m : MemRef) : Res State := do
  let ((off, sel), t) ← s.readPair m
  t.farTransfer call sel off

/-- The end of a far return to an outer level (R684). DESIGN CHOICE (notes/assumptions/32.md): its load of SS does not
set NOINTR. -/
def State.farReturnOuter (s : State) (k off sel : Word) (d : Desc) : Res State := do
  let (nsp, s) ← s.segRead16 .ss (s.regs.sp + 4 + k)
  let (nss, s) ← s.segRead16 .ss (s.regs.sp + 6 + k)
  let (sd, s) ← s.checkReturnSs nss (rpl sel)
  let s := (s.setCode sel (rpl sel) d).jump off
  let s := (s.setStack nss sd).setReg .sp (nsp + k)
  return (s.dropSeg .ds).dropSeg .es

/-- `FarReturn(k)` in protected mode (R684). -/
def State.farReturnProtected (s : State) (k : Word) : Res State := do
  let (off, s) ← s.segRead16 .ss s.regs.sp
  let (sel, s) ← s.segRead16 .ss (s.regs.sp + 2)
  let (d, s) ← s.checkReturnCs sel off
  if rpl sel = s.sys.cpl then
    return ((s.setCode sel (rpl sel) d).jump off).setReg .sp (s.regs.sp + 4 + k)
  else s.farReturnOuter k off sel d

/-- `FarReturn(k)` (R684). -/
def State.farReturn (s : State) (k : Word) : Res State :=
  if s.protectedMode then s.farReturnProtected k
  else do
    let (off, s) ← s.pop16
    let (sel, s) ← s.pop16
    return (s.farJumpReal sel off).setReg .sp (s.regs.sp + k)

/-! ### Interrupt instructions, frames, bounds (R700 to R712) -/

/-- A software interrupt: the saved IP is the next instruction's (R700 to R702). -/
def State.softwareInt (s : State) (n : Byte) : Res State := s.deliver n true s.ip none

/-- INT Ib, with the host's `INT_INTERCEPT` (R700). -/
def State.intInstr (s : State) (n : Byte) : Res State :=
  match s.intercept n with
  | (.proceed, t) => t.softwareInt n
  | (.suppress calls, t) => .ok (State.applyCalls calls t)

/-- The frame pointers ENTER copies (R710). -/
def State.enterCopy : Nat → State → Res State
  | 0, s => .ok s
  | k + 1, s => do
    let (v, t) ← (s.setReg .bp (s.regs.bp - 2)).segRead16 .ss (s.regs.bp - 2)
    let u ← t.push16 v
    State.enterCopy k u

/-- The inner part of ENTER for a level above 0 (R710). -/
def State.enterLevels (s : State) (level : Nat) (frame : Word) : Res State :=
  if level = 0 then .ok s
  else do
    let t ← State.enterCopy (level - 1) s
    t.push16 frame

/-- ENTER (R710; 92 D31). -/
def State.enterFrame (s : State) (size : Word) (lev : Byte) : Res State := do
  let t ← s.push16 s.regs.bp
  let u ← t.enterLevels (lev.toNat % 32) t.regs.sp
  return (u.setReg .bp t.regs.sp).setReg .sp (u.regs.sp - size)

/-- LEAVE (R711). -/
def State.leaveFrame (s : State) : Res State := do
  let (v, t) ← (s.setReg .sp s.regs.bp).pop16
  return t.setReg .bp v

/-- BOUND (R712). -/
def State.bound (s : State) (g : Reg16) (m : MemRef) : Res State := do
  let ((lo, hi), t) ← s.readPair m
  raiseIf (decide ((s.reg g).toInt < lo.toInt) || decide (hi.toInt < (s.reg g).toInt)) t .br
  return t

/-! ## The instructions -/

/-- `BOUND_Gw_Ma` (45 R712). -/
def execBoundGwMa (m : MemRef) (g : Reg16) (s : State) : Host.Outcome State Fault Refusal :=
  s.finish (s.bound g m)

/-- `JO_Jb` (45 R651). -/
def execJoJb (ib : Byte) (s : State) : Host.Outcome State Fault Refusal :=
  s.finish (s.branchIf (Cond.o.holds s.flags) ib)

/-- `JNO_Jb` (45 R652). -/
def execJnoJb (ib : Byte) (s : State) : Host.Outcome State Fault Refusal :=
  s.finish (s.branchIf (Cond.no.holds s.flags) ib)

/-- `JB_Jb` (45 R653). -/
def execJbJb (ib : Byte) (s : State) : Host.Outcome State Fault Refusal :=
  s.finish (s.branchIf (Cond.b.holds s.flags) ib)

/-- `JNB_Jb` (45 R654). -/
def execJnbJb (ib : Byte) (s : State) : Host.Outcome State Fault Refusal :=
  s.finish (s.branchIf (Cond.nb.holds s.flags) ib)

/-- `JZ_Jb` (45 R655). -/
def execJzJb (ib : Byte) (s : State) : Host.Outcome State Fault Refusal :=
  s.finish (s.branchIf (Cond.z.holds s.flags) ib)

/-- `JNZ_Jb` (45 R656). -/
def execJnzJb (ib : Byte) (s : State) : Host.Outcome State Fault Refusal :=
  s.finish (s.branchIf (Cond.nz.holds s.flags) ib)

/-- `JBE_Jb` (45 R657). -/
def execJbeJb (ib : Byte) (s : State) : Host.Outcome State Fault Refusal :=
  s.finish (s.branchIf (Cond.be.holds s.flags) ib)

/-- `JA_Jb` (45 R658). -/
def execJaJb (ib : Byte) (s : State) : Host.Outcome State Fault Refusal :=
  s.finish (s.branchIf (Cond.a.holds s.flags) ib)

/-- `JS_Jb` (45 R659). -/
def execJsJb (ib : Byte) (s : State) : Host.Outcome State Fault Refusal :=
  s.finish (s.branchIf (Cond.s.holds s.flags) ib)

/-- `JNS_Jb` (45 R660). -/
def execJnsJb (ib : Byte) (s : State) : Host.Outcome State Fault Refusal :=
  s.finish (s.branchIf (Cond.ns.holds s.flags) ib)

/-- `JP_Jb` (45 R661). -/
def execJpJb (ib : Byte) (s : State) : Host.Outcome State Fault Refusal :=
  s.finish (s.branchIf (Cond.p.holds s.flags) ib)

/-- `JNP_Jb` (45 R662). -/
def execJnpJb (ib : Byte) (s : State) : Host.Outcome State Fault Refusal :=
  s.finish (s.branchIf (Cond.np.holds s.flags) ib)

/-- `JL_Jb` (45 R663). -/
def execJlJb (ib : Byte) (s : State) : Host.Outcome State Fault Refusal :=
  s.finish (s.branchIf (Cond.l.holds s.flags) ib)

/-- `JGE_Jb` (45 R664). -/
def execJgeJb (ib : Byte) (s : State) : Host.Outcome State Fault Refusal :=
  s.finish (s.branchIf (Cond.ge.holds s.flags) ib)

/-- `JLE_Jb` (45 R665). -/
def execJleJb (ib : Byte) (s : State) : Host.Outcome State Fault Refusal :=
  s.finish (s.branchIf (Cond.le.holds s.flags) ib)

/-- `JG_Jb` (45 R666). -/
def execJgJb (ib : Byte) (s : State) : Host.Outcome State Fault Refusal :=
  s.finish (s.branchIf (Cond.g.holds s.flags) ib)

/-- `JO_Jb__alias_of_70` (45 R651, R242). -/
def execJoJb60 (ib : Byte) (s : State) : Host.Outcome State Fault Refusal :=
  s.finish (s.branchIf (Cond.o.holds s.flags) ib)

/-- `JNO_Jb__alias_of_71` (45 R652, R242). -/
def execJnoJb61 (ib : Byte) (s : State) : Host.Outcome State Fault Refusal :=
  s.finish (s.branchIf (Cond.no.holds s.flags) ib)

/-- `JB_Jb__alias_of_72` (45 R653, R242). -/
def execJbJb62 (ib : Byte) (s : State) : Host.Outcome State Fault Refusal :=
  s.finish (s.branchIf (Cond.b.holds s.flags) ib)

/-- `JNB_Jb__alias_of_73` (45 R654, R242). -/
def execJnbJb63 (ib : Byte) (s : State) : Host.Outcome State Fault Refusal :=
  s.finish (s.branchIf (Cond.nb.holds s.flags) ib)

/-- `JZ_Jb__alias_of_74` (45 R655, R242). -/
def execJzJb64 (ib : Byte) (s : State) : Host.Outcome State Fault Refusal :=
  s.finish (s.branchIf (Cond.z.holds s.flags) ib)

/-- `JNZ_Jb__alias_of_75` (45 R656, R242). -/
def execJnzJb65 (ib : Byte) (s : State) : Host.Outcome State Fault Refusal :=
  s.finish (s.branchIf (Cond.nz.holds s.flags) ib)

/-- `JBE_Jb__alias_of_76` (45 R657, R242). -/
def execJbeJb66 (ib : Byte) (s : State) : Host.Outcome State Fault Refusal :=
  s.finish (s.branchIf (Cond.be.holds s.flags) ib)

/-- `JA_Jb__alias_of_77` (45 R658, R242). -/
def execJaJb67 (ib : Byte) (s : State) : Host.Outcome State Fault Refusal :=
  s.finish (s.branchIf (Cond.a.holds s.flags) ib)

/-- `JS_Jb__alias_of_78` (45 R659, R242). -/
def execJsJb68 (ib : Byte) (s : State) : Host.Outcome State Fault Refusal :=
  s.finish (s.branchIf (Cond.s.holds s.flags) ib)

/-- `JNS_Jb__alias_of_79` (45 R660, R242). -/
def execJnsJb69 (ib : Byte) (s : State) : Host.Outcome State Fault Refusal :=
  s.finish (s.branchIf (Cond.ns.holds s.flags) ib)

/-- `JP_Jb__alias_of_7A` (45 R661, R242). -/
def execJpJb6A (ib : Byte) (s : State) : Host.Outcome State Fault Refusal :=
  s.finish (s.branchIf (Cond.p.holds s.flags) ib)

/-- `JNP_Jb__alias_of_7B` (45 R662, R242). -/
def execJnpJb6B (ib : Byte) (s : State) : Host.Outcome State Fault Refusal :=
  s.finish (s.branchIf (Cond.np.holds s.flags) ib)

/-- `JL_Jb__alias_of_7C` (45 R663, R242). -/
def execJlJb6C (ib : Byte) (s : State) : Host.Outcome State Fault Refusal :=
  s.finish (s.branchIf (Cond.l.holds s.flags) ib)

/-- `JGE_Jb__alias_of_7D` (45 R664, R242). -/
def execJgeJb6D (ib : Byte) (s : State) : Host.Outcome State Fault Refusal :=
  s.finish (s.branchIf (Cond.ge.holds s.flags) ib)

/-- `JLE_Jb__alias_of_7E` (45 R665, R242). -/
def execJleJb6E (ib : Byte) (s : State) : Host.Outcome State Fault Refusal :=
  s.finish (s.branchIf (Cond.le.holds s.flags) ib)

/-- `JG_Jb__alias_of_7F` (45 R666, R242). -/
def execJgJb6F (ib : Byte) (s : State) : Host.Outcome State Fault Refusal :=
  s.finish (s.branchIf (Cond.g.holds s.flags) ib)

/-- `CALL_Ap` (45 R675). -/
def execCallAp (off : Word) (sel : Word) (s : State) : Host.Outcome State Fault Refusal :=
  s.finish (s.farTransfer true sel off)

/-- `RET_Iw__alias_of_C2` (45 R681, R243). -/
def execRetIwC0 (iw : Word) (s : State) : Host.Outcome State Fault Refusal :=
  s.finish (s.retNear iw)

/-- `RET_Iw` (45 R681). -/
def execRetIw (iw : Word) (s : State) : Host.Outcome State Fault Refusal :=
  s.finish (s.retNear iw)

/-- `ENTER_Iw_Ib` (45 R710). -/
def execEnterIwIb (iw : Word) (lev : Byte) (s : State) : Host.Outcome State Fault Refusal :=
  s.finish (s.enterFrame iw lev)

/-- `RETF_Iw__alias_of_CA` (45 R683, R243). -/
def execRetfIwC8 (iw : Word) (s : State) : Host.Outcome State Fault Refusal :=
  s.finish (s.farReturn iw)

/-- `RETF_Iw` (45 R683). -/
def execRetfIw (iw : Word) (s : State) : Host.Outcome State Fault Refusal :=
  s.finish (s.farReturn iw)

/-- `INT_Ib` (45 R700). -/
def execIntIb (ib : Byte) (s : State) : Host.Outcome State Fault Refusal :=
  s.finish (s.intInstr ib)

/-- `LOOPNZ_Jb` (45 R692). -/
def execLoopnzJb (ib : Byte) (s : State) : Host.Outcome State Fault Refusal :=
  s.finish (s.loopIf (!s.flags.zf) ib)

/-- `LOOPZ_Jb` (45 R691). -/
def execLoopzJb (ib : Byte) (s : State) : Host.Outcome State Fault Refusal :=
  s.finish (s.loopIf s.flags.zf ib)

/-- `LOOP_Jb` (45 R690). -/
def execLoopJb (ib : Byte) (s : State) : Host.Outcome State Fault Refusal :=
  s.finish (s.loopIf true ib)

/-- `JCXZ_Jb` (45 R693). -/
def execJcxzJb (ib : Byte) (s : State) : Host.Outcome State Fault Refusal :=
  s.finish (s.branchIf (s.reg .cx == 0) ib)

/-- `CALL_Jw` (45 R673). -/
def execCallJw (iw : Word) (s : State) : Host.Outcome State Fault Refusal :=
  s.finish (s.callNear (s.ip + iw))

/-- `JMP_Jw` (45 R668). -/
def execJmpJw (iw : Word) (s : State) : Host.Outcome State Fault Refusal :=
  s.finish (s.nearJump (s.ip + iw))

/-- `JMP_Ap` (45 R670). -/
def execJmpAp (off : Word) (sel : Word) (s : State) : Host.Outcome State Fault Refusal :=
  s.finish (s.farTransfer false sel off)

/-- `JMP_Jb` (45 R667). -/
def execJmpJb (ib : Byte) (s : State) : Host.Outcome State Fault Refusal :=
  s.finish (s.nearJump (s.ip + sext16 ib))

/-- `CALL_Ew` (45 R674). -/
def execCallEw (e : RM Reg16) (s : State) : Host.Outcome State Fault Refusal :=
  s.finish (s.callOperand e)

/-- `CALL_Mp` (45 R676). -/
def execCallMp (m : MemRef) (s : State) : Host.Outcome State Fault Refusal :=
  s.finish (s.farOperand true m)

/-- `JMP_Ew` (45 R669). -/
def execJmpEw (e : RM Reg16) (s : State) : Host.Outcome State Fault Refusal :=
  s.finish (s.jmpOperand e)

/-- `JMP_Mp` (45 R672). -/
def execJmpMp (m : MemRef) (s : State) : Host.Outcome State Fault Refusal :=
  s.finish (s.farOperand false m)

/-- `RET__alias_of_C3` (45 R680, R243). -/
def execRetC1 (s : State) : Host.Outcome State Fault Refusal :=
  s.finish (s.retNear 0)

/-- `RET` (45 R680). -/
def execRet (s : State) : Host.Outcome State Fault Refusal :=
  s.finish (s.retNear 0)

/-- `LEAVE` (45 R711). -/
def execLeave (s : State) : Host.Outcome State Fault Refusal :=
  s.finish (s.leaveFrame)

/-- `RETF__alias_of_CB` (45 R682, R243). -/
def execRetfC9 (s : State) : Host.Outcome State Fault Refusal :=
  s.finish (s.farReturn 0)

/-- `RETF` (45 R682). -/
def execRetf (s : State) : Host.Outcome State Fault Refusal :=
  s.finish (s.farReturn 0)

/-- `INT3` (45 R701). -/
def execInt3 (s : State) : Host.Outcome State Fault Refusal :=
  s.finish (s.softwareInt 3)

/-- `INTO` (45 R702). -/
def execInto (s : State) : Host.Outcome State Fault Refusal :=
  s.finish (if s.flags.of then s.softwareInt 4 else .ok s)

/-- `IRET` (45 R703). -/
def execIret (s : State) : Host.Outcome State Fault Refusal :=
  s.finish (s.interruptReturn)

end Sys2Proof.Machine
end

