-- ==== Sys2Proof/Machine/DataTransfer.lean ====
section
/-! DEFINITION. The data transfer instructions (41_data_transfer.md). -/

namespace Sys2Proof.Machine

/-- `G <- E`, byte (R301). -/
def State.loadReg8 (s : State) (g : Reg8) (e : RM Reg8) : Res State := do
  let (v, t) ← s.readEb e
  return t.setReg8 g v

/-- `G <- E`, word (R301). -/
def State.loadReg16 (s : State) (g : Reg16) (e : RM Reg16) : Res State := do
  let (v, t) ← s.readEw e
  return t.setReg g v

/-- The load of CS by MOV CS and POP CS on C86: IP stays, the queue is flushed (R312, R338). -/
def State.loadCodeSeg (s : State) (v : Word) : State := (s.setSeg .cs (.real v)).flushQueue

/-- MOV Sw,Ew: a load of SS sets NOINTR; CS can be loaded on C86 only (R310 to R312). -/
def State.moveSeg (s : State) (sr : SegReg) (e : RM Reg16) : Res State :=
  match sr with
  | .es => do
    let (v, t) ← s.readEw e
    t.loadSeg .es v
  | .ds => do
    let (v, t) ← s.readEw e
    t.loadSeg .ds v
  | .ss => do
    let (v, t) ← s.readEw e
    let u ← t.loadSeg .ss v
    return { u with nointr := true }
  | .cs => do
    raiseIf (s.cls != .c86) s .ud
    let (v, t) ← s.readEw e
    return t.loadCodeSeg v

/-- XCHG Eb,Gb (R320). -/
def State.xchg8 (s : State) (e : RM Reg8) (g : Reg8) : Res State := do
  let (v, t) ← s.readEb e
  let u ← t.writeEb e (s.reg8 g)
  return u.setReg8 g v

/-- XCHG Ew,Gw (R320, R321). -/
def State.xchg16 (s : State) (e : RM Reg16) (g : Reg16) : Res State := do
  let (v, t) ← s.readEw e
  let u ← t.writeEw e (s.reg g)
  return u.setReg g v

/-- XLAT (R323). DESIGN CHOICE (notes/assumptions/25.md): its offset is not recorded in EA (10 R50). -/
def State.translate (s : State) : Res State := do
  let (v, t) ← s.segRead8 (s.segOr .ds) (s.reg .bx + zext16 (s.reg8 .al))
  return t.setReg8 .al v

/-- LDS and LES: the general register is written after the segment load (R325, R326). -/
def State.loadFar (s : State) (r : SegReg) (g : Reg16) (m : MemRef) : Res State := do
  let ((off, sel), t) ← s.readPair m
  let u ← t.loadSeg r sel
  return u.setReg g off

/-- PUSH SP (R332; 90 C2). -/
def State.pushStackPtr (s : State) : Res State :=
  match s.cls with
  | .c86 => s.push16 (s.regs.sp - 2)
  | .c186 => s.push16 (s.regs.sp - 2)
  | .c286 => s.push16 s.regs.sp

/-- PUSH Ew (R336). -/
def State.pushOperand (s : State) (e : RM Reg16) : Res State :=
  if e = .reg .sp then s.pushStackPtr
  else do
    let (v, t) ← s.readEw e
    t.push16 v

/-- POP ES, POP SS and POP DS (R333). -/
def State.popSeg (s : State) (r : SegReg) : Res State := do
  let (v, t) ← s.segRead16 .ss s.regs.sp
  let u ← t.loadSeg r v
  return { u.setReg .sp (s.regs.sp + 2) with nointr := r == .ss || u.nointr }

/-- POP r16: for SP the popped value stays (R334). -/
def State.popReg (s : State) (r : Reg16) : Res State := do
  let (v, t) ← s.pop16
  return t.setReg r v

/-- POP Ew: the write of E comes before SP moves (R337). -/
def State.popOperand (s : State) (e : RM Reg16) : Res State := do
  let (v, t) ← s.segRead16 .ss s.regs.sp
  match e with
  | .reg r => return (t.setReg .sp (s.regs.sp + 2)).setReg r v
  | .mem m => do
    let u ← t.writeEw (.mem m) v
    return u.setReg .sp (s.regs.sp + 2)

/-- POP CS (R338). -/
def State.popCodeSeg (s : State) : Res State := do
  let (v, t) ← s.pop16
  return t.loadCodeSeg v

/-- PUSHA (R340). -/
def State.pushAllRegs (s : State) : Res State :=
  State.pushAll [s.regs.ax, s.regs.cx, s.regs.dx, s.regs.bx, s.regs.sp, s.regs.bp, s.regs.si, s.regs.di] s

/-- POPA: the SP image is discarded (R341). -/
def State.popAllRegs (s : State) : Res State := do
  let (di, s) ← s.pop16
  let (si, s) ← s.pop16
  let (bp, s) ← s.pop16
  let (_, s) ← s.pop16
  let (bx, s) ← s.pop16
  let (dx, s) ← s.pop16
  let (cx, s) ← s.pop16
  let (ax, s) ← s.pop16
  return { s with
    regs := { ax := ax, cx := cx, dx := dx, bx := bx, sp := s.regs.sp, bp := bp, si := si, di := di } }

/-- POPF (R343). -/
def State.popFlags (s : State) : Res State := do
  let (v, t) ← s.pop16
  return t.setPS v s.popMask

/-- SAHF: OF stays (R345). -/
def State.storeAh (s : State) : State :=
  s.keepSizeSetFlags { Flags.ofWord (zext16 (s.reg8 .ah)) with of := s.flags.of }

/-- IN of a byte (R350, R351, R354). -/
def State.inByte (s : State) (port : Word) : Res State := do
  s.checkIopl
  return (s.ioRead port 1).2.setReg8 .al (loByte (s.ioRead port 1).1)

/-- IN of a word (R350, R351, R354). -/
def State.inWord (s : State) (port : Word) : Res State := do
  s.checkIopl
  return (s.ioRead port 2).2.setReg .ax (s.ioRead port 2).1

/-- OUT of a byte (R352, R353, R354). -/
def State.outByte (s : State) (port : Word) : Res State := do
  s.checkIopl
  return s.ioWrite port 1 (zext16 (s.reg8 .al))

/-- OUT of a word (R352, R353, R354). -/
def State.outWord (s : State) (port : Word) : Res State := do
  s.checkIopl
  return s.ioWrite port 2 (s.reg .ax)

/-! ## The instructions -/

/-- `PUSH_r16` (41 R331). -/
def execPushR16 (r : Reg16) (s : State) : Host.Outcome State Fault Refusal :=
  s.finish (s.push16 (s.reg r))

/-- `POP_r16` (41 R334). -/
def execPopR16 (r : Reg16) (s : State) : Host.Outcome State Fault Refusal :=
  s.finish (s.popReg r)

/-- `PUSH_Iw` (41 R339). -/
def execPushIw (iw : Word) (s : State) : Host.Outcome State Fault Refusal :=
  s.finish (s.push16 iw)

/-- `PUSH_Ibs` (41 R339). -/
def execPushIbs (ib : Byte) (s : State) : Host.Outcome State Fault Refusal :=
  s.finish (s.push16 (sext16 ib))

/-- `XCHG_Eb_Gb` (41 R320). -/
def execXchgEbGb (e : RM Reg8) (g : Reg8) (s : State) : Host.Outcome State Fault Refusal :=
  s.finish (s.xchg8 e g)

/-- `XCHG_Ew_Gw` (41 R320). -/
def execXchgEwGw (e : RM Reg16) (g : Reg16) (s : State) : Host.Outcome State Fault Refusal :=
  s.finish (s.xchg16 e g)

/-- `MOV_Eb_Gb` (41 R300). -/
def execMovEbGb (e : RM Reg8) (g : Reg8) (s : State) : Host.Outcome State Fault Refusal :=
  s.finish (s.writeEb e (s.reg8 g))

/-- `MOV_Ew_Gw` (41 R300). -/
def execMovEwGw (e : RM Reg16) (g : Reg16) (s : State) : Host.Outcome State Fault Refusal :=
  s.finish (s.writeEw e (s.reg g))

/-- `MOV_Gb_Eb` (41 R301). -/
def execMovGbEb (e : RM Reg8) (g : Reg8) (s : State) : Host.Outcome State Fault Refusal :=
  s.finish (s.loadReg8 g e)

/-- `MOV_Gw_Ew` (41 R301). -/
def execMovGwEw (e : RM Reg16) (g : Reg16) (s : State) : Host.Outcome State Fault Refusal :=
  s.finish (s.loadReg16 g e)

/-- `MOV_Ew_Sw` (41 R306). -/
def execMovEwSw (e : RM Reg16) (sr : SegReg) (s : State) : Host.Outcome State Fault Refusal :=
  s.finish (s.writeEw e (s.seg sr).selector)

/-- `MOV_Ew_Sw__reg_4-7_alias_of_reg-4` (41 R306, R238). -/
def execMovEwSwHigh (e : RM Reg16) (sr : SegReg) (s : State) : Host.Outcome State Fault Refusal :=
  s.finish (s.writeEw e (s.seg sr).selector)

/-- `LEA_Gw_M` (41 R324). -/
def execLeaGwM (m : MemRef) (g : Reg16) (s : State) : Host.Outcome State Fault Refusal :=
  s.finish (.ok ((s.noteEa (s.ea m)).setReg g (s.ea m)))

/-- `MOV_Sw_Ew` (41 R310). -/
def execMovSwEw (e : RM Reg16) (sr : SegReg) (s : State) : Host.Outcome State Fault Refusal :=
  s.finish (s.moveSeg sr e)

/-- `MOV_CS_Ew` (41 R312). -/
def execMovCsEw (e : RM Reg16) (s : State) : Host.Outcome State Fault Refusal :=
  s.finish (s.moveSeg .cs e)

/-- `MOV_Sw_Ew__reg_4-7_alias_of_reg-4` (41 R310, R238). -/
def execMovSwEwHigh (e : RM Reg16) (sr : SegReg) (s : State) : Host.Outcome State Fault Refusal :=
  s.finish (s.moveSeg sr e)

/-- `POP_Ew` (41 R337). -/
def execPopEw (e : RM Reg16) (s : State) : Host.Outcome State Fault Refusal :=
  s.finish (s.popOperand e)

/-- `MOV_AL_Ob` (41 R304). -/
def execMovAlOb (off : Word) (s : State) : Host.Outcome State Fault Refusal :=
  s.finish (s.loadReg8 .al (.mem (.direct off)))

/-- `MOV_AX_Ow` (41 R304). -/
def execMovAxOw (off : Word) (s : State) : Host.Outcome State Fault Refusal :=
  s.finish (s.loadReg16 .ax (.mem (.direct off)))

/-- `MOV_Ob_AL` (41 R305). -/
def execMovObAl (off : Word) (s : State) : Host.Outcome State Fault Refusal :=
  s.finish (s.writeEb (.mem (.direct off)) (s.reg8 .al))

/-- `MOV_Ow_AX` (41 R305). -/
def execMovOwAx (off : Word) (s : State) : Host.Outcome State Fault Refusal :=
  s.finish (s.writeEw (.mem (.direct off)) (s.reg .ax))

/-- `MOV_r8_Ib` (41 R302). -/
def execMovR8Ib (r : Reg8) (ib : Byte) (s : State) : Host.Outcome State Fault Refusal :=
  s.finish (.ok (s.setReg8 r ib))

/-- `MOV_r16_Iw` (41 R302). -/
def execMovR16Iw (r : Reg16) (iw : Word) (s : State) : Host.Outcome State Fault Refusal :=
  s.finish (.ok (s.setReg r iw))

/-- `LES_Gw_Mp` (41 R326). -/
def execLesGwMp (m : MemRef) (g : Reg16) (s : State) : Host.Outcome State Fault Refusal :=
  s.finish (s.loadFar .es g m)

/-- `LDS_Gw_Mp` (41 R325). -/
def execLdsGwMp (m : MemRef) (g : Reg16) (s : State) : Host.Outcome State Fault Refusal :=
  s.finish (s.loadFar .ds g m)

/-- `MOV_Eb_Ib` (41 R303). -/
def execMovEbIb (e : RM Reg8) (ib : Byte) (s : State) : Host.Outcome State Fault Refusal :=
  s.finish (s.writeEb e ib)

/-- `MOV_Ew_Iw` (41 R303). -/
def execMovEwIw (e : RM Reg16) (iw : Word) (s : State) : Host.Outcome State Fault Refusal :=
  s.finish (s.writeEw e iw)

/-- `IN_AL_Ib` (41 R350). -/
def execInAlIb (ib : Byte) (s : State) : Host.Outcome State Fault Refusal :=
  s.finish (s.inByte (zext16 ib))

/-- `IN_AX_Ib` (41 R350). -/
def execInAxIb (ib : Byte) (s : State) : Host.Outcome State Fault Refusal :=
  s.finish (s.inWord (zext16 ib))

/-- `OUT_Ib_AL` (41 R352). -/
def execOutIbAl (ib : Byte) (s : State) : Host.Outcome State Fault Refusal :=
  s.finish (s.outByte (zext16 ib))

/-- `OUT_Ib_AX` (41 R352). -/
def execOutIbAx (ib : Byte) (s : State) : Host.Outcome State Fault Refusal :=
  s.finish (s.outWord (zext16 ib))

/-- `PUSH_Ew` (41 R336). -/
def execPushEw (e : RM Reg16) (s : State) : Host.Outcome State Fault Refusal :=
  s.finish (s.pushOperand e)

/-- `PUSH_ES` (41 R335). -/
def execPushEs (s : State) : Host.Outcome State Fault Refusal :=
  s.finish (s.push16 (s.seg .es).selector)

/-- `POP_ES` (41 R333). -/
def execPopEs (s : State) : Host.Outcome State Fault Refusal :=
  s.finish (s.popSeg .es)

/-- `PUSH_CS` (41 R335). -/
def execPushCs (s : State) : Host.Outcome State Fault Refusal :=
  s.finish (s.push16 (s.seg .cs).selector)

/-- `PUSH_SS` (41 R335). -/
def execPushSs (s : State) : Host.Outcome State Fault Refusal :=
  s.finish (s.push16 (s.seg .ss).selector)

/-- `POP_SS` (41 R333). -/
def execPopSs (s : State) : Host.Outcome State Fault Refusal :=
  s.finish (s.popSeg .ss)

/-- `PUSH_DS` (41 R335). -/
def execPushDs (s : State) : Host.Outcome State Fault Refusal :=
  s.finish (s.push16 (s.seg .ds).selector)

/-- `POP_DS` (41 R333). -/
def execPopDs (s : State) : Host.Outcome State Fault Refusal :=
  s.finish (s.popSeg .ds)

/-- `POP_CS` (41 R338). -/
def execPopCs (s : State) : Host.Outcome State Fault Refusal :=
  s.finish (s.popCodeSeg)

/-- `PUSH_SP` (41 R332). -/
def execPushSp (s : State) : Host.Outcome State Fault Refusal :=
  s.finish (s.pushStackPtr)

/-- `PUSHA` (41 R340). -/
def execPusha (s : State) : Host.Outcome State Fault Refusal :=
  s.finish (s.pushAllRegs)

/-- `POPA` (41 R341). -/
def execPopa (s : State) : Host.Outcome State Fault Refusal :=
  s.finish (s.popAllRegs)

/-- `XCHG_AX_r16` (41 R321). -/
def execXchgAxCx (s : State) : Host.Outcome State Fault Refusal :=
  s.finish (s.xchg16 (.reg .ax) .cx)

/-- `XCHG_AX_r16` (41 R321). -/
def execXchgAxDx (s : State) : Host.Outcome State Fault Refusal :=
  s.finish (s.xchg16 (.reg .ax) .dx)

/-- `XCHG_AX_r16` (41 R321). -/
def execXchgAxBx (s : State) : Host.Outcome State Fault Refusal :=
  s.finish (s.xchg16 (.reg .ax) .bx)

/-- `XCHG_AX_r16` (41 R321). -/
def execXchgAxSp (s : State) : Host.Outcome State Fault Refusal :=
  s.finish (s.xchg16 (.reg .ax) .sp)

/-- `XCHG_AX_r16` (41 R321). -/
def execXchgAxBp (s : State) : Host.Outcome State Fault Refusal :=
  s.finish (s.xchg16 (.reg .ax) .bp)

/-- `XCHG_AX_r16` (41 R321). -/
def execXchgAxSi (s : State) : Host.Outcome State Fault Refusal :=
  s.finish (s.xchg16 (.reg .ax) .si)

/-- `XCHG_AX_r16` (41 R321). -/
def execXchgAxDi (s : State) : Host.Outcome State Fault Refusal :=
  s.finish (s.xchg16 (.reg .ax) .di)

/-- `CBW` (41 R346). -/
def execCbw (s : State) : Host.Outcome State Fault Refusal :=
  s.finish (.ok (s.setReg .ax (sext16 (s.reg8 .al))))

/-- `CWD` (41 R347). -/
def execCwd (s : State) : Host.Outcome State Fault Refusal :=
  s.finish (.ok (s.setReg .dx (if (s.reg .ax).msb then 0xFFFF else 0)))

/-- `PUSHF` (41 R342). -/
def execPushf (s : State) : Host.Outcome State Fault Refusal :=
  s.finish (s.push16 s.getPS)

/-- `POPF` (41 R343). -/
def execPopf (s : State) : Host.Outcome State Fault Refusal :=
  s.finish (s.popFlags)

/-- `SAHF` (41 R345). -/
def execSahf (s : State) : Host.Outcome State Fault Refusal :=
  s.finish (.ok s.storeAh)

/-- `LAHF` (41 R344). -/
def execLahf (s : State) : Host.Outcome State Fault Refusal :=
  s.finish (.ok (s.setReg8 .ah (loByte s.getPS)))

/-- `XLAT` (41 R323). -/
def execXlat (s : State) : Host.Outcome State Fault Refusal :=
  s.finish (s.translate)

/-- `IN_AL_DX` (41 R351). -/
def execInAlDx (s : State) : Host.Outcome State Fault Refusal :=
  s.finish (s.inByte (s.reg .dx))

/-- `IN_AX_DX` (41 R351). -/
def execInAxDx (s : State) : Host.Outcome State Fault Refusal :=
  s.finish (s.inWord (s.reg .dx))

/-- `OUT_DX_AL` (41 R353). -/
def execOutDxAl (s : State) : Host.Outcome State Fault Refusal :=
  s.finish (s.outByte (s.reg .dx))

/-- `OUT_DX_AX` (41 R353). -/
def execOutDxAx (s : State) : Host.Outcome State Fault Refusal :=
  s.finish (s.outWord (s.reg .dx))

/-- `PUSH_SP__FF__6__mod___3__rm___4` (41 R332). -/
def execPushSpFF (s : State) : Host.Outcome State Fault Refusal :=
  s.finish (s.pushStackPtr)

end Sys2Proof.Machine
end

