-- ==== Sys2Proof/Machine/Logic.lean ====
section
/-! DEFINITION. The logical instructions (43_logic_shift.md R500 to R504). -/

namespace Sys2Proof.Machine

/-- AND, and the flags of TEST (R500, R503). -/
def andOp {n : Nat} (z : ResultSize) : BinOp n := fun d x s => (d &&& x, s.setLogic z (d &&& x))

/-- OR (R501). -/
def orOp {n : Nat} (z : ResultSize) : BinOp n := fun d x s => (d ||| x, s.setLogic z (d ||| x))

/-- XOR (R502). -/
def xorOp {n : Nat} (z : ResultSize) : BinOp n := fun d x s => (d ^^^ x, s.setLogic z (d ^^^ x))

/-- NOT: no flag changes (R504). -/
def notOp {n : Nat} : UnOp n := fun d s => (~~~d, s)

/-! ## The instructions -/

/-- `OR_Eb_Gb` (43 R501). -/
def execOrEbGb (e : RM Reg8) (g : Reg8) (s : State) : Host.Outcome State Fault Refusal :=
  s.finish (s.binEb (orOp .byte) e (s.reg8 g))

/-- `OR_Ew_Gw` (43 R501). -/
def execOrEwGw (e : RM Reg16) (g : Reg16) (s : State) : Host.Outcome State Fault Refusal :=
  s.finish (s.binEw (orOp .word) e (s.reg g))

/-- `OR_Gb_Eb` (43 R501). -/
def execOrGbEb (e : RM Reg8) (g : Reg8) (s : State) : Host.Outcome State Fault Refusal :=
  s.finish (s.binGb (orOp .byte) g e)

/-- `OR_Gw_Ew` (43 R501). -/
def execOrGwEw (e : RM Reg16) (g : Reg16) (s : State) : Host.Outcome State Fault Refusal :=
  s.finish (s.binGw (orOp .word) g e)

/-- `OR_AL_Ib` (43 R501). -/
def execOrAlIb (ib : Byte) (s : State) : Host.Outcome State Fault Refusal :=
  s.finish (s.binReg8 (orOp .byte) .al ib)

/-- `OR_AX_Iw` (43 R501). -/
def execOrAxIw (iw : Word) (s : State) : Host.Outcome State Fault Refusal :=
  s.finish (s.binReg (orOp .word) .ax iw)

/-- `OR_Eb_Ib` (43 R501). -/
def execOrEbIb (e : RM Reg8) (ib : Byte) (s : State) : Host.Outcome State Fault Refusal :=
  s.finish (s.binEb (orOp .byte) e ib)

/-- `OR_Ew_Iw` (43 R501). -/
def execOrEwIw (e : RM Reg16) (iw : Word) (s : State) : Host.Outcome State Fault Refusal :=
  s.finish (s.binEw (orOp .word) e iw)

/-- `OR_Ew_Ibs` (43 R501). -/
def execOrEwIbs (e : RM Reg16) (ib : Byte) (s : State) : Host.Outcome State Fault Refusal :=
  s.finish (s.binEw (orOp .word) e (sext16 ib))

/-- `AND_Eb_Gb` (43 R500). -/
def execAndEbGb (e : RM Reg8) (g : Reg8) (s : State) : Host.Outcome State Fault Refusal :=
  s.finish (s.binEb (andOp .byte) e (s.reg8 g))

/-- `AND_Ew_Gw` (43 R500). -/
def execAndEwGw (e : RM Reg16) (g : Reg16) (s : State) : Host.Outcome State Fault Refusal :=
  s.finish (s.binEw (andOp .word) e (s.reg g))

/-- `AND_Gb_Eb` (43 R500). -/
def execAndGbEb (e : RM Reg8) (g : Reg8) (s : State) : Host.Outcome State Fault Refusal :=
  s.finish (s.binGb (andOp .byte) g e)

/-- `AND_Gw_Ew` (43 R500). -/
def execAndGwEw (e : RM Reg16) (g : Reg16) (s : State) : Host.Outcome State Fault Refusal :=
  s.finish (s.binGw (andOp .word) g e)

/-- `AND_AL_Ib` (43 R500). -/
def execAndAlIb (ib : Byte) (s : State) : Host.Outcome State Fault Refusal :=
  s.finish (s.binReg8 (andOp .byte) .al ib)

/-- `AND_AX_Iw` (43 R500). -/
def execAndAxIw (iw : Word) (s : State) : Host.Outcome State Fault Refusal :=
  s.finish (s.binReg (andOp .word) .ax iw)

/-- `AND_Eb_Ib` (43 R500). -/
def execAndEbIb (e : RM Reg8) (ib : Byte) (s : State) : Host.Outcome State Fault Refusal :=
  s.finish (s.binEb (andOp .byte) e ib)

/-- `AND_Ew_Iw` (43 R500). -/
def execAndEwIw (e : RM Reg16) (iw : Word) (s : State) : Host.Outcome State Fault Refusal :=
  s.finish (s.binEw (andOp .word) e iw)

/-- `AND_Ew_Ibs` (43 R500). -/
def execAndEwIbs (e : RM Reg16) (ib : Byte) (s : State) : Host.Outcome State Fault Refusal :=
  s.finish (s.binEw (andOp .word) e (sext16 ib))

/-- `XOR_Eb_Gb` (43 R502). -/
def execXorEbGb (e : RM Reg8) (g : Reg8) (s : State) : Host.Outcome State Fault Refusal :=
  s.finish (s.binEb (xorOp .byte) e (s.reg8 g))

/-- `XOR_Ew_Gw` (43 R502). -/
def execXorEwGw (e : RM Reg16) (g : Reg16) (s : State) : Host.Outcome State Fault Refusal :=
  s.finish (s.binEw (xorOp .word) e (s.reg g))

/-- `XOR_Gb_Eb` (43 R502). -/
def execXorGbEb (e : RM Reg8) (g : Reg8) (s : State) : Host.Outcome State Fault Refusal :=
  s.finish (s.binGb (xorOp .byte) g e)

/-- `XOR_Gw_Ew` (43 R502). -/
def execXorGwEw (e : RM Reg16) (g : Reg16) (s : State) : Host.Outcome State Fault Refusal :=
  s.finish (s.binGw (xorOp .word) g e)

/-- `XOR_AL_Ib` (43 R502). -/
def execXorAlIb (ib : Byte) (s : State) : Host.Outcome State Fault Refusal :=
  s.finish (s.binReg8 (xorOp .byte) .al ib)

/-- `XOR_AX_Iw` (43 R502). -/
def execXorAxIw (iw : Word) (s : State) : Host.Outcome State Fault Refusal :=
  s.finish (s.binReg (xorOp .word) .ax iw)

/-- `XOR_Eb_Ib` (43 R502). -/
def execXorEbIb (e : RM Reg8) (ib : Byte) (s : State) : Host.Outcome State Fault Refusal :=
  s.finish (s.binEb (xorOp .byte) e ib)

/-- `XOR_Ew_Iw` (43 R502). -/
def execXorEwIw (e : RM Reg16) (iw : Word) (s : State) : Host.Outcome State Fault Refusal :=
  s.finish (s.binEw (xorOp .word) e iw)

/-- `XOR_Ew_Ibs` (43 R502). -/
def execXorEwIbs (e : RM Reg16) (ib : Byte) (s : State) : Host.Outcome State Fault Refusal :=
  s.finish (s.binEw (xorOp .word) e (sext16 ib))

/-- `TEST_Eb_Gb` (43 R503). -/
def execTestEbGb (e : RM Reg8) (g : Reg8) (s : State) : Host.Outcome State Fault Refusal :=
  s.finish (s.testEb (andOp .byte) e (s.reg8 g))

/-- `TEST_Ew_Gw` (43 R503). -/
def execTestEwGw (e : RM Reg16) (g : Reg16) (s : State) : Host.Outcome State Fault Refusal :=
  s.finish (s.testEw (andOp .word) e (s.reg g))

/-- `TEST_AL_Ib` (43 R503). -/
def execTestAlIb (ib : Byte) (s : State) : Host.Outcome State Fault Refusal :=
  s.finish (s.testEb (andOp .byte) (.reg .al) ib)

/-- `TEST_AX_Iw` (43 R503). -/
def execTestAxIw (iw : Word) (s : State) : Host.Outcome State Fault Refusal :=
  s.finish (s.testEw (andOp .word) (.reg .ax) iw)

/-- `TEST_Eb_Ib` (43 R503). -/
def execTestEbIb (e : RM Reg8) (ib : Byte) (s : State) : Host.Outcome State Fault Refusal :=
  s.finish (s.testEb (andOp .byte) e ib)

/-- `TEST_Eb_Ib__alias_of__0` (43 R503, R234). -/
def execTestEbIb1 (e : RM Reg8) (ib : Byte) (s : State) : Host.Outcome State Fault Refusal :=
  s.finish (s.testEb (andOp .byte) e ib)

/-- `NOT_Eb` (43 R504). -/
def execNotEb (e : RM Reg8) (s : State) : Host.Outcome State Fault Refusal :=
  s.finish (s.unEb notOp e)

/-- `TEST_Ew_Iw` (43 R503). -/
def execTestEwIw (e : RM Reg16) (iw : Word) (s : State) : Host.Outcome State Fault Refusal :=
  s.finish (s.testEw (andOp .word) e iw)

/-- `TEST_Ew_Iw__alias_of__0` (43 R503, R234). -/
def execTestEwIw1 (e : RM Reg16) (iw : Word) (s : State) : Host.Outcome State Fault Refusal :=
  s.finish (s.testEw (andOp .word) e iw)

/-- `NOT_Ew` (43 R504). -/
def execNotEw (e : RM Reg16) (s : State) : Host.Outcome State Fault Refusal :=
  s.finish (s.unEw notOp e)

end Sys2Proof.Machine
end

