-- ==== Sys2Proof/Machine/Prefixes.lean ====
section
/-! DEFINITION. The prefix bytes: each records itself in the decode scratch, and the step goes on with
the next byte (46_processor_control.md R759, R762, R763; 44_string.md R601). -/

namespace Sys2Proof.Machine

/-- The scratch after a prefix byte: its offset is the last prefix's (10 R26). -/
def State.prefixScratch (s : State) : Scratch := { s.scratch with lastPrefixIp := s.ip - 1 }

/-- A segment-override prefix: the last one wins (R762; 92 D34). -/
def State.withOverride (s : State) (r : SegReg) : State :=
  { s with scratch := { s.prefixScratch with override := some r } }

/-- A repeat prefix: the last one wins (44 R601; 92 D34). -/
def State.withRep (s : State) (k : RepKind) : State := { s with scratch := { s.prefixScratch with rep := some k } }

/-- LOCK only records itself (R759). -/
def State.withLock (s : State) : State := { s with scratch := { s.prefixScratch with lock := true } }

/-! ## The instructions -/

/-- `ES___prefix` (46 R762). -/
def execPrefixEs (s : State) : Host.Outcome State Fault Refusal :=
  .next (s.withOverride .es)

/-- `CS___prefix` (46 R762). -/
def execPrefixCs (s : State) : Host.Outcome State Fault Refusal :=
  .next (s.withOverride .cs)

/-- `SS___prefix` (46 R762). -/
def execPrefixSs (s : State) : Host.Outcome State Fault Refusal :=
  .next (s.withOverride .ss)

/-- `DS___prefix` (46 R762). -/
def execPrefixDs (s : State) : Host.Outcome State Fault Refusal :=
  .next (s.withOverride .ds)

/-- `LOCK__prefix` (46 R759). -/
def execPrefixLock (s : State) : Host.Outcome State Fault Refusal :=
  .next s.withLock

/-- `LOCK__prefix__alias_of_F0` (46 R759). -/
def execPrefixLockF1 (s : State) : Host.Outcome State Fault Refusal :=
  .next s.withLock

/-- `REPNE__prefix` (46 R601). -/
def execPrefixRepne (s : State) : Host.Outcome State Fault Refusal :=
  .next (s.withRep .repne)

/-- `REP_REPE__prefix` (46 R601). -/
def execPrefixRep (s : State) : Host.Outcome State Fault Refusal :=
  .next (s.withRep .rep)

end Sys2Proof.Machine
end

