-- ==== Sys2Proof/Machine/ProcessorControl.lean ====
section
/-! DEFINITION. The flag and processor control instructions (46_processor_control.md). -/

namespace Sys2Proof.Machine

/-- Bits of MSW (10 R44). -/
def mswMp : Nat := 1
def mswEm : Nat := 2
def mswTs : Nat := 3

/-- STI: NOINTR is set whether IF was set or not (R753; 92 D49). -/
def State.setIf (s : State) : Res State := do
  s.checkIopl
  return { s.setDirect ifBit true with nointr := true }

/-- CLI (R754). -/
def State.clearIf (s : State) : Res State := do
  s.checkIopl
  return s.setDirect ifBit false

/-- HLT (R758). -/
def State.halt (s : State) : Res State := do
  s.checkCpl0
  return { s with intFlags := { s.intFlags with halt := true } }

/-- Whether ESC raises #NM (R760). -/
def State.escTraps (s : State) : Bool :=
  s.cls == .c286 && (s.sys.msw.getLsbD mswEm || s.sys.msw.getLsbD mswTs)

/-- Whether WAIT raises #NM (R761). -/
def State.waitTraps (s : State) : Bool :=
  s.cls == .c286 && (s.sys.msw.getLsbD mswMp && s.sys.msw.getLsbD mswTs)

/-- ESC: the effective address is computed and nothing is accessed (R760). -/
def State.escape (s : State) (e : RM Reg16) : Res State := do
  raiseIf s.escTraps s .nm
  match e with
  | .reg _ => return s
  | .mem m => return s.noteEa (s.ea m)

/-- WAIT (R761). -/
def State.waitInstr (s : State) : Res State := do
  raiseIf s.waitTraps s .nm
  return s

/-! ## The instructions -/

/-- `ESC` (46 R760). -/
def execEsc (_n : BitVec 3) (_k : BitVec 3) (e : RM Reg16) (s : State) : Host.Outcome State Fault Refusal :=
  s.finish (s.escape e)

/-- `NOP` (46 R757). -/
def execNop (s : State) : Host.Outcome State Fault Refusal :=
  s.finish (.ok s)

/-- `WAIT` (46 R761). -/
def execWait (s : State) : Host.Outcome State Fault Refusal :=
  s.finish (s.waitInstr)

/-- `HLT` (46 R758). -/
def execHlt (s : State) : Host.Outcome State Fault Refusal :=
  s.finish (s.halt)

/-- `CMC` (46 R752). -/
def execCmc (s : State) : Host.Outcome State Fault Refusal :=
  s.finish (.ok (s.setCf (!s.flags.cf)))

/-- `CLC` (46 R750). -/
def execClc (s : State) : Host.Outcome State Fault Refusal :=
  s.finish (.ok (s.setCf false))

/-- `STC` (46 R751). -/
def execStc (s : State) : Host.Outcome State Fault Refusal :=
  s.finish (.ok (s.setCf true))

/-- `CLI` (46 R754). -/
def execCli (s : State) : Host.Outcome State Fault Refusal :=
  s.finish (s.clearIf)

/-- `STI` (46 R753). -/
def execSti (s : State) : Host.Outcome State Fault Refusal :=
  s.finish (s.setIf)

/-- `CLD` (46 R755). -/
def execCld (s : State) : Host.Outcome State Fault Refusal :=
  s.finish (.ok (s.setDirect dfBit false))

/-- `STD` (46 R756). -/
def execStd (s : State) : Host.Outcome State Fault Refusal :=
  s.finish (.ok (s.setDirect dfBit true))

end Sys2Proof.Machine
end

