-- ==== Sys2Proof/Machine/Reserved.lean ====
section
/-! DEFINITION. The encodings that are no instruction: those that raise #UD, those the spec refuses on
C86, and LOADALL (30_encoding.md R262, R270 to R273). -/

namespace Sys2Proof.Machine


/-! ## The instructions -/

/-- `#UD` (30 R272). -/
def execInvalidOpcode (s : State) : Host.Outcome State Fault Refusal :=
  s.finish (raise s .ud)

/-- `(refused)` (30 R273). -/
def execReservedC86 (_s : State) : Host.Outcome State Fault Refusal :=
  .refused .reservedEncodingC86

/-- `LOADALL__refused` (30 R262). -/
def execLoadall (_s : State) : Host.Outcome State Fault Refusal :=
  .refused .loadallUnspecified

end Sys2Proof.Machine
end

