-- ==== Sys2Proof/Machine/Shifts.lean ====
section
/-! DEFINITION. The shifts and rotates (43_logic_shift.md R510 to R519). -/

namespace Sys2Proof.Machine

/-- Group 2 on a byte: a count of 0 reads the operand and changes nothing (R510). -/
def State.shift8 (s : State) (f : Bool → Byte → Nat → Shifted 8)
    (flags : State → ResultSize → Shifted 8 → Nat → State) (e : RM Reg8) (count : Byte) : Res State := do
  let (d, t) ← s.readEb e
  if s.shiftCount count = 0 then return t
  else
    (flags t .byte (f s.flags.cf d (s.shiftCount count)) (s.shiftCount count)).writeEb e
      (f s.flags.cf d (s.shiftCount count)).r

/-- Group 2 on a word (R510). -/
def State.shift16 (s : State) (f : Bool → Word → Nat → Shifted 16)
    (flags : State → ResultSize → Shifted 16 → Nat → State) (e : RM Reg16) (count : Byte) : Res State := do
  let (d, t) ← s.readEw e
  if s.shiftCount count = 0 then return t
  else
    (flags t .word (f s.flags.cf d (s.shiftCount count)) (s.shiftCount count)).writeEw e
      (f s.flags.cf d (s.shiftCount count)).r

/-! ## The instructions -/

/-- `ROL_Eb_Ib` (43 R511). -/
def execRolEbIb (e : RM Reg8) (ib : Byte) (s : State) : Host.Outcome State Fault Refusal :=
  s.finish (s.shift8 rolResult State.setRotate e ib)

/-- `ROR_Eb_Ib` (43 R512). -/
def execRorEbIb (e : RM Reg8) (ib : Byte) (s : State) : Host.Outcome State Fault Refusal :=
  s.finish (s.shift8 rorResult State.setRotate e ib)

/-- `RCL_Eb_Ib` (43 R513). -/
def execRclEbIb (e : RM Reg8) (ib : Byte) (s : State) : Host.Outcome State Fault Refusal :=
  s.finish (s.shift8 rclResult State.setRotate e ib)

/-- `RCR_Eb_Ib` (43 R514). -/
def execRcrEbIb (e : RM Reg8) (ib : Byte) (s : State) : Host.Outcome State Fault Refusal :=
  s.finish (s.shift8 rcrResult State.setRotate e ib)

/-- `SHL_Eb_Ib` (43 R515). -/
def execShlEbIb (e : RM Reg8) (ib : Byte) (s : State) : Host.Outcome State Fault Refusal :=
  s.finish (s.shift8 shlResult State.setShift e ib)

/-- `SHR_Eb_Ib` (43 R516). -/
def execShrEbIb (e : RM Reg8) (ib : Byte) (s : State) : Host.Outcome State Fault Refusal :=
  s.finish (s.shift8 shrResult State.setShift e ib)

/-- `SAR_Eb_Ib` (43 R517). -/
def execSarEbIb (e : RM Reg8) (ib : Byte) (s : State) : Host.Outcome State Fault Refusal :=
  s.finish (s.shift8 sarResult State.setShift e ib)

/-- `ROL_Ew_Ib` (43 R511). -/
def execRolEwIb (e : RM Reg16) (ib : Byte) (s : State) : Host.Outcome State Fault Refusal :=
  s.finish (s.shift16 rolResult State.setRotate e ib)

/-- `ROR_Ew_Ib` (43 R512). -/
def execRorEwIb (e : RM Reg16) (ib : Byte) (s : State) : Host.Outcome State Fault Refusal :=
  s.finish (s.shift16 rorResult State.setRotate e ib)

/-- `RCL_Ew_Ib` (43 R513). -/
def execRclEwIb (e : RM Reg16) (ib : Byte) (s : State) : Host.Outcome State Fault Refusal :=
  s.finish (s.shift16 rclResult State.setRotate e ib)

/-- `RCR_Ew_Ib` (43 R514). -/
def execRcrEwIb (e : RM Reg16) (ib : Byte) (s : State) : Host.Outcome State Fault Refusal :=
  s.finish (s.shift16 rcrResult State.setRotate e ib)

/-- `SHL_Ew_Ib` (43 R515). -/
def execShlEwIb (e : RM Reg16) (ib : Byte) (s : State) : Host.Outcome State Fault Refusal :=
  s.finish (s.shift16 shlResult State.setShift e ib)

/-- `SHR_Ew_Ib` (43 R516). -/
def execShrEwIb (e : RM Reg16) (ib : Byte) (s : State) : Host.Outcome State Fault Refusal :=
  s.finish (s.shift16 shrResult State.setShift e ib)

/-- `SAR_Ew_Ib` (43 R517). -/
def execSarEwIb (e : RM Reg16) (ib : Byte) (s : State) : Host.Outcome State Fault Refusal :=
  s.finish (s.shift16 sarResult State.setShift e ib)

/-- `ROL_Eb_1` (43 R511). -/
def execRolEb1 (e : RM Reg8) (s : State) : Host.Outcome State Fault Refusal :=
  s.finish (s.shift8 rolResult State.setRotate e 1)

/-- `ROR_Eb_1` (43 R512). -/
def execRorEb1 (e : RM Reg8) (s : State) : Host.Outcome State Fault Refusal :=
  s.finish (s.shift8 rorResult State.setRotate e 1)

/-- `RCL_Eb_1` (43 R513). -/
def execRclEb1 (e : RM Reg8) (s : State) : Host.Outcome State Fault Refusal :=
  s.finish (s.shift8 rclResult State.setRotate e 1)

/-- `RCR_Eb_1` (43 R514). -/
def execRcrEb1 (e : RM Reg8) (s : State) : Host.Outcome State Fault Refusal :=
  s.finish (s.shift8 rcrResult State.setRotate e 1)

/-- `SHL_Eb_1` (43 R515). -/
def execShlEb1 (e : RM Reg8) (s : State) : Host.Outcome State Fault Refusal :=
  s.finish (s.shift8 shlResult State.setShift e 1)

/-- `SHR_Eb_1` (43 R516). -/
def execShrEb1 (e : RM Reg8) (s : State) : Host.Outcome State Fault Refusal :=
  s.finish (s.shift8 shrResult State.setShift e 1)

/-- `SAR_Eb_1` (43 R517). -/
def execSarEb1 (e : RM Reg8) (s : State) : Host.Outcome State Fault Refusal :=
  s.finish (s.shift8 sarResult State.setShift e 1)

/-- `ROL_Ew_1` (43 R511). -/
def execRolEw1 (e : RM Reg16) (s : State) : Host.Outcome State Fault Refusal :=
  s.finish (s.shift16 rolResult State.setRotate e 1)

/-- `ROR_Ew_1` (43 R512). -/
def execRorEw1 (e : RM Reg16) (s : State) : Host.Outcome State Fault Refusal :=
  s.finish (s.shift16 rorResult State.setRotate e 1)

/-- `RCL_Ew_1` (43 R513). -/
def execRclEw1 (e : RM Reg16) (s : State) : Host.Outcome State Fault Refusal :=
  s.finish (s.shift16 rclResult State.setRotate e 1)

/-- `RCR_Ew_1` (43 R514). -/
def execRcrEw1 (e : RM Reg16) (s : State) : Host.Outcome State Fault Refusal :=
  s.finish (s.shift16 rcrResult State.setRotate e 1)

/-- `SHL_Ew_1` (43 R515). -/
def execShlEw1 (e : RM Reg16) (s : State) : Host.Outcome State Fault Refusal :=
  s.finish (s.shift16 shlResult State.setShift e 1)

/-- `SHR_Ew_1` (43 R516). -/
def execShrEw1 (e : RM Reg16) (s : State) : Host.Outcome State Fault Refusal :=
  s.finish (s.shift16 shrResult State.setShift e 1)

/-- `SAR_Ew_1` (43 R517). -/
def execSarEw1 (e : RM Reg16) (s : State) : Host.Outcome State Fault Refusal :=
  s.finish (s.shift16 sarResult State.setShift e 1)

/-- `ROL_Eb_CL` (43 R511). -/
def execRolEbCl (e : RM Reg8) (s : State) : Host.Outcome State Fault Refusal :=
  s.finish (s.shift8 rolResult State.setRotate e (s.reg8 .cl))

/-- `ROR_Eb_CL` (43 R512). -/
def execRorEbCl (e : RM Reg8) (s : State) : Host.Outcome State Fault Refusal :=
  s.finish (s.shift8 rorResult State.setRotate e (s.reg8 .cl))

/-- `RCL_Eb_CL` (43 R513). -/
def execRclEbCl (e : RM Reg8) (s : State) : Host.Outcome State Fault Refusal :=
  s.finish (s.shift8 rclResult State.setRotate e (s.reg8 .cl))

/-- `RCR_Eb_CL` (43 R514). -/
def execRcrEbCl (e : RM Reg8) (s : State) : Host.Outcome State Fault Refusal :=
  s.finish (s.shift8 rcrResult State.setRotate e (s.reg8 .cl))

/-- `SHL_Eb_CL` (43 R515). -/
def execShlEbCl (e : RM Reg8) (s : State) : Host.Outcome State Fault Refusal :=
  s.finish (s.shift8 shlResult State.setShift e (s.reg8 .cl))

/-- `SHR_Eb_CL` (43 R516). -/
def execShrEbCl (e : RM Reg8) (s : State) : Host.Outcome State Fault Refusal :=
  s.finish (s.shift8 shrResult State.setShift e (s.reg8 .cl))

/-- `SAR_Eb_CL` (43 R517). -/
def execSarEbCl (e : RM Reg8) (s : State) : Host.Outcome State Fault Refusal :=
  s.finish (s.shift8 sarResult State.setShift e (s.reg8 .cl))

/-- `ROL_Ew_CL` (43 R511). -/
def execRolEwCl (e : RM Reg16) (s : State) : Host.Outcome State Fault Refusal :=
  s.finish (s.shift16 rolResult State.setRotate e (s.reg8 .cl))

/-- `ROR_Ew_CL` (43 R512). -/
def execRorEwCl (e : RM Reg16) (s : State) : Host.Outcome State Fault Refusal :=
  s.finish (s.shift16 rorResult State.setRotate e (s.reg8 .cl))

/-- `RCL_Ew_CL` (43 R513). -/
def execRclEwCl (e : RM Reg16) (s : State) : Host.Outcome State Fault Refusal :=
  s.finish (s.shift16 rclResult State.setRotate e (s.reg8 .cl))

/-- `RCR_Ew_CL` (43 R514). -/
def execRcrEwCl (e : RM Reg16) (s : State) : Host.Outcome State Fault Refusal :=
  s.finish (s.shift16 rcrResult State.setRotate e (s.reg8 .cl))

/-- `SHL_Ew_CL` (43 R515). -/
def execShlEwCl (e : RM Reg16) (s : State) : Host.Outcome State Fault Refusal :=
  s.finish (s.shift16 shlResult State.setShift e (s.reg8 .cl))

/-- `SHR_Ew_CL` (43 R516). -/
def execShrEwCl (e : RM Reg16) (s : State) : Host.Outcome State Fault Refusal :=
  s.finish (s.shift16 shrResult State.setShift e (s.reg8 .cl))

/-- `SAR_Ew_CL` (43 R517). -/
def execSarEwCl (e : RM Reg16) (s : State) : Host.Outcome State Fault Refusal :=
  s.finish (s.shift16 sarResult State.setShift e (s.reg8 .cl))

end Sys2Proof.Machine
end

