-- ==== Sys2Proof/Machine/Strings.lean ====
section
/-! DEFINITION. The string instructions and their repetition (44_string.md). -/

namespace Sys2Proof.Machine

/-- What is added to a pointer after an element of `n` bytes (R600). -/
def State.delta (s : State) (n : Word) : Word := if s.df then 0 - n else n

/-- Move SI past an element (R600). -/
def State.stepSi (s : State) (n : Word) : State := s.setReg .si (s.reg .si + s.delta n)

/-- Move DI past an element (R600). -/
def State.stepDi (s : State) (n : Word) : State := s.setReg .di (s.reg .di + s.delta n)

/-! ## Repetition (R601, R602) -/

/-- `rewind(delta)` (20 R149), where the ring can hold that many bytes (10 R55). -/
def Prefetch.rewind (q : Prefetch) (size delta : Nat) (off : Word) : Prefetch :=
  if q.queuedBytes + delta ≤ q.validBytes && q.queuedBytes + delta < size then
    { q with tail := (q.tail + size - delta % size) % size, queuedBytes := q.queuedBytes + delta }
  else q.flush off

/-- The restart address (R601). -/
def State.restartIp (s : State) : Word :=
  match s.cls with
  | .c86 => s.scratch.lastPrefixIp
  | .c186 => s.scratch.startIp
  | .c286 => s.scratch.startIp

/-- An iteration that leaves the repetition unfinished (R602; 92 D10): the queue goes back to the restart address
(20 R149). DESIGN CHOICE (notes/assumptions/12.md): the bytes queued after the instruction are kept in `ahead`
for the next iteration. -/
def State.suspend (s : State) (i : Instr) (k : RepKind) : State :=
  { s with
    ip := s.restartIp
    queue := s.queue.rewind (Prefetch.ringSize s.cfg.model) (s.ip - s.restartIp).toNat s.restartIp
    rep := some
      { instr := i, startIp := s.scratch.startIp, lastPrefixIp := s.scratch.lastPrefixIp,
        nextIp := s.ip, override := s.scratch.override, rep := k, lock := s.scratch.lock, ahead := s.queue } }

/-- `Terminated()` of MOVS, LODS, STOS, INS and OUTS (R602). -/
def neverStops (_ : RepKind) (_ : State) : Bool := false

/-- `Terminated()` of CMPS and SCAS (R602). -/
def zfStops (k : RepKind) (s : State) : Bool :=
  match k with
  | .rep => !s.flags.zf
  | .repne => s.flags.zf

/-- One iteration (R602). -/
def State.repeated (s : State) (i : Instr) (stops : RepKind → State → Bool) (element : State → Res State) :
    Res State :=
  match s.scratch.rep with
  | none => element s
  | some k =>
    if s.reg .cx = 0 then .ok { s with rep := none }
    else do
      let t ← element s
      let t := t.setReg .cx (s.reg .cx - 1)
      if s.reg .cx - 1 = 0 || stops k t then return { t with rep := none }
      else return t.suspend i k

/-! ## The elements (R606 to R612) -/

/-- MOVSB (R606). -/
def State.movsB (s : State) : Res State := do
  let (v, t) ← s.segRead8 (s.segOr .ds) (s.reg .si)
  let u ← t.segWrite8 .es (s.reg .di) v
  return (u.stepSi 1).stepDi 1

/-- MOVSW (R606). -/
def State.movsW (s : State) : Res State := do
  let (v, t) ← s.segRead16 (s.segOr .ds) (s.reg .si)
  let u ← t.segWrite16 .es (s.reg .di) v
  return (u.stepSi 2).stepDi 2

/-- CMPSB (R607). -/
def State.cmpsB (s : State) : Res State := do
  let (a, t) ← s.segRead8 (s.segOr .ds) (s.reg .si)
  let (b, u) ← t.segRead8 .es (s.reg .di)
  return ((u.setTriple (subTriple .byte a b false)).stepSi 1).stepDi 1

/-- CMPSW (R607). -/
def State.cmpsW (s : State) : Res State := do
  let (a, t) ← s.segRead16 (s.segOr .ds) (s.reg .si)
  let (b, u) ← t.segRead16 .es (s.reg .di)
  return ((u.setTriple (subTriple .word a b false)).stepSi 2).stepDi 2

/-- SCASB (R608). -/
def State.scasB (s : State) : Res State := do
  let (b, t) ← s.segRead8 .es (s.reg .di)
  return (t.setTriple (subTriple .byte (s.reg8 .al) b false)).stepDi 1

/-- SCASW (R608). -/
def State.scasW (s : State) : Res State := do
  let (b, t) ← s.segRead16 .es (s.reg .di)
  return (t.setTriple (subTriple .word (s.reg .ax) b false)).stepDi 2

/-- LODSB (R609). -/
def State.lodsB (s : State) : Res State := do
  let (v, t) ← s.segRead8 (s.segOr .ds) (s.reg .si)
  return (t.setReg8 .al v).stepSi 1

/-- LODSW (R609). -/
def State.lodsW (s : State) : Res State := do
  let (v, t) ← s.segRead16 (s.segOr .ds) (s.reg .si)
  return (t.setReg .ax v).stepSi 2

/-- STOSB (R610). -/
def State.stosB (s : State) : Res State := do
  let t ← s.segWrite8 .es (s.reg .di) (s.reg8 .al)
  return t.stepDi 1

/-- STOSW (R610). -/
def State.stosW (s : State) : Res State := do
  let t ← s.segWrite16 .es (s.reg .di) (s.reg .ax)
  return t.stepDi 2

/-- INSB: the write check comes before the port is read (R611). -/
def State.insB (s : State) : Res State := do
  s.checkIopl
  s.checkAccess .es (s.reg .di) 0 true
  let t ← (s.ioRead (s.reg .dx) 1).2.segWrite8 .es (s.reg .di) (loByte (s.ioRead (s.reg .dx) 1).1)
  return t.stepDi 1

/-- INSW (R611). -/
def State.insW (s : State) : Res State := do
  s.checkIopl
  s.checkAccess .es (s.reg .di) 1 true
  let t ← (s.ioRead (s.reg .dx) 2).2.segWrite16 .es (s.reg .di) (s.ioRead (s.reg .dx) 2).1
  return t.stepDi 2

/-- OUTSB (R612). -/
def State.outsB (s : State) : Res State := do
  s.checkIopl
  let (v, t) ← s.segRead8 (s.segOr .ds) (s.reg .si)
  return (t.ioWrite (s.reg .dx) 1 (zext16 v)).stepSi 1

/-- OUTSW (R612). -/
def State.outsW (s : State) : Res State := do
  s.checkIopl
  let (v, t) ← s.segRead16 (s.segOr .ds) (s.reg .si)
  return (t.ioWrite (s.reg .dx) 2 v).stepSi 2

/-! ## The instructions -/

/-- `INSB` (44 R611). -/
def execInsb (s : State) : Host.Outcome State Fault Refusal :=
  s.finish (s.repeated .insb neverStops State.insB)

/-- `INSW` (44 R611). -/
def execInsw (s : State) : Host.Outcome State Fault Refusal :=
  s.finish (s.repeated .insw neverStops State.insW)

/-- `OUTSB` (44 R612). -/
def execOutsb (s : State) : Host.Outcome State Fault Refusal :=
  s.finish (s.repeated .outsb neverStops State.outsB)

/-- `OUTSW` (44 R612). -/
def execOutsw (s : State) : Host.Outcome State Fault Refusal :=
  s.finish (s.repeated .outsw neverStops State.outsW)

/-- `MOVSB` (44 R606). -/
def execMovsb (s : State) : Host.Outcome State Fault Refusal :=
  s.finish (s.repeated .movsb neverStops State.movsB)

/-- `MOVSW` (44 R606). -/
def execMovsw (s : State) : Host.Outcome State Fault Refusal :=
  s.finish (s.repeated .movsw neverStops State.movsW)

/-- `CMPSB` (44 R607). -/
def execCmpsb (s : State) : Host.Outcome State Fault Refusal :=
  s.finish (s.repeated .cmpsb zfStops State.cmpsB)

/-- `CMPSW` (44 R607). -/
def execCmpsw (s : State) : Host.Outcome State Fault Refusal :=
  s.finish (s.repeated .cmpsw zfStops State.cmpsW)

/-- `STOSB` (44 R610). -/
def execStosb (s : State) : Host.Outcome State Fault Refusal :=
  s.finish (s.repeated .stosb neverStops State.stosB)

/-- `STOSW` (44 R610). -/
def execStosw (s : State) : Host.Outcome State Fault Refusal :=
  s.finish (s.repeated .stosw neverStops State.stosW)

/-- `LODSB` (44 R609). -/
def execLodsb (s : State) : Host.Outcome State Fault Refusal :=
  s.finish (s.repeated .lodsb neverStops State.lodsB)

/-- `LODSW` (44 R609). -/
def execLodsw (s : State) : Host.Outcome State Fault Refusal :=
  s.finish (s.repeated .lodsw neverStops State.lodsW)

/-- `SCASB` (44 R608). -/
def execScasb (s : State) : Host.Outcome State Fault Refusal :=
  s.finish (s.repeated .scasb zfStops State.scasB)

/-- `SCASW` (44 R608). -/
def execScasw (s : State) : Host.Outcome State Fault Refusal :=
  s.finish (s.repeated .scasw zfStops State.scasW)

end Sys2Proof.Machine
end

