-- ==== Sys2Proof/Machine/System.lean ====
section
/-! DEFINITION. The 80286 system instructions (47_protected_mode.md). -/

namespace Sys2Proof.Machine

/-- SLDT (R801). -/
def State.storeLdtr (s : State) (e : RM Reg16) : Res State := do
  s.checkProtected
  s.writeEw e s.sys.ldtr.selector

/-- STR (R802). -/
def State.storeTr (s : State) (e : RM Reg16) : Res State := do
  s.checkProtected
  s.writeEw e s.sys.tr.selector

/-- The load of LDTR from a selector that is not null (R803). -/
def State.ldtrFrom (s : State) (sel : Word) : Res State := do
  raiseIf (sel.getLsbD 2) s (.gp (errSel sel))
  let (d, s) ← s.fetchDesc sel
  raiseIf (!d.isSystem 2) s (.gp (errSel sel))
  raiseIf (!d.present) s (.np (errSel sel))
  return { s with sys := { s.sys with ldtr := d.sysSeg sel d.access } }

/-- LLDT (R803). -/
def State.loadLdtr (s : State) (e : RM Reg16) : Res State := do
  s.checkProtected
  s.checkCpl0
  let (sel, s) ← s.readEw e
  if s.isNull sel then return { s with sys := { s.sys with ldtr := { s.sys.ldtr with selector := sel } } }
  else s.ldtrFrom sel

/-- LTR (R804). -/
def State.loadTr (s : State) (e : RM Reg16) : Res State := do
  s.checkProtected
  s.checkCpl0
  let (sel, s) ← s.readEw e
  raiseIf (s.isNull sel) s (.gp 0)
  raiseIf (sel.getLsbD 2) s (.gp (errSel sel))
  let (d, s) ← s.fetchDesc sel
  raiseIf (!d.isSystem 1) s (.gp (errSel sel))
  raiseIf (!d.present) s (.np (errSel sel))
  let t := s.putAccess sel (d.access ||| 2)
  return { t with sys := { t.sys with tr := d.sysSeg sel (d.access ||| 2) } }

/-- The selector lookup that raises nothing (R817). -/
def State.lookup (s : State) (sel : Word) : Option Desc × State :=
  if s.isNull sel || !s.inTable sel then (none, s)
  else (some (s.readDesc (s.descAddr sel)).1, (s.readDesc (s.descAddr sel)).2)

/-- Whether the privilege test of VERR, VERW, LAR and LSL holds (R808, R814). -/
def State.mayQuery (s : State) (sel : Word) (d : Desc) : Bool :=
  d.conforming || decide (s.effPl sel ≤ d.dpl.toNat)

/-- VERR and VERW (R808, R809). -/
def State.verify (s : State) (ok : Desc → Bool) (e : RM Reg16) : Res State := do
  s.checkProtected
  let (sel, s) ← s.readEw e
  match s.lookup sel with
  | (some d, t) => return t.setZf (ok d && t.mayQuery sel d)
  | (none, t) => return t.setZf false

/-- The descriptors LAR accepts (R814). -/
def larTypes (d : Desc) : Bool :=
  accCodeOrData d.access || (1 ≤ (accType d.access).toNat && (accType d.access).toNat ≤ 5)

/-- The descriptors LSL accepts (R815). -/
def lslTypes (d : Desc) : Bool :=
  accCodeOrData d.access || (1 ≤ (accType d.access).toNat && (accType d.access).toNat ≤ 3)

/-- LAR and LSL (R814, R815). -/
def State.accessQuery (s : State) (types : Desc → Bool) (value : Desc → Word) (g : Reg16) (e : RM Reg16) :
    Res State := do
  s.checkProtected
  let (sel, s) ← s.readEw e
  match s.lookup sel with
  | (some d, t) =>
    if types d && t.mayQuery sel d then return (t.setReg g (value d)).setZf true
    else return t.setZf false
  | (none, t) => return t.setZf false

/-- ARPL: a memory operand is checked for writing even when it is not written (R816). -/
def State.adjustRpl (s : State) (e : RM Reg16) (g : Reg16) : Res State := do
  s.checkProtected
  let (d, t) ← s.readEw e
  if (rpl d).toNat < (rpl (s.reg g)).toNat then do
    let u ← t.writeEw e (errSel d ||| (rpl (s.reg g)).setWidth 16)
    return u.setZf true
  else do
    match e with
    | .reg _ => return t.setZf false
    | .mem m => do
      t.checkAccess (t.opSeg m) (t.ea m) 1 true
      return t.setZf false

/-- SGDT and SIDT: the whole image is checked first (R810, R811; 92 D41). An image that passes offset 0xFFFF in a
segment whose limit lies above it goes on at the segment's start: EA+2, EA+4 and EA+5 are modulo 2^16 (00 R8; DESIGN
CHOICE against 20 R114, R116: notes/assumptions/35.md). -/
def State.storeTable (s : State) (r : TableReg) (m : MemRef) : Res State := do
  let t := (s.noteEa (s.ea m)).noteWrite (s.ea m)
  t.checkAccess (s.opSeg m) (s.ea m) 5 true
  let t ← t.segWrite16 (s.opSeg m) (s.ea m) r.limit
  let t ← t.segWrite16 (s.opSeg m) (s.ea m + 2) (r.base.extractLsb' 0 16)
  let t ← t.segWrite8 (s.opSeg m) (s.ea m + 4) (r.base.extractLsb' 16 8)
  t.segWrite8 (s.opSeg m) (s.ea m + 5) 0xFF

/-- The five bytes LGDT and LIDT read (R812; 92 D41), EA+2 and EA+4 modulo 2^16 as in `State.storeTable` (DESIGN
CHOICE, notes/assumptions/35.md). -/
def State.readTable (s : State) (m : MemRef) : Res (TableReg × State) := do
  let t := s.noteEa (s.ea m)
  t.checkAccess (s.opSeg m) (s.ea m) 4 false
  let (lim, t) ← t.segRead16 (s.opSeg m) (s.ea m)
  let (lo, t) ← t.segRead16 (s.opSeg m) (s.ea m + 2)
  let (hi, t) ← t.segRead8 (s.opSeg m) (s.ea m + 4)
  return ({ base := hi ++ lo, limit := lim }, t)

/-- LGDT (R812). -/
def State.loadGdtr (s : State) (m : MemRef) : Res State := do
  s.checkCpl0
  let (r, t) ← s.readTable m
  return { t with sys := { t.sys with gdtr := r } }

/-- LIDT (R813). -/
def State.loadIdtr (s : State) (m : MemRef) : Res State := do
  s.checkCpl0
  let (r, t) ← s.readTable m
  return { t with sys := { t.sys with idtr := r } }

/-- LMSW: PE cannot be cleared (R806; 92 D40). -/
def State.loadMsw (s : State) (e : RM Reg16) : Res State := do
  s.checkCpl0
  let (v, t) ← s.readEw e
  return { t with sys := { t.sys with msw := (t.sys.msw &&& 0xFFF1) ||| (v &&& 0x000F) } }

/-- CLTS (R807). -/
def State.clearTs (s : State) : Res State := do
  s.checkCpl0
  return { s with sys := { s.sys with msw := s.sys.msw &&& 0xFFF7 } }

/-! ## The instructions -/

/-- `ARPL_Ew_Gw` (47 R816). -/
def execArplEwGw (e : RM Reg16) (g : Reg16) (s : State) : Host.Outcome State Fault Refusal :=
  s.finish (s.adjustRpl e g)

/-- `SLDT_Ew` (47 R801). -/
def execSldtEw (e : RM Reg16) (s : State) : Host.Outcome State Fault Refusal :=
  s.finish (s.storeLdtr e)

/-- `STR_Ew` (47 R802). -/
def execStrEw (e : RM Reg16) (s : State) : Host.Outcome State Fault Refusal :=
  s.finish (s.storeTr e)

/-- `LLDT_Ew` (47 R803). -/
def execLldtEw (e : RM Reg16) (s : State) : Host.Outcome State Fault Refusal :=
  s.finish (s.loadLdtr e)

/-- `LTR_Ew` (47 R804). -/
def execLtrEw (e : RM Reg16) (s : State) : Host.Outcome State Fault Refusal :=
  s.finish (s.loadTr e)

/-- `VERR_Ew` (47 R808). -/
def execVerrEw (e : RM Reg16) (s : State) : Host.Outcome State Fault Refusal :=
  s.finish (s.verify (fun d => d.readable) e)

/-- `VERW_Ew` (47 R809). -/
def execVerwEw (e : RM Reg16) (s : State) : Host.Outcome State Fault Refusal :=
  s.finish (s.verify (fun d => d.writable) e)

/-- `SGDT_Ms` (47 R810). -/
def execSgdtMs (m : MemRef) (s : State) : Host.Outcome State Fault Refusal :=
  s.finish (s.storeTable s.sys.gdtr m)

/-- `SIDT_Ms` (47 R811). -/
def execSidtMs (m : MemRef) (s : State) : Host.Outcome State Fault Refusal :=
  s.finish (s.storeTable s.sys.idtr m)

/-- `LGDT_Ms` (47 R812). -/
def execLgdtMs (m : MemRef) (s : State) : Host.Outcome State Fault Refusal :=
  s.finish (s.loadGdtr m)

/-- `LIDT_Ms` (47 R813). -/
def execLidtMs (m : MemRef) (s : State) : Host.Outcome State Fault Refusal :=
  s.finish (s.loadIdtr m)

/-- `SMSW_Ew` (47 R805). -/
def execSmswEw (e : RM Reg16) (s : State) : Host.Outcome State Fault Refusal :=
  s.finish (s.writeEw e s.sys.msw)

/-- `LMSW_Ew` (47 R806). -/
def execLmswEw (e : RM Reg16) (s : State) : Host.Outcome State Fault Refusal :=
  s.finish (s.loadMsw e)

/-- `LAR_Gw_Ew` (47 R814). -/
def execLarGwEw (e : RM Reg16) (g : Reg16) (s : State) : Host.Outcome State Fault Refusal :=
  s.finish (s.accessQuery larTypes (fun d => mkWord 0 d.access) g e)

/-- `LSL_Gw_Ew` (47 R815). -/
def execLslGwEw (e : RM Reg16) (g : Reg16) (s : State) : Host.Outcome State Fault Refusal :=
  s.finish (s.accessQuery lslTypes (fun d => d.lo) g e)

/-- `CLTS` (47 R807). -/
def execClts (s : State) : Host.Outcome State Fault Refusal :=
  s.finish (s.clearTs)

end Sys2Proof.Machine
end

