-- ==== Sys2Proof/Machine/Dispatch.lean ====
section
/-! DEFINITION. One arm for each constructor of Instr. -/

namespace Sys2Proof.Machine

def exec (i : Instr) (s : State) : Host.Outcome State Fault Refusal :=
  match i with
  | .addEbGb e g => Sys2Proof.Machine.execAddEbGb e g s
  | .addEwGw e g => Sys2Proof.Machine.execAddEwGw e g s
  | .addGbEb e g => Sys2Proof.Machine.execAddGbEb e g s
  | .addGwEw e g => Sys2Proof.Machine.execAddGwEw e g s
  | .addAlIb ib => Sys2Proof.Machine.execAddAlIb ib s
  | .addAxIw iw => Sys2Proof.Machine.execAddAxIw iw s
  | .addEbIb _ e ib => Sys2Proof.Machine.execAddEbIb e ib s
  | .addEwIw e iw => Sys2Proof.Machine.execAddEwIw e iw s
  | .addEwIbs e ib => Sys2Proof.Machine.execAddEwIbs e ib s
  | .orEbGb e g => Sys2Proof.Machine.execOrEbGb e g s
  | .orEwGw e g => Sys2Proof.Machine.execOrEwGw e g s
  | .orGbEb e g => Sys2Proof.Machine.execOrGbEb e g s
  | .orGwEw e g => Sys2Proof.Machine.execOrGwEw e g s
  | .orAlIb ib => Sys2Proof.Machine.execOrAlIb ib s
  | .orAxIw iw => Sys2Proof.Machine.execOrAxIw iw s
  | .orEbIb _ e ib => Sys2Proof.Machine.execOrEbIb e ib s
  | .orEwIw e iw => Sys2Proof.Machine.execOrEwIw e iw s
  | .orEwIbs e ib => Sys2Proof.Machine.execOrEwIbs e ib s
  | .adcEbGb e g => Sys2Proof.Machine.execAdcEbGb e g s
  | .adcEwGw e g => Sys2Proof.Machine.execAdcEwGw e g s
  | .adcGbEb e g => Sys2Proof.Machine.execAdcGbEb e g s
  | .adcGwEw e g => Sys2Proof.Machine.execAdcGwEw e g s
  | .adcAlIb ib => Sys2Proof.Machine.execAdcAlIb ib s
  | .adcAxIw iw => Sys2Proof.Machine.execAdcAxIw iw s
  | .adcEbIb _ e ib => Sys2Proof.Machine.execAdcEbIb e ib s
  | .adcEwIw e iw => Sys2Proof.Machine.execAdcEwIw e iw s
  | .adcEwIbs e ib => Sys2Proof.Machine.execAdcEwIbs e ib s
  | .sbbEbGb e g => Sys2Proof.Machine.execSbbEbGb e g s
  | .sbbEwGw e g => Sys2Proof.Machine.execSbbEwGw e g s
  | .sbbGbEb e g => Sys2Proof.Machine.execSbbGbEb e g s
  | .sbbGwEw e g => Sys2Proof.Machine.execSbbGwEw e g s
  | .sbbAlIb ib => Sys2Proof.Machine.execSbbAlIb ib s
  | .sbbAxIw iw => Sys2Proof.Machine.execSbbAxIw iw s
  | .sbbEbIb _ e ib => Sys2Proof.Machine.execSbbEbIb e ib s
  | .sbbEwIw e iw => Sys2Proof.Machine.execSbbEwIw e iw s
  | .sbbEwIbs e ib => Sys2Proof.Machine.execSbbEwIbs e ib s
  | .andEbGb e g => Sys2Proof.Machine.execAndEbGb e g s
  | .andEwGw e g => Sys2Proof.Machine.execAndEwGw e g s
  | .andGbEb e g => Sys2Proof.Machine.execAndGbEb e g s
  | .andGwEw e g => Sys2Proof.Machine.execAndGwEw e g s
  | .andAlIb ib => Sys2Proof.Machine.execAndAlIb ib s
  | .andAxIw iw => Sys2Proof.Machine.execAndAxIw iw s
  | .andEbIb _ e ib => Sys2Proof.Machine.execAndEbIb e ib s
  | .andEwIw e iw => Sys2Proof.Machine.execAndEwIw e iw s
  | .andEwIbs e ib => Sys2Proof.Machine.execAndEwIbs e ib s
  | .subEbGb e g => Sys2Proof.Machine.execSubEbGb e g s
  | .subEwGw e g => Sys2Proof.Machine.execSubEwGw e g s
  | .subGbEb e g => Sys2Proof.Machine.execSubGbEb e g s
  | .subGwEw e g => Sys2Proof.Machine.execSubGwEw e g s
  | .subAlIb ib => Sys2Proof.Machine.execSubAlIb ib s
  | .subAxIw iw => Sys2Proof.Machine.execSubAxIw iw s
  | .subEbIb _ e ib => Sys2Proof.Machine.execSubEbIb e ib s
  | .subEwIw e iw => Sys2Proof.Machine.execSubEwIw e iw s
  | .subEwIbs e ib => Sys2Proof.Machine.execSubEwIbs e ib s
  | .xorEbGb e g => Sys2Proof.Machine.execXorEbGb e g s
  | .xorEwGw e g => Sys2Proof.Machine.execXorEwGw e g s
  | .xorGbEb e g => Sys2Proof.Machine.execXorGbEb e g s
  | .xorGwEw e g => Sys2Proof.Machine.execXorGwEw e g s
  | .xorAlIb ib => Sys2Proof.Machine.execXorAlIb ib s
  | .xorAxIw iw => Sys2Proof.Machine.execXorAxIw iw s
  | .xorEbIb _ e ib => Sys2Proof.Machine.execXorEbIb e ib s
  | .xorEwIw e iw => Sys2Proof.Machine.execXorEwIw e iw s
  | .xorEwIbs e ib => Sys2Proof.Machine.execXorEwIbs e ib s
  | .cmpEbGb e g => Sys2Proof.Machine.execCmpEbGb e g s
  | .cmpEwGw e g => Sys2Proof.Machine.execCmpEwGw e g s
  | .cmpGbEb e g => Sys2Proof.Machine.execCmpGbEb e g s
  | .cmpGwEw e g => Sys2Proof.Machine.execCmpGwEw e g s
  | .cmpAlIb ib => Sys2Proof.Machine.execCmpAlIb ib s
  | .cmpAxIw iw => Sys2Proof.Machine.execCmpAxIw iw s
  | .cmpEbIb _ e ib => Sys2Proof.Machine.execCmpEbIb e ib s
  | .cmpEwIw e iw => Sys2Proof.Machine.execCmpEwIw e iw s
  | .cmpEwIbs e ib => Sys2Proof.Machine.execCmpEwIbs e ib s
  | .incR16 r => Sys2Proof.Machine.execIncR16 r s
  | .decR16 r => Sys2Proof.Machine.execDecR16 r s
  | .pushR16 r => Sys2Proof.Machine.execPushR16 r s
  | .popR16 r => Sys2Proof.Machine.execPopR16 r s
  | .boundGwMa m g => Sys2Proof.Machine.execBoundGwMa m g s
  | .arplEwGw e g => Sys2Proof.Machine.execArplEwGw e g s
  | .pushIw iw => Sys2Proof.Machine.execPushIw iw s
  | .imulGwEwIw e g iw => Sys2Proof.Machine.execImulGwEwIw e g iw s
  | .pushIbs ib => Sys2Proof.Machine.execPushIbs ib s
  | .imulGwEwIbs e g ib => Sys2Proof.Machine.execImulGwEwIbs e g ib s
  | .joJb ib => Sys2Proof.Machine.execJoJb ib s
  | .jnoJb ib => Sys2Proof.Machine.execJnoJb ib s
  | .jbJb ib => Sys2Proof.Machine.execJbJb ib s
  | .jnbJb ib => Sys2Proof.Machine.execJnbJb ib s
  | .jzJb ib => Sys2Proof.Machine.execJzJb ib s
  | .jnzJb ib => Sys2Proof.Machine.execJnzJb ib s
  | .jbeJb ib => Sys2Proof.Machine.execJbeJb ib s
  | .jaJb ib => Sys2Proof.Machine.execJaJb ib s
  | .jsJb ib => Sys2Proof.Machine.execJsJb ib s
  | .jnsJb ib => Sys2Proof.Machine.execJnsJb ib s
  | .jpJb ib => Sys2Proof.Machine.execJpJb ib s
  | .jnpJb ib => Sys2Proof.Machine.execJnpJb ib s
  | .jlJb ib => Sys2Proof.Machine.execJlJb ib s
  | .jgeJb ib => Sys2Proof.Machine.execJgeJb ib s
  | .jleJb ib => Sys2Proof.Machine.execJleJb ib s
  | .jgJb ib => Sys2Proof.Machine.execJgJb ib s
  | .joJb60 ib => Sys2Proof.Machine.execJoJb60 ib s
  | .jnoJb61 ib => Sys2Proof.Machine.execJnoJb61 ib s
  | .jbJb62 ib => Sys2Proof.Machine.execJbJb62 ib s
  | .jnbJb63 ib => Sys2Proof.Machine.execJnbJb63 ib s
  | .jzJb64 ib => Sys2Proof.Machine.execJzJb64 ib s
  | .jnzJb65 ib => Sys2Proof.Machine.execJnzJb65 ib s
  | .jbeJb66 ib => Sys2Proof.Machine.execJbeJb66 ib s
  | .jaJb67 ib => Sys2Proof.Machine.execJaJb67 ib s
  | .jsJb68 ib => Sys2Proof.Machine.execJsJb68 ib s
  | .jnsJb69 ib => Sys2Proof.Machine.execJnsJb69 ib s
  | .jpJb6A ib => Sys2Proof.Machine.execJpJb6A ib s
  | .jnpJb6B ib => Sys2Proof.Machine.execJnpJb6B ib s
  | .jlJb6C ib => Sys2Proof.Machine.execJlJb6C ib s
  | .jgeJb6D ib => Sys2Proof.Machine.execJgeJb6D ib s
  | .jleJb6E ib => Sys2Proof.Machine.execJleJb6E ib s
  | .jgJb6F ib => Sys2Proof.Machine.execJgJb6F ib s
  | .testEbGb e g => Sys2Proof.Machine.execTestEbGb e g s
  | .testEwGw e g => Sys2Proof.Machine.execTestEwGw e g s
  | .xchgEbGb e g => Sys2Proof.Machine.execXchgEbGb e g s
  | .xchgEwGw e g => Sys2Proof.Machine.execXchgEwGw e g s
  | .movEbGb e g => Sys2Proof.Machine.execMovEbGb e g s
  | .movEwGw e g => Sys2Proof.Machine.execMovEwGw e g s
  | .movGbEb e g => Sys2Proof.Machine.execMovGbEb e g s
  | .movGwEw e g => Sys2Proof.Machine.execMovGwEw e g s
  | .movEwSw e sr => Sys2Proof.Machine.execMovEwSw e sr s
  | .movEwSwHigh e sr => Sys2Proof.Machine.execMovEwSwHigh e sr s
  | .leaGwM m g => Sys2Proof.Machine.execLeaGwM m g s
  | .movSwEw e sr => Sys2Proof.Machine.execMovSwEw e sr s
  | .movCsEw e => Sys2Proof.Machine.execMovCsEw e s
  | .movSwEwHigh e sr => Sys2Proof.Machine.execMovSwEwHigh e sr s
  | .popEw e => Sys2Proof.Machine.execPopEw e s
  | .callAp off sel => Sys2Proof.Machine.execCallAp off sel s
  | .movAlOb off => Sys2Proof.Machine.execMovAlOb off s
  | .movAxOw off => Sys2Proof.Machine.execMovAxOw off s
  | .movObAl off => Sys2Proof.Machine.execMovObAl off s
  | .movOwAx off => Sys2Proof.Machine.execMovOwAx off s
  | .testAlIb ib => Sys2Proof.Machine.execTestAlIb ib s
  | .testAxIw iw => Sys2Proof.Machine.execTestAxIw iw s
  | .movR8Ib r ib => Sys2Proof.Machine.execMovR8Ib r ib s
  | .movR16Iw r iw => Sys2Proof.Machine.execMovR16Iw r iw s
  | .rolEbIb e ib => Sys2Proof.Machine.execRolEbIb e ib s
  | .rorEbIb e ib => Sys2Proof.Machine.execRorEbIb e ib s
  | .rclEbIb e ib => Sys2Proof.Machine.execRclEbIb e ib s
  | .rcrEbIb e ib => Sys2Proof.Machine.execRcrEbIb e ib s
  | .shlEbIb e ib => Sys2Proof.Machine.execShlEbIb e ib s
  | .shrEbIb e ib => Sys2Proof.Machine.execShrEbIb e ib s
  | .sarEbIb e ib => Sys2Proof.Machine.execSarEbIb e ib s
  | .rolEwIb e ib => Sys2Proof.Machine.execRolEwIb e ib s
  | .rorEwIb e ib => Sys2Proof.Machine.execRorEwIb e ib s
  | .rclEwIb e ib => Sys2Proof.Machine.execRclEwIb e ib s
  | .rcrEwIb e ib => Sys2Proof.Machine.execRcrEwIb e ib s
  | .shlEwIb e ib => Sys2Proof.Machine.execShlEwIb e ib s
  | .shrEwIb e ib => Sys2Proof.Machine.execShrEwIb e ib s
  | .sarEwIb e ib => Sys2Proof.Machine.execSarEwIb e ib s
  | .rolEb1 e => Sys2Proof.Machine.execRolEb1 e s
  | .rorEb1 e => Sys2Proof.Machine.execRorEb1 e s
  | .rclEb1 e => Sys2Proof.Machine.execRclEb1 e s
  | .rcrEb1 e => Sys2Proof.Machine.execRcrEb1 e s
  | .shlEb1 e => Sys2Proof.Machine.execShlEb1 e s
  | .shrEb1 e => Sys2Proof.Machine.execShrEb1 e s
  | .sarEb1 e => Sys2Proof.Machine.execSarEb1 e s
  | .rolEw1 e => Sys2Proof.Machine.execRolEw1 e s
  | .rorEw1 e => Sys2Proof.Machine.execRorEw1 e s
  | .rclEw1 e => Sys2Proof.Machine.execRclEw1 e s
  | .rcrEw1 e => Sys2Proof.Machine.execRcrEw1 e s
  | .shlEw1 e => Sys2Proof.Machine.execShlEw1 e s
  | .shrEw1 e => Sys2Proof.Machine.execShrEw1 e s
  | .sarEw1 e => Sys2Proof.Machine.execSarEw1 e s
  | .rolEbCl e => Sys2Proof.Machine.execRolEbCl e s
  | .rorEbCl e => Sys2Proof.Machine.execRorEbCl e s
  | .rclEbCl e => Sys2Proof.Machine.execRclEbCl e s
  | .rcrEbCl e => Sys2Proof.Machine.execRcrEbCl e s
  | .shlEbCl e => Sys2Proof.Machine.execShlEbCl e s
  | .shrEbCl e => Sys2Proof.Machine.execShrEbCl e s
  | .sarEbCl e => Sys2Proof.Machine.execSarEbCl e s
  | .rolEwCl e => Sys2Proof.Machine.execRolEwCl e s
  | .rorEwCl e => Sys2Proof.Machine.execRorEwCl e s
  | .rclEwCl e => Sys2Proof.Machine.execRclEwCl e s
  | .rcrEwCl e => Sys2Proof.Machine.execRcrEwCl e s
  | .shlEwCl e => Sys2Proof.Machine.execShlEwCl e s
  | .shrEwCl e => Sys2Proof.Machine.execShrEwCl e s
  | .sarEwCl e => Sys2Proof.Machine.execSarEwCl e s
  | .retIwC0 iw => Sys2Proof.Machine.execRetIwC0 iw s
  | .retIw iw => Sys2Proof.Machine.execRetIw iw s
  | .lesGwMp m g => Sys2Proof.Machine.execLesGwMp m g s
  | .ldsGwMp m g => Sys2Proof.Machine.execLdsGwMp m g s
  | .movEbIb e ib => Sys2Proof.Machine.execMovEbIb e ib s
  | .movEwIw e iw => Sys2Proof.Machine.execMovEwIw e iw s
  | .enterIwIb iw lev => Sys2Proof.Machine.execEnterIwIb iw lev s
  | .retfIwC8 iw => Sys2Proof.Machine.execRetfIwC8 iw s
  | .retfIw iw => Sys2Proof.Machine.execRetfIw iw s
  | .intIb ib => Sys2Proof.Machine.execIntIb ib s
  | .aamIb ib => Sys2Proof.Machine.execAamIb ib s
  | .aadIb ib => Sys2Proof.Machine.execAadIb ib s
  | .esc n k e => Sys2Proof.Machine.execEsc n k e s
  | .loopnzJb ib => Sys2Proof.Machine.execLoopnzJb ib s
  | .loopzJb ib => Sys2Proof.Machine.execLoopzJb ib s
  | .loopJb ib => Sys2Proof.Machine.execLoopJb ib s
  | .jcxzJb ib => Sys2Proof.Machine.execJcxzJb ib s
  | .inAlIb ib => Sys2Proof.Machine.execInAlIb ib s
  | .inAxIb ib => Sys2Proof.Machine.execInAxIb ib s
  | .outIbAl ib => Sys2Proof.Machine.execOutIbAl ib s
  | .outIbAx ib => Sys2Proof.Machine.execOutIbAx ib s
  | .callJw iw => Sys2Proof.Machine.execCallJw iw s
  | .jmpJw iw => Sys2Proof.Machine.execJmpJw iw s
  | .jmpAp off sel => Sys2Proof.Machine.execJmpAp off sel s
  | .jmpJb ib => Sys2Proof.Machine.execJmpJb ib s
  | .testEbIb e ib => Sys2Proof.Machine.execTestEbIb e ib s
  | .testEbIb1 e ib => Sys2Proof.Machine.execTestEbIb1 e ib s
  | .notEb e => Sys2Proof.Machine.execNotEb e s
  | .negEb e => Sys2Proof.Machine.execNegEb e s
  | .mulEb e => Sys2Proof.Machine.execMulEb e s
  | .imulEb e => Sys2Proof.Machine.execImulEb e s
  | .divEb e => Sys2Proof.Machine.execDivEb e s
  | .idivEb e => Sys2Proof.Machine.execIdivEb e s
  | .testEwIw e iw => Sys2Proof.Machine.execTestEwIw e iw s
  | .testEwIw1 e iw => Sys2Proof.Machine.execTestEwIw1 e iw s
  | .notEw e => Sys2Proof.Machine.execNotEw e s
  | .negEw e => Sys2Proof.Machine.execNegEw e s
  | .mulEw e => Sys2Proof.Machine.execMulEw e s
  | .imulEw e => Sys2Proof.Machine.execImulEw e s
  | .divEw e => Sys2Proof.Machine.execDivEw e s
  | .idivEw e => Sys2Proof.Machine.execIdivEw e s
  | .incEb e => Sys2Proof.Machine.execIncEb e s
  | .decEb e => Sys2Proof.Machine.execDecEb e s
  | .incEw e => Sys2Proof.Machine.execIncEw e s
  | .decEw e => Sys2Proof.Machine.execDecEw e s
  | .callEw e => Sys2Proof.Machine.execCallEw e s
  | .callMp m => Sys2Proof.Machine.execCallMp m s
  | .jmpEw e => Sys2Proof.Machine.execJmpEw e s
  | .jmpMp m => Sys2Proof.Machine.execJmpMp m s
  | .pushEw e => Sys2Proof.Machine.execPushEw e s
  | .sldtEw e => Sys2Proof.Machine.execSldtEw e s
  | .strEw e => Sys2Proof.Machine.execStrEw e s
  | .lldtEw e => Sys2Proof.Machine.execLldtEw e s
  | .ltrEw e => Sys2Proof.Machine.execLtrEw e s
  | .verrEw e => Sys2Proof.Machine.execVerrEw e s
  | .verwEw e => Sys2Proof.Machine.execVerwEw e s
  | .sgdtMs m => Sys2Proof.Machine.execSgdtMs m s
  | .sidtMs m => Sys2Proof.Machine.execSidtMs m s
  | .lgdtMs m => Sys2Proof.Machine.execLgdtMs m s
  | .lidtMs m => Sys2Proof.Machine.execLidtMs m s
  | .smswEw e => Sys2Proof.Machine.execSmswEw e s
  | .lmswEw e => Sys2Proof.Machine.execLmswEw e s
  | .larGwEw e g => Sys2Proof.Machine.execLarGwEw e g s
  | .lslGwEw e g => Sys2Proof.Machine.execLslGwEw e g s
  | .pushEs => Sys2Proof.Machine.execPushEs s
  | .popEs => Sys2Proof.Machine.execPopEs s
  | .pushCs => Sys2Proof.Machine.execPushCs s
  | .pushSs => Sys2Proof.Machine.execPushSs s
  | .popSs => Sys2Proof.Machine.execPopSs s
  | .pushDs => Sys2Proof.Machine.execPushDs s
  | .popDs => Sys2Proof.Machine.execPopDs s
  | .popCs => Sys2Proof.Machine.execPopCs s
  | .invalidOpcode => Sys2Proof.Machine.execInvalidOpcode s
  | .prefixEs => Sys2Proof.Machine.execPrefixEs s
  | .prefixCs => Sys2Proof.Machine.execPrefixCs s
  | .prefixSs => Sys2Proof.Machine.execPrefixSs s
  | .prefixDs => Sys2Proof.Machine.execPrefixDs s
  | .prefixLock => Sys2Proof.Machine.execPrefixLock s
  | .prefixLockF1 => Sys2Proof.Machine.execPrefixLockF1 s
  | .prefixRepne => Sys2Proof.Machine.execPrefixRepne s
  | .prefixRep => Sys2Proof.Machine.execPrefixRep s
  | .daa => Sys2Proof.Machine.execDaa s
  | .das => Sys2Proof.Machine.execDas s
  | .aaa => Sys2Proof.Machine.execAaa s
  | .aas => Sys2Proof.Machine.execAas s
  | .pushSp => Sys2Proof.Machine.execPushSp s
  | .pusha => Sys2Proof.Machine.execPusha s
  | .popa => Sys2Proof.Machine.execPopa s
  | .insb => Sys2Proof.Machine.execInsb s
  | .insw => Sys2Proof.Machine.execInsw s
  | .outsb => Sys2Proof.Machine.execOutsb s
  | .outsw => Sys2Proof.Machine.execOutsw s
  | .reservedC86 => Sys2Proof.Machine.execReservedC86 s
  | .nop => Sys2Proof.Machine.execNop s
  | .xchgAxCx => Sys2Proof.Machine.execXchgAxCx s
  | .xchgAxDx => Sys2Proof.Machine.execXchgAxDx s
  | .xchgAxBx => Sys2Proof.Machine.execXchgAxBx s
  | .xchgAxSp => Sys2Proof.Machine.execXchgAxSp s
  | .xchgAxBp => Sys2Proof.Machine.execXchgAxBp s
  | .xchgAxSi => Sys2Proof.Machine.execXchgAxSi s
  | .xchgAxDi => Sys2Proof.Machine.execXchgAxDi s
  | .cbw => Sys2Proof.Machine.execCbw s
  | .cwd => Sys2Proof.Machine.execCwd s
  | .wait => Sys2Proof.Machine.execWait s
  | .pushf => Sys2Proof.Machine.execPushf s
  | .popf => Sys2Proof.Machine.execPopf s
  | .sahf => Sys2Proof.Machine.execSahf s
  | .lahf => Sys2Proof.Machine.execLahf s
  | .movsb => Sys2Proof.Machine.execMovsb s
  | .movsw => Sys2Proof.Machine.execMovsw s
  | .cmpsb => Sys2Proof.Machine.execCmpsb s
  | .cmpsw => Sys2Proof.Machine.execCmpsw s
  | .stosb => Sys2Proof.Machine.execStosb s
  | .stosw => Sys2Proof.Machine.execStosw s
  | .lodsb => Sys2Proof.Machine.execLodsb s
  | .lodsw => Sys2Proof.Machine.execLodsw s
  | .scasb => Sys2Proof.Machine.execScasb s
  | .scasw => Sys2Proof.Machine.execScasw s
  | .retC1 => Sys2Proof.Machine.execRetC1 s
  | .ret => Sys2Proof.Machine.execRet s
  | .leave => Sys2Proof.Machine.execLeave s
  | .retfC9 => Sys2Proof.Machine.execRetfC9 s
  | .retf => Sys2Proof.Machine.execRetf s
  | .int3 => Sys2Proof.Machine.execInt3 s
  | .into => Sys2Proof.Machine.execInto s
  | .iret => Sys2Proof.Machine.execIret s
  | .salc => Sys2Proof.Machine.execSalc s
  | .xlat => Sys2Proof.Machine.execXlat s
  | .inAlDx => Sys2Proof.Machine.execInAlDx s
  | .inAxDx => Sys2Proof.Machine.execInAxDx s
  | .outDxAl => Sys2Proof.Machine.execOutDxAl s
  | .outDxAx => Sys2Proof.Machine.execOutDxAx s
  | .hlt => Sys2Proof.Machine.execHlt s
  | .cmc => Sys2Proof.Machine.execCmc s
  | .clc => Sys2Proof.Machine.execClc s
  | .stc => Sys2Proof.Machine.execStc s
  | .cli => Sys2Proof.Machine.execCli s
  | .sti => Sys2Proof.Machine.execSti s
  | .cld => Sys2Proof.Machine.execCld s
  | .std => Sys2Proof.Machine.execStd s
  | .pushSpFF => Sys2Proof.Machine.execPushSpFF s
  | .loadall => Sys2Proof.Machine.execLoadall s
  | .clts => Sys2Proof.Machine.execClts s

end Sys2Proof.Machine
end

