-- ==== Sys2Proof/Machine/Events.lean ====
section
/-! DEFINITION. The event check of an instruction boundary (60_exceptions.md R900 to R906). -/

namespace Sys2Proof.Machine

/-- Whether any event is pending (R900). -/
def State.anyPending (s : State) : Bool :=
  s.intFlags.intr || s.intFlags.trap || s.intFlags.halt || s.intFlags.dma

/-- Deliver a hardware interrupt; a fault inside its delivery is delivered as itself (R904, R970). -/
def State.deliverHardware (s : State) (v : Byte) : State :=
  match s.deliver v false s.ip none with
  | .ok t => t
  | .error r => (s.undo r.seen).takeException s.ip r.exc

/-- The INTR test (R902; 92 D11): whether an interrupt was acknowledged. -/
def State.takeIntr (s : State) : Bool × State :=
  match s.pic with
  | (.vector v, t) =>
    (true, ({ t with intFlags := { t.intFlags with intr := false, halt := false } } : State).deliverHardware v)
  | (.spurious, t) => (false, { t with intFlags := { t.intFlags with intr := false } })
  | (.noInterrupt, t) => (false, t)

/-- The single-step trap (R902, R905). -/
def State.takeTrap (s : State) : State :=
  let t : State := { s with intFlags := { s.intFlags with trap := false } }
  t.takeException t.ip .db

/-- The DMA tick (R906). -/
def State.tickDma (s : State) : State :=
  if s.dma.1 then s.dma.2 else { s.dma.2 with intFlags := { s.dma.2.intFlags with dma := false } }

/-- Whether TRAP is tested before INTR (R902; 92 D55). -/
def State.trapFirst (s : State) : Bool := s.cls == .c286 && s.cfg.trapPriority == .trapFirst

/-- `checkINTR()` (R902): whether an event was taken. NOINTR is tested before it (R900). -/
def State.checkIntr (s : State) : Bool × State :=
  if s.trapFirst && s.intFlags.trap then (true, s.takeTrap)
  else if s.intFlags.intr && s.ifl then s.takeIntr
  else if s.intFlags.trap then (true, s.takeTrap)
  else if s.intFlags.dma then (false, s.tickDma)
  else (false, s)

/-- The scratch of a boundary, with the carried prefixes of an unfinished repetition (R900, 10 R51). -/
def State.boundaryScratch (s : State) : State :=
  { s with scratch :=
      match s.rep with
      | none => .atBoundary s.ip
      | some p => { Scratch.atBoundary s.ip with override := p.override, rep := some p.rep, lock := p.lock } }

/-- The event check of a boundary, and what it leaves of an unfinished repetition (R900, R901). -/
def State.checkEvents (s : State) : Bool × State :=
  if s.anyPending && !s.nointr then
    if s.checkIntr.1 then (true, { s.checkIntr.2 with rep := none }) else s.checkIntr
  else (false, s)

end Sys2Proof.Machine
end

