-- ==== Sys2Proof/Machine/Fetch.lean ====
section
/-! DEFINITION. Instruction fetch: the byte the decoder gets at an offset of CS, its checks, and the
prefetch queue (20_memory.md R141 to R160, 30_encoding.md R203). -/

namespace Sys2Proof.Machine

/-! ## The bytes -/

/-- The byte memory holds for a fetch, the `k`th of its window; a device answers a free value (20 R110;
92 D60). The reads a device sees are noted by `State.noteFetch`; with the queue enabled their number and
order are free within the model's reach (DESIGN CHOICE, notes/assumptions/27.md). -/
def State.codeByte (s : State) (k p : Nat) : Byte :=
  match s.kindAt p with
  | .ram => Memory.read s.mem p
  | .rom => Memory.read s.mem p
  | .unmapped => 0
  | .device _ => Config.deviceFetch (s.draws + k) p

/-- The slot of the `k`th byte of the queue (10 R54). -/
def Prefetch.slot (q : Prefetch) (size k : Nat) : Host.Cell := q.slots.getD ((q.tail + k) % size) (0, 0)

/-- The `k`th byte from IP that has been read ahead: in the ring, or the latched one after it. -/
def Prefetch.held (q : Prefetch) (size k : Nat) : Option Byte :=
  if k < q.queuedBytes then some (q.slot size k).2
  else if k = q.queuedBytes then q.latch.map (·.2)
  else none

/-- The offset of the `k`th byte from IP (20 R142). -/
def State.fetchOff (s : State) (k : Nat) : Word := s.ip + BitVec.ofNat 16 k

/-- The byte of the queue that a draw may give in place of memory's: none unless the queue is enabled and
`stale` (20 R141; 92 D4). -/
def State.staleByte (s : State) (k : Nat) : Option Byte :=
  if s.cfg.coherence == .stale && s.cfg.prefetchEnabled && Config.staleKeepsOld (s.draws + k) k then
    s.queue.held (Prefetch.ringSize s.cfg.model) k
  else none

/-- The `k`th byte from IP as the decoder gets it: under `coherent` it is memory's; under `stale` a byte
read ahead is a draw between the queue's and memory's (20 R141, R146, R150). -/
def State.fetchByte (s : State) (k : Nat) : Byte :=
  (s.staleByte k).getD (s.codeByte k (s.segAddr .cs (s.fetchOff k)))

/-- The longest instruction without its prefixes: opcode, ModRM, two displacement bytes, two immediate
bytes (30 R200). -/
def bodyBytes : Nat := 6

/-- The bytes the next instruction is decoded from. -/
def State.fetchWindow (s : State) : List Byte := (List.range bodyBytes).map s.fetchByte

/-- How far from IP a fetch can read: the longest body and the longest queue after it (10 R54). -/
def fetchReach : Nat := 12

/-- Whether the byte `k` from IP lies in a device block. -/
def State.fetchesDevice (s : State) (k : Nat) : Bool :=
  match s.kindAt (s.segAddr .cs (s.fetchOff k)) with
  | .ram => false
  | .rom => false
  | .unmapped => false
  | .device _ => true

/-- Whether a byte within reach lies in a device block. -/
def State.reachesDevice (s : State) : Bool := (List.range fetchReach).any s.fetchesDevice

/-- Whether a byte within reach may be a free value. -/
def State.fetchDraws (s : State) : Bool := s.cfg.coherence == .stale || s.reachesDevice

/-- Move past the free values within reach. -/
def State.drawnFetch (s : State) : State :=
  if s.fetchDraws then { s with draws := s.draws + fetchReach } else s

/-- The reads of fetching `len` bytes that a device could see, as distances from IP in their order: each byte
once with the queue disabled (20 R145); with it enabled a free choice among those of the instruction and
of the queue after it (20 R147, R151; 92 D60; notes/assumptions/27.md). -/
def State.fetchReads (s : State) (len : Nat) : List Nat :=
  if s.cfg.prefetchEnabled then
    if s.reachesDevice then
      (Config.fetchReads s.draws).filter fun k => decide (k < len + Model.queueDepth s.cfg.model)
    else []
  else List.range len

/-- Note the device reads of fetching `len` bytes (20 R110; 92 D60). -/
def State.noteFetch (s : State) (len : Nat) : State :=
  ((s.fetchReads len).filter s.fetchesDevice).foldl
    (fun t k => t.note (.deviceRead (s.segAddr .cs (s.fetchOff k)) 1)) s

/-- What consuming the `k`th byte from IP raises: CS's limit in protected mode (20 R143), then the
11th byte of an instruction on C286 (30 R203; 92 D33). -/
def State.fetchFault (s : State) (k : Nat) : Option Exc :=
  if s.protectedMode && decide ((s.seg .cs).limit.toNat < (s.fetchOff k).toNat) then some (.gp 0)
  else if s.cls == .c286 && decide (10 ≤ (s.fetchOff k - s.scratch.startIp).toNat) then some .ud
  else none

/-! ## The queue (20 R146 to R148) -/

/-- The byte that is next for the ring: the latched one, or memory's. -/
def State.nextCell (s : State) : Host.Cell :=
  s.queue.latch.getD (s.segAddr .cs s.queue.nextOffset, s.codeByte bodyBytes (s.segAddr .cs s.queue.nextOffset))

/-- Prefetch one byte (R147). -/
def State.prefetchOne (s : State) : State :=
  let q := s.queue
  let size := Prefetch.ringSize s.cfg.model
  { s with queue :=
      { slots := q.slots.set q.head s.nextCell
        head := (q.head + 1) % size
        tail := q.tail
        queuedBytes := q.queuedBytes + 1
        validBytes := min (Model.queueDepth s.cfg.model) (q.validBytes + 1)
        nextOffset := q.nextOffset + 1
        latch := none } }

/-- `fill(n)` (R147). -/
def State.fillQueue : Nat → State → State
  | 0, s => s
  | n + 1, s =>
    if s.queue.queuedBytes < Model.queueDepth s.cfg.model then State.fillQueue n s.prefetchOne else s

/-- How many bytes the ring holds when head and tail still tell a full ring from an empty one (10 R55): one less
than its slots, and at most `QUEUE_DEPTH`. -/
def Prefetch.capacity (m : Model) : Nat := min m.queueDepth (Prefetch.ringSize m - 1)

/-- Read the next byte for a ring that holds its capacity, where `QUEUE_DEPTH` is more (20 R141). -/
def State.latchNext (s : State) : State :=
  if s.queue.queuedBytes < Model.queueDepth s.cfg.model then
    { s with queue := { s.queue with latch := some s.nextCell } }
  else s

/-- A cell read ahead, as it stands before the next instruction stores: its old byte, or the one memory has now. -/
def State.rereadCell (s : State) (k : Nat) (c : Host.Cell) : Host.Cell :=
  if Config.staleRereads (s.draws + k) k then (c.1, s.codeByte k c.1) else c

/-- Every byte read ahead is the old or the new one of each store so far, so that under `stale` the old contents of a
later store to it are among the draws too (20 R141). DESIGN CHOICE (notes/assumptions/12.md): the choice is made
again before each instruction. -/
def State.reread (s : State) : State :=
  if s.cfg.coherence == .stale then
    { s with queue := { s.queue with
        slots := List.zipWith s.rereadCell (List.range s.queue.slots.length) s.queue.slots
        latch := s.queue.latch.map (s.rereadCell s.queue.slots.length) } }
  else s

/-- Read ahead as far as `QUEUE_DEPTH` bytes. DESIGN CHOICE (notes/assumptions/12.md): `fill` is asked for what
the ring has room for (20 R147, R151). -/
def State.refill (s : State) : State :=
  (State.fillQueue (Prefetch.capacity s.cfg.model - s.queue.queuedBytes) s.reread).latchNext

/-- Take the tail byte out of the queue, refilling one byte on empty (R146). -/
def State.consumeOne (s : State) : State :=
  let t := if s.queue.queuedBytes = 0 then s.prefetchOne else s
  { t with queue := { t.queue with
      tail := (t.queue.tail + 1) % Prefetch.ringSize t.cfg.model, queuedBytes := t.queue.queuedBytes - 1 } }

/-- Take `n` bytes out of the queue. -/
def State.consume : Nat → State → State
  | 0, s => s
  | n + 1, s => State.consume n s.consumeOne

/-- What the queue does for `len` bytes consumed: with the queue enabled they leave it, an IP that wraps
flushes it (R160), and it is refilled (R151). DESIGN CHOICE (notes/assumptions/12.md): that flush comes when the
whole instruction is consumed, so under `stale` its bytes past the wrap can still be the queue's (R141). -/
def State.queueAfter (s : State) (len : Nat) : State :=
  if s.cfg.prefetchEnabled then
    let t := State.consume len s
    let t := if (s.fetchOff len).toNat < s.ip.toNat then { t with queue := t.queue.flush (s.fetchOff len) } else t
    t.refill
  else s

/-! ## Fetching an instruction -/

/-- What comes of fetching one instruction or prefix byte. -/
inductive Fetched where
  | decoded (i : Instr) (s : State)
  | raised (r : Raise)
  | short
deriving DecidableEq, Repr

/-- The state after `len` bytes are consumed: IP is the offset after them (10 R25). -/
def State.fetchAdvance (s : State) (len : Nat) : State :=
  { ((s.noteFetch len).queueAfter len).drawnFetch with ip := s.fetchOff len }

/-- The first exception that consuming `len` bytes raises. -/
def State.fetchRaises (s : State) (len : Nat) : Option Exc := (List.range len).findSome? s.fetchFault

/-- How many of `len` bytes are consumed before one raises. -/
def State.fetchedBytes (s : State) (len : Nat) : Nat :=
  ((List.range len).takeWhile fun k => (s.fetchFault k).isNone).length

/-- Fetch and decode at CS:IP (30 R200, R276). -/
def State.fetchInstr (s : State) : Fetched :=
  match decode s.cls s.fetchWindow with
  | .error .truncated => .short
  | .ok (i, rest) =>
    match s.fetchRaises (bodyBytes - rest.length) with
    | some e =>
      .raised
        { exc := e, seen := (s.noteFetch (s.fetchedBytes (bodyBytes - rest.length))).drawnFetch, committed := false }
    | none => .decoded i (s.fetchAdvance (bodyBytes - rest.length))

end Sys2Proof.Machine
end

