-- ==== Sys2Proof/Machine/Run.lean ====
section
/-! DEFINITION. Running one instruction, and the boundary before it (60_exceptions.md R900). -/

namespace Sys2Proof.Machine

/-- How many prefix bytes a C86 or C186 instruction may begin with before the decoder has gone round the
whole segment (30 R203). Where a second pass may read other bytes (device blocks, `stale` fetch) the bound is
the model's DESIGN CHOICE: notes/assumptions/20.md. -/
def prefixFuel : Nat := 65537

/-- Fetch, decode and run: a prefix byte goes on with the next byte, without a boundary (46 R763). The fault after
`prefixFuel` prefixes is DEDUCED where the second pass round the segment reads the same bytes, and a DESIGN CHOICE over
device blocks and under `stale` fetch: notes/assumptions/20.md. -/
def State.fetchExec : Nat → State → Host.Outcome State Fault Refusal
  | 0, _ => .fault .endlessPrefixes
  | n + 1, s =>
    match s.fetchInstr with
    | .short => .fault .fetchWindow
    | .raised r => .next (s.deliverRaise r)
    | .decoded i t =>
      if i.isPrefixByte then
        match exec i t with
        | .next u => State.fetchExec n u
        | .fault r => .fault r
        | .refused r => .refused r
      else exec i t

/-- The next iteration of an unfinished repetition: its bytes are not decoded again (44 R602). DESIGN CHOICE
(notes/assumptions/12.md): the queue holds after the instruction what it held before the repetition, and what a
flush between iterations took is read ahead again before the iteration stores (20 R141, R151). -/
def State.resume (s : State) (p : RepeatPending) : State :=
  ({ s with
    ip := p.nextIp
    queue := p.ahead
    rep := none
    scratch := { Scratch.atBoundary p.startIp with
      lastPrefixIp := p.lastPrefixIp, override := p.override, rep := some p.rep, lock := p.lock } } : State).fetchAdvance 0

/-- Execute one instruction at CS:IP, or the next REP iteration (60 R900). -/
def State.dispatch (s : State) : Host.Outcome State Fault Refusal :=
  match s.rep with
  | some p => exec p.instr (s.resume p)
  | none => State.fetchExec prefixFuel { s with scratch := .atBoundary s.ip }

/-- The boundary after the event check (60 R900). DESIGN CHOICE (notes/assumptions/33.md): a delivery that ended in
SHUTDOWN ends the step. -/
def State.afterEvents (taken : Bool) (s : State) : Host.Outcome State Fault Refusal :=
  if s.status != .run then .next s
  else if s.intFlags.halt then .next (s.setCycles { s.host.cycles with remaining := 0 })
  else if taken && s.host.singleStep then .next { s with nointr := false }
  else ({ s with nointr := false } : State).dispatch

/-- One pass of `Boundary()` (60 R900). DESIGN CHOICE (notes/assumptions/33.md): a return callback that leaves the block
in ERROR or SHUTDOWN ends the step at once, with no event checked and no instruction run. -/
def State.boundary (s : State) : Host.Outcome State Fault Refusal :=
  let t := s.returnNotify
  if t.status != .run then .next t
  else State.afterEvents t.boundaryScratch.checkEvents.1 t.boundaryScratch.checkEvents.2

/-! ## After an exception (60 R911) -/

/-- How many exceptions one step delivers, each raised by the first instruction of the handler before it. -/
def handlerFuel : Nat := 1048576

/-- Whether the step goes on with the first instruction of a handler: not in SHUTDOWN (R971; notes/assumptions/33.md). -/
def State.entersHandler (s : State) : Bool := s.handlerEntry && s.status == .run

/-- With the exception taken care of. -/
def State.settled (s : State) : State := { s with handlerEntry := false }

/-- The step after its instruction: an exception has been delivered and "the step then continues with the
first instruction of the handler", with no boundary before it (R911). -/
def State.handlers : Nat → Host.Outcome State Fault Refusal → Host.Outcome State Fault Refusal
  | 0, o =>
    match o with
    | .next t => if t.entersHandler then .fault .endlessHandlers else .next t.settled
    | .fault f => .fault f
    | .refused r => .refused r
  | n + 1, o =>
    match o with
    | .next t => if t.entersHandler then State.handlers n t.settled.dispatch else .next t.settled
    | .fault f => .fault f
    | .refused r => .refused r

/-- A step in run status RUN: a boundary with its instruction, and the handlers of the exceptions it raises. -/
def State.running (s : State) : Host.Outcome State Fault Refusal := State.handlers handlerFuel s.settled.boundary

end Sys2Proof.Machine
end

