-- ==== Sys2Proof/Machine/Step.lean ====
section
/-! DEFINITION. The step, and placing an instruction where the next step fetches it. -/

namespace Sys2Proof.Machine

/-- One step (60_exceptions.md R900, R971, R983; 92 D44). -/
def step (s : State) : Host.Outcome State Fault Refusal :=
  match s.status with
  | .shutdown => .fault .shutdown
  | .error => .fault .hostError
  | .run => s.running

/-- Whether reads of the address come from the memory list. -/
def State.holds (s : State) (p : Nat) : Bool :=
  match s.kindAt p with
  | .ram => true
  | .rom => true
  | .unmapped => false
  | .device _ => false

/-- Put a byte into memory from outside the machine, in a `ram` block. -/
def State.place (s : State) (p : Nat) (v : Byte) : State :=
  { s with
    mem := Memory.write s.mem p v
    blocks :=
      if s.holds p then s.blocks
      else { first := p >>> s.cfg.blockShift, count := 1, kind := .ram } :: s.blocks }

/-- Put bytes at rising offsets of CS. -/
def State.placeAll : List Byte → Word → State → State
  | [], _, s => s
  | v :: vs, off, s => State.placeAll vs (off + 1) (s.place (s.segAddr .cs off) v)

/-- `s` with an instruction's bytes at CS:IP, nothing pending, and the queue empty. -/
def State.withFetchWord (s : State) (nbits w : Nat) : State :=
  (State.placeAll (tableBytes nbits w) s.ip
    { s with
      status := .run
      rep := none
      intFlags := { intr := false, trap := false, halt := false, dma := false }
      host := { s.host with returnNotify := [] } }).flushQueue

end Sys2Proof.Machine
end

