-- ==== Sys2Proof/Machine/StepCpu.lean ====
section
/-! DEFINITION. The host's stepping call (60_exceptions.md R980, R982). -/

namespace Sys2Proof.Machine

/-- "every handler subtracts its documented cost from `remaining`" (R980). -/
def State.spend (s : State) (cost : Nat) : State :=
  s.setCycles { s.host.cycles with remaining := s.host.cycles.remaining - cost }

/-- Steps until `remaining` is at most 0 (R980), with the cost of each step, which the spec leaves to timing
(70 R1040; 92 D44): a list that ends sooner ends the call there. -/
def State.runBudget : List Nat → State → Host.Outcome State Fault Refusal
  | [], s => .next s
  | cost :: costs, s =>
    match step s with
    | .next t =>
      if (t.spend cost).host.cycles.remaining ≤ 0 then .next (t.spend cost) else State.runBudget costs (t.spend cost)
    | .fault f => .fault f
    | .refused r => .refused r

/-- `stepCPU(nMinCycles)` (R980): entry, then its steps. It returns `State.cyclesExecuted` of the state it ends
in. -/
def State.stepCpu (s : State) (minCycles : Nat) (costs : List Nat) : Host.Outcome State Fault Refusal :=
  State.runBudget costs (s.enterStepCpu minCycles)

end Sys2Proof.Machine
end

