-- ==== Sys2Proof/Safety.lean ====
section
/-! DEFINITION. The terms the statements are written in: operands read without their checks, what a form
stores to, what an instruction leaves as it was, the flags as arithmetic, the forms that share one
rule, and the invariants. -/

namespace Sys2Proof.Machine

/-! ## Operands without their checks (30_encoding.md R227, 20_memory.md R129) -/

/-- A byte E operand can be read. -/
def State.canReadEb (s : State) : RM Reg8 → Prop
  | .reg _ => True
  | .mem m => s.accessFault (s.opSeg m) (s.ea m) 0 false = none

/-- A word E operand can be read. -/
def State.canReadEw (s : State) : RM Reg16 → Prop
  | .reg _ => True
  | .mem m => s.accessFault (s.opSeg m) (s.ea m) 1 false = none

/-- A byte E operand can be written. -/
def State.canWriteEb (s : State) : RM Reg8 → Prop
  | .reg _ => True
  | .mem m => s.accessFault (s.opSeg m) (s.ea m) 0 true = none

/-- A word E operand can be written. -/
def State.canWriteEw (s : State) : RM Reg16 → Prop
  | .reg _ => True
  | .mem m => s.accessFault (s.opSeg m) (s.ea m) 1 true = none

/-- The two words at a memory operand can be read (41 R325). -/
def State.canReadPair (s : State) (m : MemRef) : Prop :=
  s.accessFault (s.opSeg m) (s.ea m) 1 false = none ∧ s.accessFault (s.opSeg m) (s.ea m + 2) 1 false = none

/-- What a byte E operand holds. -/
def State.valueEb (s : State) : RM Reg8 → Byte
  | .reg r => s.reg8 r
  | .mem m => (s.busRead8 (s.segAddr (s.opSeg m) (s.ea m))).1

/-- What a word E operand holds. -/
def State.valueEw (s : State) : RM Reg16 → Word
  | .reg r => s.reg r
  | .mem m => (s.segGet16 (s.opSeg m) (s.ea m)).1

/-- The state after a word E operand is read. -/
def State.afterEw (s : State) : RM Reg16 → State
  | .reg _ => s
  | .mem m => ((s.noteEa (s.ea m)).segGet16 (s.opSeg m) (s.ea m)).2

/-- The two words at a memory operand (41 R325). -/
def State.valuePair (s : State) (m : MemRef) : Word × Word :=
  ((s.segGet16 (s.opSeg m) (s.ea m)).1, ((s.segGet16 (s.opSeg m) (s.ea m)).2.segGet16 (s.opSeg m) (s.ea m + 2)).1)

/-- The state after the two words at a memory operand are read. -/
def State.afterPair (s : State) (m : MemRef) : State :=
  (((s.noteEa (s.ea m)).segGet16 (s.opSeg m) (s.ea m)).2.segGet16 (s.opSeg m) (s.ea m + 2)).2

/-! ## What is stored, and where -/

/-- The physical addresses of the two bytes of a word at an offset of a segment (20 R105, R106, R117). -/
def State.wordAddrs (s : State) (r : SegReg) (off : Word) : Nat × Nat :=
  (s.segAddr r off,
    if off = 0xFFFF then s.wrapAddr r
    else if s.lastOfBlock (s.segAddr r off) then s.physNext (s.segAddr r off) else s.segAddr r off + 1)

/-- The addresses a word store at an offset of a segment writes. -/
def State.storedWord (s : State) (r : SegReg) (off : Word) : List Nat := [(s.wordAddrs r off).1, (s.wordAddrs r off).2]

/-- The addresses a write of a byte E operand writes. -/
def State.storedEb (s : State) : RM Reg8 → List Nat
  | .reg _ => []
  | .mem m => [s.segAddr (s.opSeg m) (s.ea m)]

/-- The addresses a write of a word E operand writes. -/
def State.storedEw (s : State) : RM Reg16 → List Nat
  | .reg _ => []
  | .mem m => s.storedWord (s.opSeg m) (s.ea m)

/-- `t` holds a byte that was stored from `s` at a physical address, where there is `ram` (20 R101). -/
def State.holdsByte (s t : State) (p : Nat) (v : Byte) : Prop := s.kindAt p = .ram → Memory.read t.mem p = v

/-- `t` holds a word that was stored from `s` at an offset of a segment. -/
def State.holdsWord (s t : State) (r : SegReg) (off v : Word) : Prop :=
  s.holdsByte t (s.wordAddrs r off).1 (loByte v) ∧ s.holdsByte t (s.wordAddrs r off).2 (hiByte v)

/-- The byte E operand of `s` holds `v` in `t`. -/
def State.holdsEb (s t : State) (v : Byte) : RM Reg8 → Prop
  | .reg r => t.reg8 r = v
  | .mem m => s.holdsByte t (s.segAddr (s.opSeg m) (s.ea m)) v

/-- The word E operand of `s` holds `v` in `t`. -/
def State.holdsEw (s t : State) (v : Word) : RM Reg16 → Prop
  | .reg r => t.reg r = v
  | .mem m => s.holdsWord t (s.opSeg m) (s.ea m) v

/-- The registers a write of a byte E operand writes. -/
def destEb : RM Reg8 → List Reg8
  | .reg r => [r]
  | .mem _ => []

/-- The registers a write of a word E operand writes. -/
def destEw : RM Reg16 → List Reg16
  | .reg r => [r]
  | .mem _ => []

/-! ## Frames -/

/-- The events after an instruction that began in `s` and completed: TRAP is latched if TF was set (60 R905). -/
def State.latched (s : State) : IntFlags := { s.intFlags with trap := s.intFlags.trap || s.tf }

/-- What an instruction that completes and is no control transfer, system or task instruction leaves as it
was: every register but those named, every byte of memory but those named, the direct bits of PS, the
system registers, the events (but the single-step latch, 60 R905), and what no instruction changes. -/
structure Kept (s t : State) (dest : List Reg16) (stored : List Nat) : Prop where
  regs   : ∀ r, r ∉ dest → t.reg r = s.reg r
  memory : ∀ a, a ∉ stored → Memory.read t.mem a = Memory.read s.mem a
  live   : t.live = s.live
  sys    : t.sys = s.sys
  events : t.intFlags = s.latched
  fixed  : t.cfg = s.cfg ∧ t.a20 = s.a20 ∧ t.blocks = s.blocks ∧ t.status = s.status ∧ t.handlerEntry = s.handlerEntry

/-- `Kept`, with IP, the queue, the segment registers, NOINTR, an unfinished repetition and the host's side
(but the record of calls) as they were. -/
structure Frame (s t : State) (dest : List Reg16) (stored : List Nat) : Prop extends Kept s t dest stored where
  ip     : t.ip = s.ip
  queue  : t.queue = s.queue
  segs   : t.segs = s.segs
  nointr : t.nointr = s.nointr
  rep    : t.rep = s.rep
  host   : { t.host with calls := s.host.calls } = s.host

/-- The frame of an instruction that writes byte registers: the other byte registers stay too (10 R22). -/
structure Frame8 (s t : State) (dest : List Reg8) (stored : List Nat) : Prop
    extends Frame s t (dest.map reg8Word) stored where
  bytes : ∀ r, r ∉ dest → t.reg8 r = s.reg8 r

/-- The prefetch queue restarts at an offset (20 R148, R160). -/
def Prefetch.restarts (q : Prefetch) (off : Word) : Prop :=
  q.queuedBytes = 0 ∧ q.validBytes = 0 ∧ q.nextOffset = off ∧ q.latch = none

/-- The frame of a jump within the code segment: IP is the target, and the queue restarts there (20 R160). -/
structure JumpFrame (s t : State) (target : Word) (dest : List Reg16) (stored : List Nat) : Prop
    extends Kept s t dest stored where
  ip     : t.ip = target
  queue  : t.queue.restarts target
  segs   : t.segs = s.segs
  flags  : t.flags = s.flags
  nointr : t.nointr = s.nointr
  rep    : t.rep = s.rep
  host   : { t.host with calls := s.host.calls } = s.host

/-- The frame of a transfer to another code segment in real mode: CS is loaded (20 R119), the other segment
registers stay. What the transfer does to the direct bits of PS, the events and the host's answers is said
beside it. -/
structure FarFrame (s t : State) (sel target : Word) (dest : List Reg16) (stored : List Nat) : Prop where
  regs   : ∀ r, r ∉ dest → t.reg r = s.reg r
  memory : ∀ a, a ∉ stored → Memory.read t.mem a = Memory.read s.mem a
  sys    : t.sys = s.sys
  fixed  : t.cfg = s.cfg ∧ t.a20 = s.a20 ∧ t.blocks = s.blocks ∧ t.status = s.status
  ip     : t.ip = target
  queue  : t.queue.restarts target
  cs     : t.seg .cs = .real sel
  segs   : ∀ r, r ≠ .cs → t.seg r = s.seg r
  nointr : t.nointr = s.nointr
  rep    : t.rep = s.rep

/-- The frame of a load of one segment register; a load of SS sets NOINTR (41 R311, R333). -/
structure SegFrame (s t : State) (r : SegReg) (dest : List Reg16) (stored : List Nat) : Prop
    extends Kept s t dest stored where
  ip     : t.ip = s.ip
  segs   : ∀ q, q ≠ r → t.seg q = s.seg q
  flags  : t.flags = s.flags
  nointr : t.nointr = (r == .ss || s.nointr)
  rep    : t.rep = s.rep
  host   : { t.host with calls := s.host.calls } = s.host

/-- The frame of a protected-mode transfer that stays on its stack segment: CS and CPL are left to the
statement. -/
structure CodeFrame (s t : State) (target : Word) (dest : List Reg16) (stored : List Nat) : Prop where
  regs   : ∀ r, r ∉ dest → t.reg r = s.reg r
  memory : ∀ a, a ∉ stored → Memory.read t.mem a = Memory.read s.mem a
  tables : t.sys.msw = s.sys.msw ∧ t.sys.gdtr = s.sys.gdtr ∧ t.sys.idtr = s.sys.idtr ∧ t.sys.ldtr = s.sys.ldtr ∧
    t.sys.tr = s.sys.tr
  fixed  : t.cfg = s.cfg ∧ t.a20 = s.a20 ∧ t.blocks = s.blocks ∧ t.status = s.status
  ip     : t.ip = target
  queue  : t.queue.restarts target
  data   : t.seg .ds = s.seg .ds ∧ t.seg .es = s.seg .es
  nointr : t.nointr = s.nointr
  rep    : t.rep = s.rep

/-! ## Exceptions -/

/-- The instruction raises an exception: its own effect is gone, and the exception is taken. -/
def Traps (i : Instr) (s : State) (e : Exc) : Prop :=
  ∃ u, exec i s = .next (s.deliverRaise { exc := e, seen := u, committed := false })

/-- The instruction raises an exception before it has done or asked anything: no call on a device or a port was
made, no free value drawn. -/
def TrapsAtOnce (i : Instr) (s : State) (e : Exc) : Prop :=
  exec i s = .next (s.deliverRaise { exc := e, seen := s, committed := false })

/-- An operation raises an exception. -/
def Raises {α : Type} (r : Res α) (e : Exc) : Prop := ∃ u, r = .error { exc := e, seen := u, committed := false }

/-! ## The stack (41 R330) -/

/-- That many words can be pushed. -/
def State.canPush (s : State) (n : Nat) : Prop :=
  ∀ k < n, s.accessFault .ss (s.regs.sp - BitVec.ofNat 16 (2 * (k + 1))) 1 true = none

/-- That many words can be popped. -/
def State.canPop (s : State) (n : Nat) : Prop :=
  ∀ k < n, s.accessFault .ss (s.regs.sp + BitVec.ofNat 16 (2 * k)) 1 false = none

/-- The addresses that many pushes write. -/
def State.pushedAddrs (s : State) (n : Nat) : List Nat :=
  (List.range n).flatMap fun k => s.storedWord .ss (s.regs.sp - BitVec.ofNat 16 (2 * (k + 1)))

/-- `t` holds the words pushed from `s`, the first of them at SP − 2. -/
def State.holdsPushed (s t : State) (ws : List Word) : Prop :=
  ∀ k, (h : k < ws.length) → s.holdsWord t .ss (s.regs.sp - BitVec.ofNat 16 (2 * (k + 1))) ws[k]

/-- The words on top of the stack, the one at SP first, and the state after they are popped. -/
def State.popMany : Nat → State → List Word × State
  | 0, s => ([], s)
  | n + 1, s =>
    let (v, t) := s.segGet16 .ss s.regs.sp
    let (vs, u) := State.popMany n (t.setReg .sp (s.regs.sp + 2))
    (v :: vs, u)

/-- The state after a switch to an inner-level stack (45 R677, 60 R941), but for CPL. -/
def State.onStack (s : State) (nss nsp : Word) (sd : Desc) : State := (s.setSeg .ss (sd.cache nss)).setReg .sp nsp

/-- The vector of a real-mode table: offset and selector (60 R920). -/
def State.vector (s : State) (n : Byte) : Word × Word :=
  let a := s.phys (s.idtBase + BitVec.ofNat 32 (4 * n.toNat))
  let b := s.phys (s.idtBase + BitVec.ofNat 32 (4 * n.toNat + 2))
  ((s.busRead16 a).1, ((s.busRead16 a).2.busRead16 b).1)

/-- The vector lies in the table: only C286 has a limit (60 R920). -/
def State.vectorInTable (s : State) (n : Byte) : Prop := s.cls = .c286 → 4 * n.toNat + 3 ≤ s.sys.idtr.limit.toNat

/-- The descriptor or gate at a linear address. -/
def State.descAt (s : State) (lin : BitVec 32) : Desc := (s.readDesc lin).1

/-- Reading it asks no device. -/
def State.plainDesc (s : State) (lin : BitVec 32) : Prop := (s.readDesc lin).2 = s

/-- The descriptor a selector names. -/
def State.descOf (s : State) (sel : Word) : Desc := s.descAt (s.descAddr sel)

/-- Reading it asks no device. -/
def State.plainSel (s : State) (sel : Word) : Prop := s.plainDesc (s.descAddr sel)

/-- The address of its access byte (20 R127). -/
def State.accessAddr (s : State) (sel : Word) : Nat := s.phys (s.descAddr sel + 5)

/-- `t` has the accessed bit of the descriptor `d` that a selector names, where a load had to set it in `ram` (20 R127). -/
def State.setsAccessed (s t : State) (sel : Word) (d : Desc) : Prop :=
  s.kindAt (s.accessAddr sel) = .ram → accAccessed d.access = false →
    Memory.read t.mem (s.accessAddr sel) = d.access ||| 1

/-! ## Protected-mode entry (60 R921, R941, R942) -/

/-- The linear address of a vector's gate (60 R921). -/
def State.gateAddr (s : State) (n : Byte) : BitVec 32 := s.sys.idtr.base.setWidth 32 + BitVec.ofNat 32 (8 * n.toNat)

/-- Vector `n` has the gate `g` to the code segment `d`, and every check up to the stack passes: in protected mode,
with gate and target in no device's memory, and the target's accessed bit set. -/
structure State.gateLeads (s : State) (n : Byte) (software : Bool) (g d : Desc) : Prop where
  mode      : s.protectedMode = true
  table     : 8 * n.toNat + 7 ≤ s.sys.idtr.limit.toNat
  gate      : g = s.descAt (s.gateAddr n)
  plain     : s.plainDesc (s.gateAddr n)
  kind      : g.isSystem 6 = true ∨ g.isSystem 7 = true
  privilege : software = false ∨ s.sys.cpl.toNat ≤ g.dpl.toNat
  present   : g.present = true
  named     : s.isNull g.mid = false
  inTable   : s.inTable g.mid = true
  target    : d = s.descOf g.mid
  plainSel  : s.plainSel g.mid
  code      : d.isCode = true
  level     : d.dpl.toNat ≤ s.sys.cpl.toNat
  loaded    : d.present = true
  offset    : g.lo.toNat ≤ d.limit.toNat
  accessed  : accAccessed d.access = true

/-- The delivery stays on its level's stack: the target is conforming, or its level is the current one. -/
def State.sameLevel (s : State) (d : Desc) : Prop := d.conforming = true ∨ d.dpl = s.sys.cpl

/-- What a delivery through the gate `g` at the same level leaves: the words pushed, CS at the gate's target,
and the mask of the gate's kind. -/
structure EntersSame (s t : State) (g d : Desc) (ws : List Word) : Prop extends
    CodeFrame s t g.lo [.sp] (s.pushedAddrs ws.length) where
  pushed : s.holdsPushed t ws
  sp     : t.reg .sp = s.reg .sp - BitVec.ofNat 16 (2 * ws.length)
  cs     : t.seg .cs = { d.cache g.mid with selector := (g.mid &&& 0xFFFC) ||| s.sys.cpl.setWidth 16 }
  cpl    : t.sys.cpl = s.sys.cpl
  ss     : t.seg .ss = s.seg .ss
  flags  : t.flags = s.flags
  mask   : t.nt = false ∧ t.tf = false ∧ t.ifl = (if g.isSystem 6 = true then false else s.ifl)
  others : t.df = s.df ∧ t.iopl = s.iopl

/-- The inner-level stack that the TSS gives for the level of `d`, valid (60 R942): in no device's memory, with its
accessed bit set. -/
structure State.innerStack (s : State) (d : Desc) (nss nsp : Word) (sd : Desc) : Prop where
  code     : d.conforming = false
  inner    : d.dpl.toNat < s.sys.cpl.toNat
  tss      : 4 * d.dpl.toNat + 5 ≤ s.sys.tr.limit.toNat
  pointer  : s.sysRead16 (s.sys.tr.base.setWidth 32 + BitVec.ofNat 32 (2 + 4 * d.dpl.toNat)) = (nsp, s)
  selector : s.sysRead16 (s.sys.tr.base.setWidth 32 + BitVec.ofNat 32 (4 + 4 * d.dpl.toNat)) = (nss, s)
  named    : s.isNull nss = false
  inTable  : s.inTable nss = true
  segment  : sd = s.descOf nss
  plain    : s.plainSel nss
  writable : sd.writable = true
  rpl      : rpl nss = d.dpl
  dpl      : sd.dpl = d.dpl
  present  : sd.present = true
  accessed : accAccessed sd.access = true

/-- What a delivery through the gate `g` to an inner level leaves: the words pushed on the level's stack. -/
structure EntersInner (s t : State) (g d : Desc) (nss nsp : Word) (sd : Desc) (ws : List Word) : Prop extends
    CodeFrame s t g.lo [.sp] ((s.onStack nss nsp sd).pushedAddrs ws.length) where
  pushed : (s.onStack nss nsp sd).holdsPushed t ws
  sp     : t.reg .sp = nsp - BitVec.ofNat 16 (2 * ws.length)
  cs     : t.seg .cs = { d.cache g.mid with selector := (g.mid &&& 0xFFFC) ||| d.dpl.setWidth 16 }
  cpl    : t.sys.cpl = d.dpl
  ss     : t.seg .ss = sd.cache nss
  flags  : t.flags = s.flags
  mask   : t.nt = false ∧ t.tf = false ∧ t.ifl = (if g.isSystem 6 = true then false else s.ifl)
  others : t.df = s.df ∧ t.iopl = s.iopl

/-- `t` is what a delivery of vector `n` from `s` leaves, no software interrupt's, where its checks pass: in real mode
through the table, in protected mode through its gate (60 R920, R921, R930, R941, R942). -/
structure State.Delivers (s t : State) (n : Byte) (ip : Word) (code : Option Word) : Prop where
  real  : s.protectedMode = false → s.vectorInTable n → s.canPush 3 →
    s.holdsPushed t [s.getPS, (s.seg .cs).selector, ip] ∧ t.reg .sp = s.reg .sp - 6 ∧ t.flags = s.flags ∧
      t.tf = false ∧ t.ifl = false ∧ (∀ k, k ≠ 8 → k ≠ 9 → t.live.getLsbD k = s.live.getLsbD k) ∧
      FarFrame s t (s.vector n).2 (s.vector n).1 [.sp] (s.pushedAddrs 3)
  same  : ∀ g d, s.gateLeads n false g d → s.sameLevel d → s.canPush (3 + code.toList.length) →
    EntersSame s t g d ([s.getPS, (s.seg .cs).selector, ip] ++ code.toList)
  inner : ∀ g d nss nsp sd, s.gateLeads n false g d → s.innerStack d nss nsp sd →
    (s.onStack nss nsp sd).canPush (5 + code.toList.length) →
    EntersInner s t g d nss nsp sd
      ([(s.seg .ss).selector, s.reg .sp, s.getPS, (s.seg .cs).selector, ip] ++ code.toList)

/-- `t` is what an exception taken in `s` leaves: its delivery; if that raises, #DF's; and if that raises too, the
block shuts down (60 R930, R970, R971). -/
structure State.Takes (s t : State) (ip : Word) (e : Exc) : Prop where
  first  : s.Delivers t e.vector ip e.code
  double : ∀ r, s.deliver e.vector false ip e.code = .error r → (s.undo r.seen).Delivers t 8 ip (some 0)
  triple : ∀ r q, s.deliver e.vector false ip e.code = .error r →
    (s.undo r.seen).deliver 8 false ip (some 0) = .error q → t = { s.undo q.seen with status := .shutdown }

/-- The saved IP of an exception an instruction raises (60 R931). -/
def State.faultIp (s : State) (e : Exc) : Word := if e = .de ∧ s.cls ≠ .c286 then s.ip else s.scratch.startIp

/-! ## The flags as arithmetic (10 R28) -/

/-- The low byte has an even number of ones. -/
def evenOnes {n : Nat} (r : BitVec n) : Bool := (List.range 8).countP (fun k => r.getLsbD k) % 2 == 0

/-- A carry as a number of `n` bits. -/
def carryIn (n : Nat) (c : Bool) : BitVec n := BitVec.ofNat n c.toNat

/-- The flags of `a + b + c` (10 R28, R32). -/
def addFlags {n : Nat} (a b : BitVec n) (c : Bool) : Flags where
  cf := decide (2 ^ n ≤ a.toNat + b.toNat + c.toNat)
  pf := evenOnes (a + b + carryIn n c)
  af := decide (16 ≤ a.toNat % 16 + b.toNat % 16 + c.toNat)
  zf := a + b + carryIn n c == 0
  sf := (a + b + carryIn n c).msb
  of := (a + b + carryIn n c).toInt != a.toInt + b.toInt + c.toNat

/-- The flags of `a - b - c` (10 R28, R33). -/
def subFlags {n : Nat} (a b : BitVec n) (c : Bool) : Flags where
  cf := decide (a.toNat < b.toNat + c.toNat)
  pf := evenOnes (a - b - carryIn n c)
  af := decide (a.toNat % 16 < b.toNat % 16 + c.toNat)
  zf := a - b - carryIn n c == 0
  sf := (a - b - carryIn n c).msb
  of := (a - b - carryIn n c).toInt != a.toInt - b.toInt - c.toNat

/-- ZF, SF and PF are those of a result. -/
def ofResult {n : Nat} (r : BitVec n) (f : Flags) : Prop := f.zf = (r == 0) ∧ f.sf = r.msb ∧ f.pf = evenOnes r

/-- The flags a logical result defines; AF is undefined (43 R500). -/
def ofLogic {n : Nat} (r : BitVec n) (f : Flags) : Prop := f.cf = false ∧ f.of = false ∧ ofResult r f

/-! ## The forms of one rule -/

/-- A source operand. -/
inductive Src (ρ : Type) (n : Nat) where
  | e (e : RM ρ)
  | imm (v : BitVec n)
deriving DecidableEq, Repr

/-- A byte source can be read. -/
def State.canReadSrc8 (s : State) : Src Reg8 8 → Prop
  | .e e => s.canReadEb e
  | .imm _ => True

/-- A word source can be read. -/
def State.canReadSrc16 (s : State) : Src Reg16 16 → Prop
  | .e e => s.canReadEw e
  | .imm _ => True

/-- A byte source's value. -/
def State.valueSrc8 (s : State) : Src Reg8 8 → Byte
  | .e e => s.valueEb e
  | .imm v => v

/-- A word source's value. -/
def State.valueSrc16 (s : State) : Src Reg16 16 → Word
  | .e e => s.valueEw e
  | .imm v => v

/-- The two-operand operations (42 R400, 43 R503). -/
inductive AluOp where
  | add | or | adc | sbb | and | sub | xor | cmp | test
deriving DecidableEq, Repr

/-- The result, from CF and the operands. -/
def AluOp.result {n : Nat} (o : AluOp) (c : Bool) (a b : BitVec n) : BitVec n :=
  match o with
  | .add => a + b
  | .or => a ||| b
  | .adc => a + b + carryIn n c
  | .sbb => a - b - carryIn n c
  | .and => a &&& b
  | .sub => a - b
  | .xor => a ^^^ b
  | .cmp => a - b
  | .test => a &&& b

/-- CMP and TEST write no operand. -/
def AluOp.writes : AluOp → Bool
  | .add => true
  | .or => true
  | .adc => true
  | .sbb => true
  | .and => true
  | .sub => true
  | .xor => true
  | .cmp => false
  | .test => false

/-- The flags after it, from CF before it and the operands. -/
def AluOp.flagged {n : Nat} (o : AluOp) (c : Bool) (a b : BitVec n) (f : Flags) : Prop :=
  match o with
  | .add => f = addFlags a b false
  | .or => ofLogic (a ||| b) f
  | .adc => f = addFlags a b c
  | .sbb => f = subFlags a b c
  | .and => ofLogic (a &&& b) f
  | .sub => f = subFlags a b false
  | .xor => ofLogic (a ^^^ b) f
  | .cmp => f = subFlags a b false
  | .test => ofLogic (a &&& b) f

/-- The byte forms: operation, destination, source (42 R400, 43 R503). -/
def aluForm8 : Instr → Option (AluOp × RM Reg8 × Src Reg8 8)
  | .addEbGb e g => some (.add, e, .e (.reg g))
  | .addGbEb e g => some (.add, .reg g, .e e)
  | .addAlIb ib => some (.add, .reg .al, .imm ib)
  | .addEbIb _ e ib => some (.add, e, .imm ib)
  | .orEbGb e g => some (.or, e, .e (.reg g))
  | .orGbEb e g => some (.or, .reg g, .e e)
  | .orAlIb ib => some (.or, .reg .al, .imm ib)
  | .orEbIb _ e ib => some (.or, e, .imm ib)
  | .adcEbGb e g => some (.adc, e, .e (.reg g))
  | .adcGbEb e g => some (.adc, .reg g, .e e)
  | .adcAlIb ib => some (.adc, .reg .al, .imm ib)
  | .adcEbIb _ e ib => some (.adc, e, .imm ib)
  | .sbbEbGb e g => some (.sbb, e, .e (.reg g))
  | .sbbGbEb e g => some (.sbb, .reg g, .e e)
  | .sbbAlIb ib => some (.sbb, .reg .al, .imm ib)
  | .sbbEbIb _ e ib => some (.sbb, e, .imm ib)
  | .andEbGb e g => some (.and, e, .e (.reg g))
  | .andGbEb e g => some (.and, .reg g, .e e)
  | .andAlIb ib => some (.and, .reg .al, .imm ib)
  | .andEbIb _ e ib => some (.and, e, .imm ib)
  | .subEbGb e g => some (.sub, e, .e (.reg g))
  | .subGbEb e g => some (.sub, .reg g, .e e)
  | .subAlIb ib => some (.sub, .reg .al, .imm ib)
  | .subEbIb _ e ib => some (.sub, e, .imm ib)
  | .xorEbGb e g => some (.xor, e, .e (.reg g))
  | .xorGbEb e g => some (.xor, .reg g, .e e)
  | .xorAlIb ib => some (.xor, .reg .al, .imm ib)
  | .xorEbIb _ e ib => some (.xor, e, .imm ib)
  | .cmpEbGb e g => some (.cmp, e, .e (.reg g))
  | .cmpGbEb e g => some (.cmp, .reg g, .e e)
  | .cmpAlIb ib => some (.cmp, .reg .al, .imm ib)
  | .cmpEbIb _ e ib => some (.cmp, e, .imm ib)
  | .testEbGb e g => some (.test, e, .e (.reg g))
  | .testAlIb ib => some (.test, .reg .al, .imm ib)
  | .testEbIb e ib => some (.test, e, .imm ib)
  | .testEbIb1 e ib => some (.test, e, .imm ib)
  | _ => none

/-- The word forms: operation, destination, source (42 R400, 43 R503). -/
def aluForm16 : Instr → Option (AluOp × RM Reg16 × Src Reg16 16)
  | .addEwGw e g => some (.add, e, .e (.reg g))
  | .addGwEw e g => some (.add, .reg g, .e e)
  | .addAxIw iw => some (.add, .reg .ax, .imm iw)
  | .addEwIw e iw => some (.add, e, .imm iw)
  | .addEwIbs e ib => some (.add, e, .imm (sext16 ib))
  | .orEwGw e g => some (.or, e, .e (.reg g))
  | .orGwEw e g => some (.or, .reg g, .e e)
  | .orAxIw iw => some (.or, .reg .ax, .imm iw)
  | .orEwIw e iw => some (.or, e, .imm iw)
  | .orEwIbs e ib => some (.or, e, .imm (sext16 ib))
  | .adcEwGw e g => some (.adc, e, .e (.reg g))
  | .adcGwEw e g => some (.adc, .reg g, .e e)
  | .adcAxIw iw => some (.adc, .reg .ax, .imm iw)
  | .adcEwIw e iw => some (.adc, e, .imm iw)
  | .adcEwIbs e ib => some (.adc, e, .imm (sext16 ib))
  | .sbbEwGw e g => some (.sbb, e, .e (.reg g))
  | .sbbGwEw e g => some (.sbb, .reg g, .e e)
  | .sbbAxIw iw => some (.sbb, .reg .ax, .imm iw)
  | .sbbEwIw e iw => some (.sbb, e, .imm iw)
  | .sbbEwIbs e ib => some (.sbb, e, .imm (sext16 ib))
  | .andEwGw e g => some (.and, e, .e (.reg g))
  | .andGwEw e g => some (.and, .reg g, .e e)
  | .andAxIw iw => some (.and, .reg .ax, .imm iw)
  | .andEwIw e iw => some (.and, e, .imm iw)
  | .andEwIbs e ib => some (.and, e, .imm (sext16 ib))
  | .subEwGw e g => some (.sub, e, .e (.reg g))
  | .subGwEw e g => some (.sub, .reg g, .e e)
  | .subAxIw iw => some (.sub, .reg .ax, .imm iw)
  | .subEwIw e iw => some (.sub, e, .imm iw)
  | .subEwIbs e ib => some (.sub, e, .imm (sext16 ib))
  | .xorEwGw e g => some (.xor, e, .e (.reg g))
  | .xorGwEw e g => some (.xor, .reg g, .e e)
  | .xorAxIw iw => some (.xor, .reg .ax, .imm iw)
  | .xorEwIw e iw => some (.xor, e, .imm iw)
  | .xorEwIbs e ib => some (.xor, e, .imm (sext16 ib))
  | .cmpEwGw e g => some (.cmp, e, .e (.reg g))
  | .cmpGwEw e g => some (.cmp, .reg g, .e e)
  | .cmpAxIw iw => some (.cmp, .reg .ax, .imm iw)
  | .cmpEwIw e iw => some (.cmp, e, .imm iw)
  | .cmpEwIbs e ib => some (.cmp, e, .imm (sext16 ib))
  | .testEwGw e g => some (.test, e, .e (.reg g))
  | .testAxIw iw => some (.test, .reg .ax, .imm iw)
  | .testEwIw e iw => some (.test, e, .imm iw)
  | .testEwIw1 e iw => some (.test, e, .imm iw)
  | _ => none

/-- The one-operand operations (42 R406 to R410, 43 R504). -/
inductive UnaryOp where
  | inc | dec | neg | not
deriving DecidableEq, Repr

/-- The result. -/
def UnaryOp.result {n : Nat} (o : UnaryOp) (a : BitVec n) : BitVec n :=
  match o with
  | .inc => a + 1
  | .dec => a - 1
  | .neg => 0 - a
  | .not => ~~~a

/-- The flags after it, from the flags before it and the operand. -/
def UnaryOp.flags {n : Nat} (o : UnaryOp) (f : Flags) (a : BitVec n) : Flags :=
  match o with
  | .inc => { addFlags a 1 false with cf := f.cf }
  | .dec => { subFlags a 1 false with cf := f.cf }
  | .neg => subFlags 0 a false
  | .not => f

/-- The byte forms. -/
def unaryForm8 : Instr → Option (UnaryOp × RM Reg8)
  | .incEb e => some (.inc, e)
  | .decEb e => some (.dec, e)
  | .negEb e => some (.neg, e)
  | .notEb e => some (.not, e)
  | _ => none

/-- The word forms. -/
def unaryForm16 : Instr → Option (UnaryOp × RM Reg16)
  | .incEw e => some (.inc, e)
  | .decEw e => some (.dec, e)
  | .negEw e => some (.neg, e)
  | .notEw e => some (.not, e)
  | .incR16 r => some (.inc, .reg r)
  | .decR16 r => some (.dec, .reg r)
  | _ => none

/-- The shifts and rotates (43 R511 to R517). -/
inductive ShiftOp where
  | rol | ror | rcl | rcr | shl | shr | sar
deriving DecidableEq, Repr

/-- One shift or rotate by a single bit, on CF and the operand. -/
def ShiftOp.single {n : Nat} (o : ShiftOp) (x : Bool × BitVec n) : Bool × BitVec n :=
  match o with
  | .rol => (x.2.msb, x.2 <<< 1 ||| carryIn n x.2.msb)
  | .ror => (x.2.getLsbD 0, x.2 >>> 1 ||| carryIn n (x.2.getLsbD 0) <<< (n - 1))
  | .rcl => (x.2.msb, x.2 <<< 1 ||| carryIn n x.1)
  | .rcr => (x.2.getLsbD 0, x.2 >>> 1 ||| carryIn n x.1 <<< (n - 1))
  | .shl => (x.2.msb, x.2 <<< 1)
  | .shr => (x.2.getLsbD 0, x.2 >>> 1)
  | .sar => (x.2.getLsbD 0, x.2.sshiftRight 1)

/-- That many shifts or rotates by a single bit. -/
def ShiftOp.repeated {n : Nat} (o : ShiftOp) : Nat → Bool × BitVec n → Bool × BitVec n
  | 0, x => x
  | k + 1, x => ShiftOp.repeated o k (o.single x)

/-- OF of a shift or rotate by one, from CF and the operand before it and the result (43 R511 to R517). -/
def ShiftOp.overflow {n : Nat} (o : ShiftOp) (c : Bool) (d r : BitVec n) : Bool :=
  match o with
  | .rol => r.msb ^^ r.getLsbD 0
  | .ror => r.msb ^^ r.getLsbD (n - 2)
  | .rcl => r.msb ^^ d.msb
  | .rcr => d.msb ^^ c
  | .shl => r.msb ^^ d.msb
  | .shr => d.msb
  | .sar => false

/-- The rotates keep SF, ZF, AF and PF. -/
def ShiftOp.rotates : ShiftOp → Bool
  | .rol => true
  | .ror => true
  | .rcl => true
  | .rcr => true
  | .shl => false
  | .shr => false
  | .sar => false

/-- The flags after a shift or rotate by `c` above 0, from the flags and the operand before it; OF is given
for a count of 1, and AF of a shift is undefined (43 R510 to R517). -/
def ShiftOp.flagged {n : Nat} (o : ShiftOp) (f : Flags) (d : BitVec n) (c : Nat) (g : Flags) : Prop :=
  g.cf = (o.repeated c (f.cf, d)).1 ∧
    (c = 1 → g.of = o.overflow f.cf d (o.repeated c (f.cf, d)).2) ∧
    (if o.rotates then g.sf = f.sf ∧ g.zf = f.zf ∧ g.af = f.af ∧ g.pf = f.pf
     else ofResult (o.repeated c (f.cf, d)).2 g)

/-- Where a count comes from. -/
inductive ShiftCount where
  | one | cl | imm (v : Byte)
deriving DecidableEq, Repr

/-- The count given. -/
def State.countOf (s : State) : ShiftCount → Byte
  | .one => 1
  | .cl => s.reg8 .cl
  | .imm v => v

/-- The byte forms: operation, operand, count (30 R233). -/
def shiftForm8 : Instr → Option (ShiftOp × RM Reg8 × ShiftCount)
  | .rolEb1 e => some (.rol, e, .one)
  | .rolEbCl e => some (.rol, e, .cl)
  | .rolEbIb e ib => some (.rol, e, .imm ib)
  | .rorEb1 e => some (.ror, e, .one)
  | .rorEbCl e => some (.ror, e, .cl)
  | .rorEbIb e ib => some (.ror, e, .imm ib)
  | .rclEb1 e => some (.rcl, e, .one)
  | .rclEbCl e => some (.rcl, e, .cl)
  | .rclEbIb e ib => some (.rcl, e, .imm ib)
  | .rcrEb1 e => some (.rcr, e, .one)
  | .rcrEbCl e => some (.rcr, e, .cl)
  | .rcrEbIb e ib => some (.rcr, e, .imm ib)
  | .shlEb1 e => some (.shl, e, .one)
  | .shlEbCl e => some (.shl, e, .cl)
  | .shlEbIb e ib => some (.shl, e, .imm ib)
  | .shrEb1 e => some (.shr, e, .one)
  | .shrEbCl e => some (.shr, e, .cl)
  | .shrEbIb e ib => some (.shr, e, .imm ib)
  | .sarEb1 e => some (.sar, e, .one)
  | .sarEbCl e => some (.sar, e, .cl)
  | .sarEbIb e ib => some (.sar, e, .imm ib)
  | _ => none

/-- The word forms (30 R233). -/
def shiftForm16 : Instr → Option (ShiftOp × RM Reg16 × ShiftCount)
  | .rolEw1 e => some (.rol, e, .one)
  | .rolEwCl e => some (.rol, e, .cl)
  | .rolEwIb e ib => some (.rol, e, .imm ib)
  | .rorEw1 e => some (.ror, e, .one)
  | .rorEwCl e => some (.ror, e, .cl)
  | .rorEwIb e ib => some (.ror, e, .imm ib)
  | .rclEw1 e => some (.rcl, e, .one)
  | .rclEwCl e => some (.rcl, e, .cl)
  | .rclEwIb e ib => some (.rcl, e, .imm ib)
  | .rcrEw1 e => some (.rcr, e, .one)
  | .rcrEwCl e => some (.rcr, e, .cl)
  | .rcrEwIb e ib => some (.rcr, e, .imm ib)
  | .shlEw1 e => some (.shl, e, .one)
  | .shlEwCl e => some (.shl, e, .cl)
  | .shlEwIb e ib => some (.shl, e, .imm ib)
  | .shrEw1 e => some (.shr, e, .one)
  | .shrEwCl e => some (.shr, e, .cl)
  | .shrEwIb e ib => some (.shr, e, .imm ib)
  | .sarEw1 e => some (.sar, e, .one)
  | .sarEwCl e => some (.sar, e, .cl)
  | .sarEwIb e ib => some (.sar, e, .imm ib)
  | _ => none

/-- The byte moves: destination, source (41 R300 to R305). -/
def moveForm8 : Instr → Option (RM Reg8 × Src Reg8 8)
  | .movEbGb e g => some (e, .e (.reg g))
  | .movGbEb e g => some (.reg g, .e e)
  | .movR8Ib r ib => some (.reg r, .imm ib)
  | .movEbIb e ib => some (e, .imm ib)
  | .movAlOb off => some (.reg .al, .e (.mem (.direct off)))
  | .movObAl off => some (.mem (.direct off), .e (.reg .al))
  | _ => none

/-- The word moves: destination, source (41 R300 to R305). -/
def moveForm16 : Instr → Option (RM Reg16 × Src Reg16 16)
  | .movEwGw e g => some (e, .e (.reg g))
  | .movGwEw e g => some (.reg g, .e e)
  | .movR16Iw r iw => some (.reg r, .imm iw)
  | .movEwIw e iw => some (e, .imm iw)
  | .movAxOw off => some (.reg .ax, .e (.mem (.direct off)))
  | .movOwAx off => some (.mem (.direct off), .e (.reg .ax))
  | _ => none

/-- The word exchanges (41 R320, R321). -/
def exchangeForm16 : Instr → Option (RM Reg16 × Reg16)
  | .xchgEwGw e g => some (e, g)
  | .xchgAxCx => some (.reg .ax, .cx)
  | .xchgAxDx => some (.reg .ax, .dx)
  | .xchgAxBx => some (.reg .ax, .bx)
  | .xchgAxSp => some (.reg .ax, .sp)
  | .xchgAxBp => some (.reg .ax, .bp)
  | .xchgAxSi => some (.reg .ax, .si)
  | .xchgAxDi => some (.reg .ax, .di)
  | _ => none

/-- PUSH SP pushes SP − 2 before the 80286 and SP on it (41 R332). -/
def State.pushedSp (s : State) : Word :=
  match s.cls with
  | .c86 => s.regs.sp - 2
  | .c186 => s.regs.sp - 2
  | .c286 => s.regs.sp

/-- What the pushes that read no memory push (41 R331, R332, R335, R339, R342). -/
def State.pushedBy (s : State) : Instr → Option Word
  | .pushR16 r => some (s.reg r)
  | .pushSp => some s.pushedSp
  | .pushSpFF => some s.pushedSp
  | .pushEs => some (s.seg .es).selector
  | .pushCs => some (s.seg .cs).selector
  | .pushSs => some (s.seg .ss).selector
  | .pushDs => some (s.seg .ds).selector
  | .pushIw iw => some iw
  | .pushIbs ib => some (sext16 ib)
  | .pushf => some s.getPS
  | _ => none

/-- What a condition asks of the flags (30 R232, 45 R651 to R666). -/
def Cond.asks (f : Flags) : Cond → Prop
  | .o => f.of = true
  | .no => f.of = false
  | .b => f.cf = true
  | .nb => f.cf = false
  | .z => f.zf = true
  | .nz => f.zf = false
  | .be => f.cf = true ∨ f.zf = true
  | .a => f.cf = false ∧ f.zf = false
  | .s => f.sf = true
  | .ns => f.sf = false
  | .p => f.pf = true
  | .np => f.pf = false
  | .l => f.sf ≠ f.of
  | .ge => f.sf = f.of
  | .le => f.zf = true ∨ f.sf ≠ f.of
  | .g => f.zf = false ∧ f.sf = f.of

/-- The conditional jumps: condition, displacement (45 R651 to R666; on C86 30 R242). -/
def condForm : Instr → Option (Cond × Byte)
  | .joJb ib => some (.o, ib)
  | .joJb60 ib => some (.o, ib)
  | .jnoJb ib => some (.no, ib)
  | .jnoJb61 ib => some (.no, ib)
  | .jbJb ib => some (.b, ib)
  | .jbJb62 ib => some (.b, ib)
  | .jnbJb ib => some (.nb, ib)
  | .jnbJb63 ib => some (.nb, ib)
  | .jzJb ib => some (.z, ib)
  | .jzJb64 ib => some (.z, ib)
  | .jnzJb ib => some (.nz, ib)
  | .jnzJb65 ib => some (.nz, ib)
  | .jbeJb ib => some (.be, ib)
  | .jbeJb66 ib => some (.be, ib)
  | .jaJb ib => some (.a, ib)
  | .jaJb67 ib => some (.a, ib)
  | .jsJb ib => some (.s, ib)
  | .jsJb68 ib => some (.s, ib)
  | .jnsJb ib => some (.ns, ib)
  | .jnsJb69 ib => some (.ns, ib)
  | .jpJb ib => some (.p, ib)
  | .jpJb6A ib => some (.p, ib)
  | .jnpJb ib => some (.np, ib)
  | .jnpJb6B ib => some (.np, ib)
  | .jlJb ib => some (.l, ib)
  | .jlJb6C ib => some (.l, ib)
  | .jgeJb ib => some (.ge, ib)
  | .jgeJb6D ib => some (.ge, ib)
  | .jleJb ib => some (.le, ib)
  | .jleJb6E ib => some (.le, ib)
  | .jgJb ib => some (.g, ib)
  | .jgJb6F ib => some (.g, ib)
  | _ => none

/-- The near returns, by the bytes they release (45 R680, R681; on C86 30 R243). -/
def nearReturnForm : Instr → Option Word
  | .ret => some 0
  | .retC1 => some 0
  | .retIw iw => some iw
  | .retIwC0 iw => some iw
  | _ => none

/-- The far returns, by the bytes they release (45 R682, R683; on C86 30 R243). -/
def farReturnForm : Instr → Option Word
  | .retf => some 0
  | .retfC9 => some 0
  | .retfIw iw => some iw
  | .retfIwC8 iw => some iw
  | _ => none

/-- The far transfers: whether it is a CALL, the selector and the offset; a pointer in memory is read
(45 R670, R672, R675, R676). -/
def State.farForm (s : State) : Instr → Option (Bool × Word × Word)
  | .jmpAp off sel => some (false, sel, off)
  | .callAp off sel => some (true, sel, off)
  | .jmpMp m => some (false, (s.valuePair m).2, (s.valuePair m).1)
  | .callMp m => some (true, (s.valuePair m).2, (s.valuePair m).1)
  | _ => none

/-- The pointer of a far transfer can be read. -/
def State.canReadFar (s : State) : Instr → Prop
  | .jmpMp m => s.canReadPair m
  | .callMp m => s.canReadPair m
  | _ => True

/-- The state after the pointer of a far transfer is read. -/
def State.afterFar (s : State) : Instr → State
  | .jmpMp m => s.afterPair m
  | .callMp m => s.afterPair m
  | _ => s

/-- The returns to a code segment: the bytes released, and the distance from SP to the outer stack's SP (45 R684,
60 R951). -/
def returnForm : Instr → Option (Word × Word)
  | .iret => some (0, 6)
  | i => (farReturnForm i).map fun k => (k, 4 + k)

/-- The words of a protected-mode return can be read, and IRET has no task to return to. -/
structure State.returnsTo (s : State) (i : Instr) (off sel : Word) : Prop where
  mode     : s.protectedMode = true
  offset   : s.segRead16 .ss (s.reg .sp) = .ok (off, s)
  selector : s.segRead16 .ss (s.reg .sp + 2) = .ok (sel, s)
  noTask   : i = .iret → s.nt = false ∧
    ∃ f, s.segRead16 .ss (s.reg .sp + 4) = .ok (f, s) ∧ f.getLsbD 14 = false

/-- A near target lies in CS (45 R650, R667, R680). -/
abbrev State.inCode (s : State) (target : Word) : Prop :=
  s.protectedMode = true → target.toNat ≤ (s.seg .cs).limit.toNat

/-- The port instructions that read: port, width in bytes (41 R350, R351). -/
def State.inForm (s : State) : Instr → Option (Word × Nat)
  | .inAlIb ib => some (zext16 ib, 1)
  | .inAxIb ib => some (zext16 ib, 2)
  | .inAlDx => some (s.reg .dx, 1)
  | .inAxDx => some (s.reg .dx, 2)
  | _ => none

/-- The port instructions that write: port, width in bytes, value (41 R352, R353). -/
def State.outForm (s : State) : Instr → Option (Word × Nat × Word)
  | .outIbAl ib => some (zext16 ib, 1, zext16 (s.reg8 .al))
  | .outIbAx ib => some (zext16 ib, 2, s.reg .ax)
  | .outDxAl => some (s.reg .dx, 1, zext16 (s.reg8 .al))
  | .outDxAx => some (s.reg .dx, 2, s.reg .ax)
  | _ => none

/-- The string instructions: the element, and whether it compares (44 R602, R606 to R612). -/
def elementForm : Instr → Option ((State → Res State) × Bool)
  | .movsb => some (State.movsB, false)
  | .movsw => some (State.movsW, false)
  | .cmpsb => some (State.cmpsB, true)
  | .cmpsw => some (State.cmpsW, true)
  | .scasb => some (State.scasB, true)
  | .scasw => some (State.scasW, true)
  | .lodsb => some (State.lodsB, false)
  | .lodsw => some (State.lodsW, false)
  | .stosb => some (State.stosB, false)
  | .stosw => some (State.stosW, false)
  | .insb => some (State.insB, false)
  | .insw => some (State.insW, false)
  | .outsb => some (State.outsB, false)
  | .outsw => some (State.outsW, false)
  | _ => none

/-! ## Memory accesses in their order (20 R129) -/

/-- A memory access: segment, offset, bytes after the first, whether it writes. -/
abbrev MemAccess := SegReg × Word × Nat × Bool

/-- A read of a memory operand. -/
def State.readOf (s : State) (m : MemRef) (extra : Nat) : MemAccess := (s.opSeg m, s.ea m, extra, false)

/-- A write of a memory operand. -/
def State.writeOf (s : State) (m : MemRef) (extra : Nat) : MemAccess := (s.opSeg m, s.ea m, extra, true)

/-- A read of an E operand. -/
def State.readsOf {ρ : Type} (s : State) (extra : Nat) : RM ρ → List MemAccess
  | .reg _ => []
  | .mem m => [s.readOf m extra]

/-- A write of an E operand. -/
def State.writesOf {ρ : Type} (s : State) (extra : Nat) : RM ρ → List MemAccess
  | .reg _ => []
  | .mem m => [s.writeOf m extra]

/-- The reads of the two words at a memory operand (41 R325). -/
def State.pairReads (s : State) (m : MemRef) : List MemAccess := [s.readOf m 1, (s.opSeg m, s.ea m + 2, 1, false)]

/-- The read of a source operand. -/
def State.sourceReads {ρ : Type} {n : Nat} (s : State) (extra : Nat) : Src ρ n → List MemAccess
  | .e e => s.readsOf extra e
  | .imm _ => []

/-- The write of that many words below the top of the stack (41 R330). -/
def State.pushes (s : State) (n : Nat) : List MemAccess :=
  (List.range n).map fun k => (.ss, s.reg .sp - BitVec.ofNat 16 (2 * (k + 1)), 1, true)

/-- The read of that many words from the top of the stack (41 R330). -/
def State.pops (s : State) (n : Nat) : List MemAccess :=
  (List.range n).map fun k => (.ss, s.reg .sp + BitVec.ofNat 16 (2 * k), 1, false)

/-- A two-operand operation reads its operands, and writes its destination if it writes one. -/
def State.aluAccesses {ρ : Type} {n : Nat} (s : State) (extra : Nat) (x : AluOp × RM ρ × Src ρ n) : List MemAccess :=
  s.readsOf extra x.2.1 ++ s.sourceReads extra x.2.2 ++ if x.1.writes then s.writesOf extra x.2.1 else []

/-- A one-operand operation reads its operand and writes it. -/
def State.unaryAccesses {ρ : Type} (s : State) (extra : Nat) (x : UnaryOp × RM ρ) : List MemAccess :=
  s.readsOf extra x.2 ++ s.writesOf extra x.2

/-- A shift reads its operand, and writes it if its count is not 0 (43 R510). -/
def State.shiftAccesses {ρ : Type} (s : State) (extra : Nat) (x : ShiftOp × RM ρ × ShiftCount) : List MemAccess :=
  s.readsOf extra x.2.1 ++ if s.shiftCount (s.countOf x.2.2) = 0 then [] else s.writesOf extra x.2.1

/-- A move reads its source and writes its destination. -/
def State.moveAccesses {ρ : Type} {n : Nat} (s : State) (extra : Nat) (x : RM ρ × Src ρ n) : List MemAccess :=
  s.sourceReads extra x.2 ++ s.writesOf extra x.1

/-- The accesses of a form that the instruction may have. -/
def accessesOf {α : Type} (f : α → List MemAccess) : Option α → List MemAccess
  | none => []
  | some x => f x

/-- The two-operand and one-operand instructions, the shifts and the moves. -/
def State.formAccesses (s : State) (i : Instr) : List MemAccess :=
  accessesOf (s.aluAccesses 1) (aluForm16 i) ++ accessesOf (s.aluAccesses 0) (aluForm8 i) ++
  accessesOf (s.unaryAccesses 1) (unaryForm16 i) ++ accessesOf (s.unaryAccesses 0) (unaryForm8 i) ++
  accessesOf (s.shiftAccesses 1) (shiftForm16 i) ++ accessesOf (s.shiftAccesses 0) (shiftForm8 i) ++
  accessesOf (s.moveAccesses 1) (moveForm16 i) ++ accessesOf (s.moveAccesses 0) (moveForm8 i) ++
  accessesOf (fun x => s.readsOf 1 x.1 ++ s.writesOf 1 x.1) (exchangeForm16 i)

/-- XCHG Eb,Gb, XLAT, the multiplications and divisions, MOV Ew,Sw and SMSW (41 R306, R320, R323; 42 R411 to
R415; 47 R805). -/
def State.operandAccesses (s : State) : Instr → List MemAccess
  | .xchgEbGb e _ => s.readsOf 0 e ++ s.writesOf 0 e
  | .xlat => [(s.segOr .ds, s.reg .bx + zext16 (s.reg8 .al), 0, false)]
  | .mulEb e => s.readsOf 0 e
  | .mulEw e => s.readsOf 1 e
  | .imulEb e => s.readsOf 0 e
  | .imulEw e => s.readsOf 1 e
  | .imulGwEwIw e _ _ => s.readsOf 1 e
  | .imulGwEwIbs e _ _ => s.readsOf 1 e
  | .divEb e => s.readsOf 0 e
  | .divEw e => s.readsOf 1 e
  | .idivEb e => s.readsOf 0 e
  | .idivEw e => s.readsOf 1 e
  | .movEwSw e _ => s.writesOf 1 e
  | .movEwSwHigh e _ => s.writesOf 1 e
  | .smswEw e => s.writesOf 1 e
  | _ => []

/-- The string element runs: there is no repeat prefix, or CX is not 0 (44 R602); INS and OUTS pass the IOPL check
(44 R611, R612). -/
def State.elementRuns (s : State) (port : Bool) : Bool :=
  (s.scratch.rep == none || s.reg .cx != 0) && !(port && s.ioplDenies)

/-- The accesses of a string element, the source before the destination (44 R606 to R612). -/
def State.elementAccesses (s : State) : Instr → List MemAccess
  | .movsb => [(s.segOr .ds, s.reg .si, 0, false), (.es, s.reg .di, 0, true)]
  | .movsw => [(s.segOr .ds, s.reg .si, 1, false), (.es, s.reg .di, 1, true)]
  | .cmpsb => [(s.segOr .ds, s.reg .si, 0, false), (.es, s.reg .di, 0, false)]
  | .cmpsw => [(s.segOr .ds, s.reg .si, 1, false), (.es, s.reg .di, 1, false)]
  | .lodsb => [(s.segOr .ds, s.reg .si, 0, false)]
  | .lodsw => [(s.segOr .ds, s.reg .si, 1, false)]
  | .stosb => [(.es, s.reg .di, 0, true)]
  | .stosw => [(.es, s.reg .di, 1, true)]
  | .scasb => [(.es, s.reg .di, 0, false)]
  | .scasw => [(.es, s.reg .di, 1, false)]
  | .outsb => [(s.segOr .ds, s.reg .si, 0, false)]
  | .outsw => [(s.segOr .ds, s.reg .si, 1, false)]
  | .insb => [(.es, s.reg .di, 0, true)]
  | .insw => [(.es, s.reg .di, 1, true)]
  | _ => []

/-- INS and OUTS. -/
def portElement : Instr → Bool
  | .insb => true
  | .insw => true
  | .outsb => true
  | .outsw => true
  | _ => false

/-- The accesses of a string instruction. -/
def State.stringAccesses (s : State) (i : Instr) : List MemAccess :=
  if s.elementRuns (portElement i) then s.elementAccesses i else []

/-- ENTER at a level above 0: each frame pointer is read where BP points and pushed, then the new one is (45 R710). -/
def State.enterAccesses (s : State) (level : Nat) : List MemAccess :=
  match level with
  | 0 => s.pushes 1
  | n + 1 =>
    s.pushes 1 ++ ((List.range n).flatMap fun k =>
      [(.ss, s.reg .bp - BitVec.ofNat 16 (2 * (k + 1)), 1, false),
       (.ss, s.reg .sp - BitVec.ofNat 16 (2 * (k + 2)), 1, true)]) ++
      [(.ss, s.reg .sp - BitVec.ofNat 16 (2 * (n + 2)), 1, true)]

/-- The pushes, the pops, the segment loads, ENTER, LEAVE and BOUND (41 R310, R325, R330 to R343; 45 R710 to R712). -/
def State.stackAccesses (s : State) : Instr → List MemAccess
  | .pushEw e => s.readsOf 1 e ++ s.pushes 1
  | .popEw e => s.pops 1 ++ s.writesOf 1 e
  | .popR16 _ => s.pops 1
  | .popf => s.pops 1
  | .popEs => s.pops 1
  | .popSs => s.pops 1
  | .popDs => s.pops 1
  | .popCs => s.pops 1
  | .pusha => s.pushes 8
  | .popa => s.pops 8
  | .movSwEw e r => if r = .cs then [] else s.readsOf 1 e
  | .movSwEwHigh e r => if r = .cs then [] else s.readsOf 1 e
  | .ldsGwMp m _ => s.pairReads m
  | .lesGwMp m _ => s.pairReads m
  | .enterIwIb _ lev => s.enterAccesses (lev.toNat % 32)
  | .leave => [(.ss, s.reg .bp, 1, false)]
  | .boundGwMa m _ => s.pairReads m
  | i => if (s.pushedBy i).isSome then s.pushes 1 else []

/-- The return address of a far call in real mode (45 R671). -/
def State.realCallPushes (s : State) : List MemAccess := if s.protectedMode then [] else s.pushes 2

/-- IRET in protected mode is a task return before it reads the stack (60 R951; 92 D35). -/
def State.iretIsTask (s : State) : Bool := s.protectedMode && s.cfg.iretNt == .current && s.nt

/-- The near and far transfers: an operand in memory, then what a call pushes once its target is checked (a far
call of protected mode pushes after its descriptor's checks, which other statements say); what a return pops
before its selector's checks (45 R669 to R684, 60 R950, R951). -/
def State.transferAccesses (s : State) : Instr → List MemAccess
  | .jmpEw e => s.readsOf 1 e
  | .callEw e => s.readsOf 1 e ++ if s.inCode (s.valueEw e) then s.pushes 1 else []
  | .callJw w => if s.inCode (s.ip + w) then s.pushes 1 else []
  | .jmpMp m => s.pairReads m
  | .callMp m => s.pairReads m ++ s.realCallPushes
  | .callAp _ _ => s.realCallPushes
  | .iret => if s.iretIsTask then [] else s.pops 3
  | i => if (nearReturnForm i).isSome then s.pops 1 else if (farReturnForm i).isSome then s.pops 2 else []

/-- The privilege check of an instruction of CPL 0 passes (47 R800). -/
def State.privileged (s : State) : Bool := !s.protectedMode || s.sys.cpl == 0

/-- The system instructions, where their mode and privilege checks pass (47 R800 to R816). -/
def State.systemAccesses (s : State) : Instr → List MemAccess
  | .sldtEw e => if s.protectedMode then s.writesOf 1 e else []
  | .strEw e => if s.protectedMode then s.writesOf 1 e else []
  | .lldtEw e => if s.protectedMode && s.privileged then s.readsOf 1 e else []
  | .ltrEw e => if s.protectedMode && s.privileged then s.readsOf 1 e else []
  | .verrEw e => if s.protectedMode then s.readsOf 1 e else []
  | .verwEw e => if s.protectedMode then s.readsOf 1 e else []
  | .larGwEw e _ => if s.protectedMode then s.readsOf 1 e else []
  | .lslGwEw e _ => if s.protectedMode then s.readsOf 1 e else []
  | .arplEwGw e _ => if s.protectedMode then s.readsOf 1 e ++ s.writesOf 1 e else []
  | .sgdtMs m => [s.writeOf m 5]
  | .sidtMs m => [s.writeOf m 5]
  | .lgdtMs m => if s.privileged then [s.readOf m 4] else []
  | .lidtMs m => if s.privileged then [s.readOf m 4] else []
  | .lmswEw e => if s.privileged then s.readsOf 1 e else []
  | _ => []

/-- The memory accesses an instruction makes, in their order, as far as no other check stands between them. -/
def State.accesses (s : State) (i : Instr) : List MemAccess :=
  s.formAccesses i ++ s.operandAccesses i ++ s.stringAccesses i ++ s.stackAccesses i ++ s.transferAccesses i ++
    s.systemAccesses i

/-- What the check of a memory access raises (20 R130 to R134). -/
def State.faultOf (s : State) (a : MemAccess) : Option Exc := s.accessFault a.1 a.2.1 a.2.2.1 a.2.2.2

/-- What the first access of a list to fail its check raises. -/
def State.firstFault (s : State) (l : List MemAccess) : Option Exc := l.findSome? s.faultOf

/-! ## The step -/

/-- A boundary at which nothing is pending and host code has nothing to run (60 R900). -/
def State.undisturbed (s : State) : Prop :=
  s.status = .run ∧ s.host.returnNotify = [] ∧
    s.intFlags = { intr := false, trap := false, halt := false, dma := false }

/-- The `k`th byte from IP lies within CS's limit, where there is one (20 R143). -/
def State.inLimit (s : State) (k : Nat) : Prop :=
  s.protectedMode = true → (s.ip + BitVec.ofNat 16 k).toNat ≤ (s.seg .cs).limit.toNat

/-- The `k`th byte from IP is one of the ten that an instruction may have on C286 (30 R203). -/
def State.inLength (s : State) (k : Nat) : Prop :=
  s.cls = .c286 → (s.ip + BitVec.ofNat 16 k - s.scratch.startIp).toNat < 10

/-- The prefix bytes of every class (30 R201). -/
def prefixBytes : List Byte := [0x26, 0x2E, 0x36, 0x3E, 0xF0, 0xF2, 0xF3]

/-- The prefix bytes that name a segment (46 R762). -/
def overrideForm : Instr → Option SegReg
  | .prefixEs => some .es
  | .prefixCs => some .cs
  | .prefixSs => some .ss
  | .prefixDs => some .ds
  | _ => none

/-! ## Invariants -/

/-- The prefetch queue's registers are in range, and head, tail and counts agree (10 R54, R55); R55's "tail==head
iff queuedBytes==0" is `ring` with `room`. -/
structure Prefetch.ok (q : Prefetch) (m : Model) : Prop where
  slots  : q.slots.length = Prefetch.ringSize m
  head   : q.head < Prefetch.ringSize m
  tail   : q.tail < Prefetch.ringSize m
  queued : q.queuedBytes ≤ q.validBytes
  valid  : q.validBytes ≤ m.queueDepth
  room   : q.queuedBytes < Prefetch.ringSize m
  ring   : (q.tail + q.queuedBytes) % Prefetch.ringSize m = q.head

/-- What every step keeps, whatever the host does: memory is in its canonical form, bits 15:4 of MSW read
as 1 (10 R44), the live word holds direct bits only (10 R27), and the queue is in order, as is what an
unfinished repetition keeps of it. -/
structure State.Inv (s : State) : Prop where
  memory : Memory.wf s.mem = true
  msw    : s.sys.msw &&& 0xFFF0 = 0xFFF0
  live   : s.live &&& ~~~directMask s.cls = 0
  queue  : s.queue.ok s.cfg.model
  ahead  : ∀ p, s.rep = some p → p.ahead.ok s.cfg.model

/-- Host code has nothing to run inside a step (60 R981, 45 R700). -/
structure State.quiet (s : State) : Prop where
  notify : s.host.returnNotify = []
  intr   : ∀ a ∈ s.host.intercepts, a = InterceptAnswer.proceed

/-- What every step keeps while host code has nothing to run: outside protected mode CPL is 0 (10 R47), IOPL
and NT are 0 (10 R39) and no register is null-loaded (20 R119); only DS and ES can be null-loaded
(20 R122, R124); SS is a writable data segment (20 R124); every cache has its accessed bit (20 R127). -/
structure State.ModeInv (s : State) : Prop where
  quiet    : s.quiet
  cpl      : s.protectedMode = false → s.sys.cpl = 0
  direct   : s.protectedMode = false → s.live &&& 0x7000 = 0
  null     : ∀ r, (s.seg r).nullLoaded = true → s.protectedMode = true ∧ (r = .ds ∨ r = .es)
  stack    : accExec (s.seg .ss).access = false ∧ accBit1 (s.seg .ss).access = true
  accessed : ∀ r, accAccessed (s.seg r).access = true

end Sys2Proof.Machine
end

