-- ==== Sys2Proof/Certificates/Slice0/Obligations.lean ====
section
/-! DEFINITION. The statements. Each docstring names the rules it formalises. A statement about an
instruction says that `exec` answers a next state (its completion), what that state holds, and its frame. -/

section

open Sys2Proof Sys2Proof.Machine

/-! ## Reset and the invariants -/

/-- 70 R1001, R1003: the reset values of every class. Construction ends with reset, and reset leaves memory and
the block map alone. -/
def Obligations.ResetState : Prop :=
  (∀ c : Config, ∃ s : State, s.cfg = c ∧ State.construct c = s.resetCpu) ∧
  ∀ s : State,
    (∀ r, s.resetCpu.reg r = 0) ∧
    s.resetCpu.ip = (if s.cls = .c286 then 0xFFF0 else 0) ∧
    s.resetCpu.seg .cs =
      { selector := if s.cls = .c286 then 0xF000 else 0xFFFF
        base := if s.cls = .c286 then 0xFF0000 else 0xFFFF0
        limit := 0xFFFF, access := 0x93, nullLoaded := false } ∧
    (∀ r, r ≠ .cs →
      s.resetCpu.seg r = { selector := 0, base := 0, limit := 0xFFFF, access := 0x93, nullLoaded := false }) ∧
    s.resetCpu.getPS = (if s.cls ≠ .c286 ∧ s.cfg.psHigh = .ones then 0xF002 else 0x0002) ∧
    s.resetCpu.sys.msw = 0xFFF0 ∧ s.resetCpu.sys.idtr = { base := 0, limit := 0x03FF } ∧ s.resetCpu.sys.cpl = 0 ∧
    s.resetCpu.intFlags = { intr := false, trap := false, halt := false, dma := false } ∧
    s.resetCpu.nointr = false ∧ s.resetCpu.rep = none ∧
    s.resetCpu.scratch.override = none ∧ s.resetCpu.scratch.rep = none ∧ s.resetCpu.scratch.lock = false ∧
    s.resetCpu.scratch.ea = none ∧ s.resetCpu.status = .run ∧
    s.resetCpu.addrMask = (if s.cls = .c286 then 0xFFFFFF else 0x0FFFFF) ∧
    s.resetCpu.queue.restarts s.resetCpu.ip ∧
    s.resetCpu.segAddr .cs s.resetCpu.ip = (if s.cls = .c286 then 0xFFFFF0 else 0xFFFF0) ∧
    s.resetCpu.host.intNotify = [] ∧ s.resetCpu.host.returnNotify = [] ∧
    s.resetCpu.mem = s.mem ∧ s.resetCpu.blocks = s.blocks

/-- A new instance of any parameters meets both invariants; `State.reset` is one. -/
def Obligations.InvariantsAtReset : Prop :=
  State.reset = State.construct Config.default ∧
    ∀ c : Config, (State.construct c).Inv ∧ (State.construct c).ModeInv

/-- Every step keeps `State.Inv`: memory's canonical form, bits 15:4 of MSW (10 R44), the direct bits that exist
(10 R27), and the order of the prefetch queue (10 R54, R55). -/
def Obligations.StepKeepsInv : Prop := ∀ s t : State, s.Inv → step s = .next t → t.Inv

/-- Every step in which host code has nothing to run keeps `State.ModeInv`: outside protected mode CPL is 0, IOPL
and NT are 0 and nothing is null-loaded; only DS and ES are ever null-loaded; SS is a writable data segment;
every cache has its accessed bit (10 R39, R47; 20 R119, R120, R124, R127). -/
def Obligations.StepKeepsModes : Prop := ∀ s t : State, s.ModeInv → step s = .next t → t.ModeInv

/-- 10 R44, 47 R800, R812, R813: no instruction leaves protected mode, and only LGDT and LIDT, at CPL 0 in
protected mode, change GDTR and IDTR. (With no host code run inside the step.) -/
def Obligations.TablesGuarded : Prop :=
  ∀ (s t : State) (i : Instr), s.quiet → exec i s = .next t →
    (s.protectedMode = true → t.protectedMode = true) ∧
    (t.sys.gdtr ≠ s.sys.gdtr → (∃ m, i = .lgdtMs m) ∧ (s.protectedMode = true → s.sys.cpl = 0)) ∧
    (t.sys.idtr ≠ s.sys.idtr → (∃ m, i = .lidtMs m) ∧ (s.protectedMode = true → s.sys.cpl = 0))

/-! ## Encoding -/

/-- Decoding an encoded instruction gives it back, with every operand at every value its encoding admits, on
every class the instruction exists on (30 R200, R218 to R243). -/
def Obligations.DecodeEncode : Prop :=
  ∀ (cls : CpuClass) (i : Instr) (rest : List Byte), i.wfOn cls = true →
    decode cls (encode i ++ rest) = .ok (i, rest)

/-- 30 R274: any six bytes begin an instruction of the class, and the decoder takes one to six of them. R257 to
R273: the undefined encodings raise #UD, the encodings refused on C86 and LOADALL are refused; what follows is
not read. -/
def Obligations.DecodeTotal : Prop :=
  (∀ (cls : CpuClass) (bytes : List Byte), 6 ≤ bytes.length →
    ∃ i taken rest, bytes = taken ++ rest ∧ 1 ≤ taken.length ∧ taken.length ≤ 6 ∧
      decode cls bytes = .ok (i, rest) ∧ i.wfOn cls = true) ∧
  ((∀ (cls : CpuClass) (f : OpForm) (rest : List Byte), f.undefinedOn cls = true →
    decode cls (f.encode ++ rest) = .ok (.invalidOpcode, rest)) ∧
  (∀ (f : OpForm) (rest : List Byte), f.refusedOnC86 = true →
    decode .c86 (f.encode ++ rest) = .ok (.reservedC86, rest)) ∧
  (∀ rest : List Byte, decode .c286 (0x0F :: 0x05 :: rest) = .ok (.loadall, rest)) ∧
  (∀ s : State, Traps .invalidOpcode s .ud ∧ exec .reservedC86 s = .refused .reservedEncodingC86 ∧
    exec .loadall s = .refused .loadallUnspecified))

/-- Words written out from 30 R218 to R239 and R257 to R259, one or two of each family. -/
def Obligations.DecodeWords : Prop :=
  decode .c286 [0b00000001, 0b11011000] = .ok (.addEwGw (.reg .ax) .bx, []) ∧
  decode .c286 [0b00000010, 0b01000110, 0xFE] = .ok (.addGbEb (.mem (.disp8 .bp 0xFE)) .al, []) ∧
  decode .c86 [0b10000011, 0b11101001, 0x05] = .ok (.subEwIbs (.reg .cx) 0x05, []) ∧
  decode .c186 [0b10000001, 0b00111110, 0x34, 0x12, 0xCD, 0xAB] = .ok (.cmpEwIw (.mem (.direct 0x1234)) 0xABCD, []) ∧
  decode .c286 [0b11110111, 0b11110011] = .ok (.divEw (.reg .bx), []) ∧
  decode .c286 [0b10001011, 0b10000001, 0x00, 0x10] = .ok (.movGwEw (.mem (.disp16 .bxdi 0x1000)) .ax, []) ∧
  decode .c286 [0b10111001, 0x78, 0x56] = .ok (.movR16Iw .cx 0x5678, []) ∧
  decode .c286 [0b10001110, 0b11010000] = .ok (.movSwEw (.reg .ax) .ss, []) ∧
  decode .c86 [0b00001111] = .ok (.popCs, []) ∧
  decode .c286 [0b01010100] = .ok (.pushSp, []) ∧
  decode .c286 [0b11010001, 0b11100010] = .ok (.shlEw1 (.reg .dx), []) ∧
  decode .c186 [0b11000000, 0b11001101, 0x03] = .ok (.rorEbIb (.reg .ch) 0x03, []) ∧
  decode .c286 [0b11110011] = .ok (.prefixRep, []) ∧
  decode .c286 [0b10100101] = .ok (.movsw, []) ∧
  decode .c286 [0b01110101, 0xFE] = .ok (.jnzJb 0xFE, []) ∧
  decode .c86 [0b01100101, 0xFE] = .ok (.jnzJb65 0xFE, []) ∧
  decode .c286 [0b10011010, 0x10, 0x00, 0x08, 0x00] = .ok (.callAp 0x0010 0x0008, []) ∧
  decode .c286 [0b11111111, 0b00101111] = .ok (.jmpMp (.ind .bx), []) ∧
  decode .c286 [0b11001101, 0x21] = .ok (.intIb 0x21, []) ∧
  decode .c286 [0b11001000, 0x10, 0x00, 0x01] = .ok (.enterIwIb 0x0010 0x01, []) ∧
  decode .c286 [0b11011001, 0b00101100] = .ok (.esc 1 5 (.mem (.ind .si)), []) ∧
  decode .c286 [0b00001111, 0b00000001, 0b00010110, 0x00, 0x20] = .ok (.lgdtMs (.direct 0x2000), []) ∧
  decode .c286 [0b00001111, 0b00000000, 0b11011000] = .ok (.ltrEw (.reg .ax), []) ∧
  decode .c286 [0b01100011, 0b11001011] = .ok (.arplEwGw (.reg .bx) .cx, [])

/-! ## Registers and the status word -/

/-- 10 R22: each byte register is a byte of AX, CX, DX or BX, a write of it changes only that byte, and the three-bit
codes name them in order. 10 R27, R36 to R40: an encoded flag record gives its six flags back; PS shows each flag
at its place; a write of PS sets the six flags and the direct bits its mask admits, and reads back. -/
def Obligations.RegistersAndStatus : Prop :=
  ((∀ s : State, s.reg .ax = s.reg8 .ah ++ s.reg8 .al ∧ s.reg .cx = s.reg8 .ch ++ s.reg8 .cl ∧
    s.reg .dx = s.reg8 .dh ++ s.reg8 .dl ∧ s.reg .bx = s.reg8 .bh ++ s.reg8 .bl) ∧
  (∀ (s : State) (r q : Reg8) (v : Byte), (s.setReg8 r v).reg8 q = if q = r then v else s.reg8 q) ∧
  (∀ (s : State) (r : Reg8) (v : Byte) (q : Reg16), q = .sp ∨ q = .bp ∨ q = .si ∨ q = .di →
    (s.setReg8 r v).reg q = s.reg q) ∧
  [0, 1, 2, 3, 4, 5, 6, 7].map Reg8.ofBits = [.al, .cl, .dl, .bl, .ah, .ch, .dh, .bh]) ∧
  ((∀ (f : Flags) (z : ResultSize), (FlagTriple.encode f z).flags = f) ∧
  (∀ s : State, Flags.ofWord s.getPS = s.flags ∧ s.getPS.getLsbD 1 = true ∧ s.getPS.getLsbD 3 = false ∧
    s.getPS.getLsbD 5 = false ∧ s.getPS.getLsbD 8 = s.tf ∧ s.getPS.getLsbD 9 = s.ifl ∧ s.getPS.getLsbD 10 = s.df ∧
    (s.cls = .c286 → s.getPS.extractLsb' 12 2 = s.iopl ∧ s.getPS.getLsbD 14 = s.nt ∧ s.getPS.getLsbD 15 = false) ∧
    (s.cls ≠ .c286 → s.getPS.extractLsb' 12 4 = if s.cfg.psHigh = .ones then 0xF else 0)) ∧
  (∀ (s : State) (v m : Word) (k : Nat), (s.setPS v m).flags = Flags.ofWord v ∧
    (k = 8 ∨ k = 9 ∨ k = 10 ∨ (s.cls = .c286 ∧ (k = 12 ∨ k = 13 ∨ k = 14)) →
      (s.setPS v m).live.getLsbD k =
        if m.getLsbD k then v.getLsbD k && (decide (k ≤ 10) || s.protectedMode) else s.live.getLsbD k)) ∧
  (∀ (s : State) (v : Word), v &&& ~~~(0x08D5 ||| directMask s.cls) = 0 →
    (s.cls = .c286 → s.protectedMode = false → v &&& 0x7000 = 0) →
    (s.setPS v 0xFFFF).getPS = v ||| (if s.cls ≠ .c286 ∧ s.cfg.psHigh = .ones then 0xF002 else 0x0002)))

/-! ## Memory -/

/-- 20 R101, R104 to R107, R110, R116, R117, R129: a byte access of each kind of block; a word that is written reads back, its
low byte at its first address and its high byte at the other, and no other byte changes. (That a device changes no
byte of memory inside its call is the model's choice: notes/assumptions/28.md.) -/
def Obligations.MemoryAccesses : Prop :=
  (∀ (s : State) (p q : Nat) (v : Byte),
    (s.kindAt p = .ram ∨ s.kindAt p = .rom → s.busRead8 p = (Memory.read s.mem p, s)) ∧
    (s.kindAt p = .unmapped → s.busRead8 p = (0, s) ∧ s.busWrite8 p v = s) ∧
    (s.kindAt p = .rom → s.busWrite8 p v = s) ∧
    (s.kindAt p = .ram → Memory.read (s.busWrite8 p v).mem q = if q = p then v else Memory.read s.mem q) ∧
    (∀ d, s.kindAt p = .device d → (s.busRead8 p).2.mem = s.mem ∧ (s.busWrite8 p v).mem = s.mem ∧
      (s.busRead8 p).2.host.calls = .deviceRead p 1 :: s.host.calls ∧
      (s.busWrite8 p v).host.calls = .deviceWrite p 1 (zext16 v) :: s.host.calls) ∧
    (Memory.wf s.mem = true → Memory.wf (s.busWrite8 p v).mem = true)) ∧
  (∀ (s : State) (r : SegReg) (off v : Word),
    s.accessFault r off 1 false = none → s.accessFault r off 1 true = none →
    s.kindAt (s.wordAddrs r off).1 = .ram → s.kindAt (s.wordAddrs r off).2 = .ram →
    (∃ t, s.segWrite16 r off v = .ok t ∧ t.segRead16 r off = .ok (v, t) ∧
      Memory.read t.mem (s.wordAddrs r off).1 = loByte v ∧ Memory.read t.mem (s.wordAddrs r off).2 = hiByte v ∧
      (∀ a, a ∉ s.storedWord r off → Memory.read t.mem a = Memory.read s.mem a)) ∧
    s.segRead16 r off =
      .ok (mkWord (Memory.read s.mem (s.wordAddrs r off).1) (Memory.read s.mem (s.wordAddrs r off).2), s))

/-- 20 R102, R103, R113, R116, R117: the address mask, the physical address of an offset, and that of a word's second
byte: the next offset's, or at offset 0xFFFF offset 0 of the segment on C86 and the byte past it later (on C286 the
model's choice, where the segment's limit lies above 0xFFFF: notes/assumptions/34.md). (Not
where the mask is 0xEFFFFF, where R105 masks the first address before it adds 1: notes/assumptions/24.md.)
R131, R133, R134: the check of a segment access: none on C86 and C186, the 64 KiB end in real mode on C286, and in
protected mode the null mark, the limit (from below for expand-down data) and the type. -/
def Obligations.Addressing : Prop :=
  (∀ (s : State) (r : SegReg) (off : Word),
    (s.segAddr r off = ((s.seg r).base.toNat + off.toNat) &&& s.addrMask.toNat) ∧
    s.addrMask =
      (if s.cls = .c286 then
        if s.a20 then 0xFFFFFF else if s.cfg.a20OffMask = .low20 then 0x0FFFFF else 0xEFFFFF
      else if s.a20 then 0x1FFFFF else 0x0FFFFF) ∧
    (s.wordAddrs r off).1 = s.segAddr r off ∧
    (off ≠ 0xFFFF → s.cfg.wf = true → s.addrMask ≠ 0xEFFFFF → (s.wordAddrs r off).2 = s.segAddr r (off + 1)) ∧
    (off = 0xFFFF → s.cls = .c86 → (s.wordAddrs r off).2 = s.segAddr r 0) ∧
    (off = 0xFFFF → s.cls ≠ .c86 →
      (s.wordAddrs r off).2 = ((s.seg r).base.toNat + 0x10000) &&& s.addrMask.toNat)) ∧
  (∀ (s : State) (r : SegReg) (off : Word) (extra : Nat) (w : Bool) (outside : Exc),
    outside = (if r = .ss then .ss 0 else .gp 0) →
    (s.cls ≠ .c286 → s.accessFault r off extra w = none) ∧
    (s.cls = .c286 → s.sys.msw.getLsbD 0 = false →
      s.accessFault r off extra w = if 0xFFFF < off.toNat + extra then some outside else none) ∧
    (s.cls = .c286 → s.sys.msw.getLsbD 0 = true → ∀ (e ed wr : Bool) (limit : Nat),
      e = (s.seg r).access.getLsbD 3 → ed = (s.seg r).access.getLsbD 2 → wr = (s.seg r).access.getLsbD 1 →
      limit = (s.seg r).limit.toNat →
      s.accessFault r off extra w =
        if (s.seg r).nullLoaded = true then some (.gp 0)
        else if (if ed = true ∧ e = false then off.toNat ≤ limit ∨ 0xFFFF < off.toNat + extra
          else limit < off.toNat + extra) then some outside
        else if w = false ∧ e = true ∧ wr = false then some (.gp 0)
        else if w = true ∧ (e = true ∨ wr = false) then some (.gp 0)
        else none))

/-- 20 R129, 60 R911: of the memory accesses an instruction makes in their order (`State.accesses`: every instruction with
an operand in memory, the string elements, the pushes and pops, ENTER, LEAVE and BOUND, the near and far transfers,
IRET and the system instructions, as far as no check of a descriptor comes first), the first whose check fails raises
the check's exception, with nothing stored; if it is the instruction's first access, nothing is done, no device asked
and nothing drawn. -/
def Obligations.OperandFaults : Prop :=
  (∀ (s : State) (i : Instr) (e : Exc), s.firstFault (s.accesses i) = some e → Traps i s e) ∧
  (∀ (s : State) (i : Instr) (a : MemAccess) (e : Exc), (s.accesses i).head? = some a → s.faultOf a = some e →
    TrapsAtOnce i s e)

/-! ## Two-operand, one-operand and move instructions -/

/-- R400 to R405, R500 to R503, byte forms: ADD, OR, ADC, SBB, AND, SUB, XOR, CMP and TEST complete when their
operands can be read and written; the destination holds the result (CMP and TEST write nothing), the
flags are those of the arithmetic, and nothing else changes. -/
def Obligations.AluBytes : Prop :=
  ∀ (s : State) (i : Instr) (o : AluOp) (d : RM Reg8) (x : Src Reg8 8), aluForm8 i = some (o, d, x) →
    s.canReadEb d → s.canReadSrc8 x → (o.writes = true → s.canWriteEb d) →
    ∃ t, exec i s = .next t ∧
      o.flagged s.flags.cf (s.valueEb d) (s.valueSrc8 x) t.flags ∧
      if o.writes then
        s.holdsEb t (o.result s.flags.cf (s.valueEb d) (s.valueSrc8 x)) d ∧ Frame8 s t (destEb d) (s.storedEb d)
      else Frame8 s t [] []

/-- The same of the word forms. -/
def Obligations.AluWords : Prop :=
  ∀ (s : State) (i : Instr) (o : AluOp) (d : RM Reg16) (x : Src Reg16 16), aluForm16 i = some (o, d, x) →
    s.canReadEw d → s.canReadSrc16 x → (o.writes = true → s.canWriteEw d) →
    ∃ t, exec i s = .next t ∧
      o.flagged s.flags.cf (s.valueEw d) (s.valueSrc16 x) t.flags ∧
      if o.writes then
        s.holdsEw t (o.result s.flags.cf (s.valueEw d) (s.valueSrc16 x)) d ∧ Frame s t (destEw d) (s.storedEw d)
      else Frame s t [] []

/-- R406 to R410, R504: INC, DEC, NEG and NOT; INC and DEC keep CF, NOT keeps every flag. -/
def Obligations.UnaryInstructions : Prop :=
  (∀ (s : State) (i : Instr) (o : UnaryOp) (d : RM Reg8), unaryForm8 i = some (o, d) →
    s.canReadEb d → s.canWriteEb d →
    ∃ t, exec i s = .next t ∧ s.holdsEb t (o.result (s.valueEb d)) d ∧
      t.flags = o.flags s.flags (s.valueEb d) ∧ Frame8 s t (destEb d) (s.storedEb d)) ∧
  (∀ (s : State) (i : Instr) (o : UnaryOp) (d : RM Reg16), unaryForm16 i = some (o, d) →
    s.canReadEw d → s.canWriteEw d →
    ∃ t, exec i s = .next t ∧ s.holdsEw t (o.result (s.valueEw d)) d ∧
      t.flags = o.flags s.flags (s.valueEw d) ∧ Frame s t (destEw d) (s.storedEw d))

/-- R411 to R413: MUL and IMUL write the product and set CF = OF when its upper half is needed; SF, ZF, AF
and PF are undefined. -/
def Obligations.Multiplies : Prop :=
  (∀ (s : State) (e : RM Reg8), s.canReadEb e →
    (∃ t, exec (.mulEb e) s = .next t ∧ (t.reg .ax).toNat = (s.reg8 .al).toNat * (s.valueEb e).toNat ∧
      t.flags.cf = decide (256 ≤ (s.reg8 .al).toNat * (s.valueEb e).toNat) ∧ t.flags.of = t.flags.cf ∧
      Frame s t [.ax] []) ∧
    (∃ t, exec (.imulEb e) s = .next t ∧ (t.reg .ax).toInt = (s.reg8 .al).toInt * (s.valueEb e).toInt ∧
      t.flags.cf = decide ((loByte (t.reg .ax)).toInt ≠ (t.reg .ax).toInt) ∧ t.flags.of = t.flags.cf ∧
      Frame s t [.ax] [])) ∧
  (∀ (s : State) (e : RM Reg16), s.canReadEw e →
    (∃ t, exec (.mulEw e) s = .next t ∧ t.dxax.toNat = (s.reg .ax).toNat * (s.valueEw e).toNat ∧
      t.flags.cf = decide (t.reg .dx ≠ 0) ∧ t.flags.of = t.flags.cf ∧ Frame s t [.ax, .dx] []) ∧
    (∃ t, exec (.imulEw e) s = .next t ∧ t.dxax.toInt = (s.reg .ax).toInt * (s.valueEw e).toInt ∧
      t.flags.cf = decide ((t.reg .ax).toInt ≠ t.dxax.toInt) ∧ t.flags.of = t.flags.cf ∧
      Frame s t [.ax, .dx] [])) ∧
  (∀ (s : State) (e : RM Reg16) (g : Reg16) (iw : Word) (ib : Byte), s.canReadEw e →
    (∃ t, exec (.imulGwEwIw e g iw) s = .next t ∧ t.reg g = BitVec.ofInt 16 ((s.valueEw e).toInt * iw.toInt) ∧
      t.flags.cf = decide ((t.reg g).toInt ≠ (s.valueEw e).toInt * iw.toInt) ∧ t.flags.of = t.flags.cf ∧
      Frame s t [g] []) ∧
    (∃ t, exec (.imulGwEwIbs e g ib) s = .next t ∧ t.reg g = BitVec.ofInt 16 ((s.valueEw e).toInt * ib.toInt) ∧
      t.flags.cf = decide ((t.reg g).toInt ≠ (s.valueEw e).toInt * ib.toInt) ∧ t.flags.of = t.flags.cf ∧
      Frame s t [g] []))

/-- 42 R414, R415, R420: DIV and IDIV complete when the divisor is not 0 and the quotient fits, and leave the quotient and the
remainder (every flag is undefined); the least signed quotient is −127 and −32767 on C86, −128 and −32768 later.
A zero divisor, a quotient that does not fit and AAM with base 0 raise #DE. -/
def Obligations.Divisions : Prop :=
  ((∀ (s : State) (e : RM Reg8), s.canReadEb e → s.valueEb e ≠ 0 →
    ((s.reg .ax).toNat / (s.valueEb e).toNat < 256 →
      ∃ t, exec (.divEb e) s = .next t ∧ (t.reg8 .al).toNat = (s.reg .ax).toNat / (s.valueEb e).toNat ∧
        (t.reg8 .ah).toNat = (s.reg .ax).toNat % (s.valueEb e).toNat ∧ Frame s t [.ax] []) ∧
    ((if s.cls = .c86 then -127 else -128) ≤ (s.reg .ax).toInt.tdiv (s.valueEb e).toInt →
      (s.reg .ax).toInt.tdiv (s.valueEb e).toInt ≤ 127 →
      ∃ t, exec (.idivEb e) s = .next t ∧ (t.reg8 .al).toInt = (s.reg .ax).toInt.tdiv (s.valueEb e).toInt ∧
        (t.reg8 .ah).toInt = (s.reg .ax).toInt.tmod (s.valueEb e).toInt ∧ Frame s t [.ax] [])) ∧
  (∀ (s : State) (e : RM Reg16), s.canReadEw e → s.valueEw e ≠ 0 →
    (s.dxax.toNat / (s.valueEw e).toNat < 65536 →
      ∃ t, exec (.divEw e) s = .next t ∧ (t.reg .ax).toNat = s.dxax.toNat / (s.valueEw e).toNat ∧
        (t.reg .dx).toNat = s.dxax.toNat % (s.valueEw e).toNat ∧ Frame s t [.ax, .dx] []) ∧
    ((if s.cls = .c86 then -32767 else -32768) ≤ s.dxax.toInt.tdiv (s.valueEw e).toInt →
      s.dxax.toInt.tdiv (s.valueEw e).toInt ≤ 32767 →
      ∃ t, exec (.idivEw e) s = .next t ∧ (t.reg .ax).toInt = s.dxax.toInt.tdiv (s.valueEw e).toInt ∧
        (t.reg .dx).toInt = s.dxax.toInt.tmod (s.valueEw e).toInt ∧ Frame s t [.ax, .dx] []))) ∧
  ((∀ (s : State) (e : RM Reg8), s.canReadEb e →
    (s.valueEb e = 0 ∨ 256 ≤ (s.reg .ax).toNat / (s.valueEb e).toNat → Traps (.divEb e) s .de) ∧
    (s.valueEb e = 0 ∨ 128 ≤ (s.reg .ax).toInt.tdiv (s.valueEb e).toInt ∨
        (s.reg .ax).toInt.tdiv (s.valueEb e).toInt < (if s.cls = .c86 then -127 else -128) →
      Traps (.idivEb e) s .de)) ∧
  (∀ (s : State) (e : RM Reg16), s.canReadEw e →
    (s.valueEw e = 0 ∨ 65536 ≤ s.dxax.toNat / (s.valueEw e).toNat → Traps (.divEw e) s .de) ∧
    (s.valueEw e = 0 ∨ 32768 ≤ s.dxax.toInt.tdiv (s.valueEw e).toInt ∨
        s.dxax.toInt.tdiv (s.valueEw e).toInt < (if s.cls = .c86 then -32767 else -32768) →
      Traps (.idivEw e) s .de)) ∧
  (∀ s : State, Traps (.aamIb 0) s .de))

/-- 42 R416 to R422: DAA and DAS adjust AL by 6 and by 0x60 and give CF, AF and the flags of AL; AAA and AAS adjust AX (the
80286 carries from AL into AH, the others do not); AAM and AAD divide and multiply by the base given; SALC copies
CF through AL. OF and the flags not named are undefined. -/
def Obligations.DecimalInstructions : Prop :=
  (∀ (s : State) (low high : Bool),
    low = (decide (9 < (s.reg8 .al).toNat % 16) || s.flags.af) →
    high = (decide (0x99 < (s.reg8 .al).toNat) || s.flags.cf) →
    (∃ t, exec .daa s = .next t ∧
      (t.reg8 .al).toNat = ((s.reg8 .al).toNat + (if low then 6 else 0) + (if high then 0x60 else 0)) % 256 ∧
      t.flags.af = low ∧ t.flags.cf = high ∧ ofResult (t.reg8 .al) t.flags ∧ Frame8 s t [.al] []) ∧
    (∃ t, exec .das s = .next t ∧
      t.reg8 .al = s.reg8 .al - (if low then 6 else 0) - (if high then 0x60 else 0) ∧
      t.flags.af = low ∧ t.flags.cf = (high || (low && decide ((s.reg8 .al).toNat < 6))) ∧
      ofResult (t.reg8 .al) t.flags ∧ Frame8 s t [.al] [])) ∧
  ((∀ (s : State) (a : Bool), a = (decide (9 < (s.reg8 .al).toNat % 16) || s.flags.af) →
    (∃ t, exec .aaa s = .next t ∧ (t.reg8 .al).toNat = ((s.reg8 .al).toNat + (if a then 6 else 0)) % 16 ∧
      (t.reg8 .ah).toNat = ((s.reg8 .ah).toNat + (if a then 1 else 0) +
        (if a ∧ s.cls = .c286 ∧ 250 ≤ (s.reg8 .al).toNat then 1 else 0)) % 256 ∧
      t.flags.af = a ∧ t.flags.cf = a ∧ Frame s t [.ax] []) ∧
    (∃ t, exec .aas s = .next t ∧ t.reg8 .al = (s.reg8 .al - (if a then 6 else 0)) &&& 0x0F ∧
      t.reg8 .ah = s.reg8 .ah - (if a then 1 else 0) -
        (if a ∧ s.cls = .c286 ∧ (s.reg8 .al).toNat < 6 then 1 else 0) ∧
      t.flags.af = a ∧ t.flags.cf = a ∧ Frame s t [.ax] [])) ∧
  (∀ (s : State) (ib : Byte),
    (ib ≠ 0 → ∃ t, exec (.aamIb ib) s = .next t ∧ (t.reg8 .ah).toNat = (s.reg8 .al).toNat / ib.toNat ∧
      (t.reg8 .al).toNat = (s.reg8 .al).toNat % ib.toNat ∧ ofResult (t.reg8 .al) t.flags ∧ Frame s t [.ax] []) ∧
    (∃ t, exec (.aadIb ib) s = .next t ∧
      (t.reg8 .al).toNat = ((s.reg8 .al).toNat + (s.reg8 .ah).toNat * ib.toNat) % 256 ∧ t.reg8 .ah = 0 ∧
      ofResult (t.reg8 .al) t.flags ∧ Frame s t [.ax] [])) ∧
  (∀ s : State, ∃ t, exec .salc s = .next t ∧ t.reg8 .al = (if s.flags.cf then 0xFF else 0) ∧
    t.flags = s.flags ∧ Frame8 s t [.al] []))

/-- 43 R510 to R517: a shift or rotate by a count above 0 is that many shifts or rotates by one bit; the count is taken
modulo 32 on C186 and C286 and whole on C86; a count of 0 reads the operand, writes nothing and changes no flag. -/
def Obligations.ShiftsAndRotates : Prop :=
  ((∀ (s : State) (i : Instr) (o : ShiftOp) (d : RM Reg8) (k : ShiftCount) (c : Nat),
    shiftForm8 i = some (o, d, k) → c = (if s.cls = .c86 then (s.countOf k).toNat else (s.countOf k).toNat % 32) →
    0 < c → s.canReadEb d → s.canWriteEb d →
    ∃ t, exec i s = .next t ∧ s.holdsEb t (o.repeated c (s.flags.cf, s.valueEb d)).2 d ∧
      o.flagged s.flags (s.valueEb d) c t.flags ∧ Frame8 s t (destEb d) (s.storedEb d)) ∧
  (∀ (s : State) (i : Instr) (o : ShiftOp) (d : RM Reg16) (k : ShiftCount) (c : Nat),
    shiftForm16 i = some (o, d, k) → c = (if s.cls = .c86 then (s.countOf k).toNat else (s.countOf k).toNat % 32) →
    0 < c → s.canReadEw d → s.canWriteEw d →
    ∃ t, exec i s = .next t ∧ s.holdsEw t (o.repeated c (s.flags.cf, s.valueEw d)).2 d ∧
      o.flagged s.flags (s.valueEw d) c t.flags ∧ Frame s t (destEw d) (s.storedEw d))) ∧
  ((∀ (s : State) (i : Instr) (o : ShiftOp) (d : RM Reg8) (k : ShiftCount), shiftForm8 i = some (o, d, k) →
    (if s.cls = .c86 then (s.countOf k).toNat else (s.countOf k).toNat % 32) = 0 → s.canReadEb d →
    ∃ t, exec i s = .next t ∧ t.flags = s.flags ∧ Frame8 s t [] []) ∧
  (∀ (s : State) (i : Instr) (o : ShiftOp) (d : RM Reg16) (k : ShiftCount), shiftForm16 i = some (o, d, k) →
    (if s.cls = .c86 then (s.countOf k).toNat else (s.countOf k).toNat % 32) = 0 → s.canReadEw d →
    ∃ t, exec i s = .next t ∧ t.flags = s.flags ∧ Frame s t [] []))

/-- R300 to R306, R805: a move writes its source to its destination and changes no flag; MOV Ew,Sw writes a
selector and SMSW the MSW. -/
def Obligations.Moves : Prop :=
  (∀ (s : State) (i : Instr) (d : RM Reg8) (x : Src Reg8 8), moveForm8 i = some (d, x) →
    s.canReadSrc8 x → s.canWriteEb d →
    ∃ t, exec i s = .next t ∧ s.holdsEb t (s.valueSrc8 x) d ∧ t.flags = s.flags ∧
      Frame8 s t (destEb d) (s.storedEb d)) ∧
  (∀ (s : State) (i : Instr) (d : RM Reg16) (x : Src Reg16 16), moveForm16 i = some (d, x) →
    s.canReadSrc16 x → s.canWriteEw d →
    ∃ t, exec i s = .next t ∧ s.holdsEw t (s.valueSrc16 x) d ∧ t.flags = s.flags ∧
      Frame s t (destEw d) (s.storedEw d)) ∧
  (∀ (s : State) (d : RM Reg16) (sr : SegReg) (i : Instr) (v : Word),
    (i = .movEwSw d sr ∧ v = (s.seg sr).selector ∨ i = .movEwSwHigh d sr ∧ v = (s.seg sr).selector ∨
      i = .smswEw d ∧ v = s.sys.msw) → s.canWriteEw d →
    ∃ t, exec i s = .next t ∧ s.holdsEw t v d ∧ t.flags = s.flags ∧ Frame s t (destEw d) (s.storedEw d))

/-- R320, R321, R323, R324, R346, R347: XCHG swaps its operands, XLAT reads the table byte at BX + AL, LEA writes
the effective address and reads no memory, CBW and CWD extend the sign. -/
def Obligations.Exchanges : Prop :=
  (∀ (s : State) (e : RM Reg8) (g : Reg8), s.canReadEb e → s.canWriteEb e →
    ∃ t, exec (.xchgEbGb e g) s = .next t ∧ t.reg8 g = s.valueEb e ∧
      (e ≠ .reg g → s.holdsEb t (s.reg8 g) e) ∧ t.flags = s.flags ∧ Frame8 s t (g :: destEb e) (s.storedEb e)) ∧
  (∀ (s : State) (i : Instr) (e : RM Reg16) (g : Reg16), exchangeForm16 i = some (e, g) →
    s.canReadEw e → s.canWriteEw e →
    ∃ t, exec i s = .next t ∧ t.reg g = s.valueEw e ∧
      (e ≠ .reg g → s.holdsEw t (s.reg g) e) ∧ t.flags = s.flags ∧ Frame s t (g :: destEw e) (s.storedEw e)) ∧
  (∀ s : State, s.accessFault (s.segOr .ds) (s.reg .bx + zext16 (s.reg8 .al)) 0 false = none →
    ∃ t, exec .xlat s = .next t ∧
      t.reg8 .al = (s.busRead8 (s.segAddr (s.segOr .ds) (s.reg .bx + zext16 (s.reg8 .al)))).1 ∧
      t.flags = s.flags ∧ Frame8 s t [.al] []) ∧
  (∀ (s : State) (m : MemRef) (g : Reg16), ∃ t, exec (.leaGwM m g) s = .next t ∧ t.reg g = s.ea m ∧
    t.flags = s.flags ∧ t.host = s.host ∧ Frame s t [g] []) ∧
  (∀ s : State,
    (∃ t, exec .cbw s = .next t ∧ (t.reg .ax).toInt = (s.reg8 .al).toInt ∧ t.flags = s.flags ∧ Frame s t [.ax] []) ∧
    (∃ t, exec .cwd s = .next t ∧ t.dxax.toInt = (s.reg .ax).toInt ∧ t.flags = s.flags ∧ Frame s t [.dx] []))

/-! ## Segment loads -/

/-- 20 R119; 41 R310 to R312, R325, R326, R333, R338: in real mode a load of a segment register gives it the selector, 16 times
the selector as base, limit 0xFFFF and access 0x93; a load of SS sets NOINTR; LDS and LES load a pointer; MOV CS and
POP CS load CS on C86, and IP stays while the queue restarts. -/
def Obligations.SegmentLoadsReal : Prop :=
  (∀ v : Word, (SegCache.real v).selector = v ∧ (SegCache.real v).base.toNat = 16 * v.toNat ∧
    (SegCache.real v).limit = 0xFFFF ∧ (SegCache.real v).access = 0x93 ∧ (SegCache.real v).nullLoaded = false) ∧
  ∀ s : State, s.protectedMode = false →
    (∀ (i : Instr) (e : RM Reg16) (r : SegReg), i = .movSwEw e r ∨ i = .movSwEwHigh e r → r ≠ .cs → s.canReadEw e →
      ∃ t, exec i s = .next t ∧ t.seg r = .real (s.valueEw e) ∧ t.queue = s.queue ∧ SegFrame s t r [] []) ∧
    (∀ (i : Instr) (r : SegReg), (i = .popEs ∧ r = .es) ∨ (i = .popSs ∧ r = .ss) ∨ (i = .popDs ∧ r = .ds) → s.canPop 1 →
      ∃ t, exec i s = .next t ∧ t.seg r = .real (s.segGet16 .ss (s.reg .sp)).1 ∧ t.reg .sp = s.reg .sp + 2 ∧
        t.queue = s.queue ∧ SegFrame s t r [.sp] []) ∧
    (∀ (i : Instr) (m : MemRef) (g : Reg16) (r : SegReg), (i = .ldsGwMp m g ∧ r = .ds) ∨ (i = .lesGwMp m g ∧ r = .es) →
      s.canReadPair m →
      ∃ t, exec i s = .next t ∧ t.reg g = (s.valuePair m).1 ∧ t.seg r = .real (s.valuePair m).2 ∧
        t.queue = s.queue ∧ SegFrame s t r [g] []) ∧
    (∀ (i : Instr) (e : RM Reg16), i = .movCsEw e ∨ i = .movSwEw e .cs ∨ i = .movSwEwHigh e .cs → s.canReadEw e →
      (s.cls = .c86 → ∃ t, exec i s = .next t ∧ t.seg .cs = .real (s.valueEw e) ∧ t.queue.restarts s.ip ∧
        SegFrame s t .cs [] []) ∧
      (s.cls ≠ .c86 → Traps i s .ud)) ∧
    (s.canPop 1 → ∃ t, exec .popCs s = .next t ∧ t.seg .cs = .real (s.segGet16 .ss (s.reg .sp)).1 ∧
      t.reg .sp = s.reg .sp + 2 ∧ t.queue.restarts s.ip ∧ SegFrame s t .cs [.sp] [])

/-- 20 R120 to R124, R127: in protected mode a load of DS, ES or SS takes base, limit and access from the descriptor and
sets its accessed bit, in memory too; a null selector marks DS or ES and raises #NP(0) for SS; a selector outside its
table, of a wrong type or privilege raises #GP(selector), of a segment not present #NP(selector), or #SS(selector) for
SS. (That a null DS or ES keeps its base, limit and access is the model's inference: notes/assumptions/13.md.) -/
def Obligations.SegmentLoadsProtected : Prop :=
  ∀ (s : State) (sel : Word) (d : Desc), s.protectedMode = true → d = s.descOf sel →
    (∀ r : SegReg, r = .ds ∨ r = .es →
      (s.isNull sel = true → ∃ t, s.loadSeg r sel = .ok t ∧
        t.seg r = { s.seg r with selector := sel, nullLoaded := true } ∧ t.mem = s.mem) ∧
      (s.isNull sel = false → s.inTable sel = false → Raises (s.loadSeg r sel) (.gp (sel &&& 0xFFFC))) ∧
      (s.isNull sel = false → s.inTable sel = true →
        (d.readable = false ∨ (d.conforming = false ∧ d.dpl.toNat < max s.sys.cpl.toNat (rpl sel).toNat) →
          Raises (s.loadSeg r sel) (.gp (sel &&& 0xFFFC))) ∧
        (d.readable = true → d.conforming = true ∨ max s.sys.cpl.toNat (rpl sel).toNat ≤ d.dpl.toNat →
          (d.present = false → Raises (s.loadSeg r sel) (.np (sel &&& 0xFFFC))) ∧
          (d.present = true → ∃ t, s.loadSeg r sel = .ok t ∧
            t.seg r =
              { selector := sel, base := d.base, limit := d.limit, access := d.access ||| 1, nullLoaded := false } ∧
            s.setsAccessed t sel d ∧
            (∀ a, a ≠ s.accessAddr sel → Memory.read t.mem a = Memory.read s.mem a))))) ∧
    (s.isNull sel = true → Raises (s.loadSeg .ss sel) (.np 0)) ∧
    (s.isNull sel = false → s.inTable sel = false → Raises (s.loadSeg .ss sel) (.gp (sel &&& 0xFFFC))) ∧
    (s.isNull sel = false → s.inTable sel = true →
      (d.writable = false ∨ rpl sel ≠ s.sys.cpl ∨ d.dpl ≠ s.sys.cpl → Raises (s.loadSeg .ss sel) (.gp (sel &&& 0xFFFC))) ∧
      (d.writable = true → rpl sel = s.sys.cpl → d.dpl = s.sys.cpl →
        (d.present = false → Raises (s.loadSeg .ss sel) (.ss (sel &&& 0xFFFC))) ∧
        (d.present = true → ∃ t, s.loadSeg .ss sel = .ok t ∧
          t.seg .ss =
            { selector := sel, base := d.base, limit := d.limit, access := d.access ||| 1, nullLoaded := false } ∧
          s.setsAccessed t sel d ∧
          (∀ a, a ≠ s.accessAddr sel → Memory.read t.mem a = Memory.read s.mem a))))

/-- 41 R310, R311, R325, R326, R333: in any mode, an instruction that loads DS, ES or SS does what the load does with the
selector it reads, and traps where the load raises. -/
def Obligations.SegmentLoadInstructions : Prop :=
  (∀ (s : State) (i : Instr) (e : RM Reg16) (r : SegReg), i = .movSwEw e r ∨ i = .movSwEwHigh e r → r ≠ .cs →
    s.canReadEw e →
    (∀ u, (s.afterEw e).loadSeg r (s.valueEw e) = .ok u → ∃ t, exec i s = .next t ∧ t.segs = u.segs ∧ t.mem = u.mem ∧
      t.regs = s.regs ∧ t.flags = s.flags ∧ t.ip = s.ip ∧ t.nointr = (r == .ss || s.nointr)) ∧
    (∀ x, Raises ((s.afterEw e).loadSeg r (s.valueEw e)) x → Traps i s x)) ∧
  (∀ (s : State) (i : Instr) (r : SegReg), (i = .popEs ∧ r = .es) ∨ (i = .popSs ∧ r = .ss) ∨ (i = .popDs ∧ r = .ds) →
    s.canPop 1 →
    (∀ u, (s.segGet16 .ss (s.reg .sp)).2.loadSeg r (s.segGet16 .ss (s.reg .sp)).1 = .ok u → ∃ t, exec i s = .next t ∧
      t.segs = u.segs ∧ t.mem = u.mem ∧ (∀ q, q ≠ .sp → t.reg q = s.reg q) ∧ t.reg .sp = s.reg .sp + 2 ∧
      t.flags = s.flags ∧ t.ip = s.ip ∧ t.nointr = (r == .ss || s.nointr)) ∧
    (∀ x, Raises ((s.segGet16 .ss (s.reg .sp)).2.loadSeg r (s.segGet16 .ss (s.reg .sp)).1) x → Traps i s x)) ∧
  (∀ (s : State) (i : Instr) (m : MemRef) (g : Reg16) (r : SegReg),
    (i = .ldsGwMp m g ∧ r = .ds) ∨ (i = .lesGwMp m g ∧ r = .es) → s.canReadPair m →
    (∀ u, (s.afterPair m).loadSeg r (s.valuePair m).2 = .ok u → ∃ t, exec i s = .next t ∧ t.segs = u.segs ∧
      t.mem = u.mem ∧ (∀ q, q ≠ g → t.reg q = s.reg q) ∧ t.reg g = (s.valuePair m).1 ∧ t.flags = s.flags ∧ t.ip = s.ip) ∧
    (∀ x, Raises ((s.afterPair m).loadSeg r (s.valuePair m).2) x → Traps i s x))

/-! ## The stack -/

/-- 41 R330 to R332, R335, R336, R339, R342: a push writes its word at SP − 2 and moves SP there; PUSH SP pushes SP − 2 before
the 80286 and SP on it. -/
def Obligations.Pushes : Prop :=
  (∀ s : State, s.pushedSp = if s.cls = .c286 then s.reg .sp else s.reg .sp - 2) ∧
  (∀ (s : State) (i : Instr) (v : Word), s.pushedBy i = some v → s.canPush 1 →
    ∃ t, exec i s = .next t ∧ s.holdsPushed t [v] ∧ t.reg .sp = s.reg .sp - 2 ∧ t.flags = s.flags ∧
      Frame s t [.sp] (s.pushedAddrs 1)) ∧
  (∀ (s : State) (e : RM Reg16), s.canReadEw e → s.canPush 1 →
    ∃ t, exec (.pushEw e) s = .next t ∧ s.holdsPushed t [if e = .reg .sp then s.pushedSp else s.valueEw e] ∧
      t.reg .sp = s.reg .sp - 2 ∧ t.flags = s.flags ∧ Frame s t [.sp] (s.pushedAddrs 1))

/-- 41 R330, R334, R337, R343, 10 R39: a pop gives the word at SP and moves SP past it; for POP SP the word stays; a memory
operand is written at the address it has before SP moves. POPF sets the six flags, TF and DF; in protected mode
IF only when CPL ≤ IOPL and IOPL only when CPL is 0; in real mode on C286 IOPL and NT become 0. -/
def Obligations.Pops : Prop :=
  ((∀ (s : State) (i : Instr) (r : Reg16), i = .popR16 r ∨ i = .popEw (.reg r) → s.canPop 1 →
    ∃ t, exec i s = .next t ∧ t.reg r = (s.segGet16 .ss (s.reg .sp)).1 ∧ (r ≠ .sp → t.reg .sp = s.reg .sp + 2) ∧
      t.flags = s.flags ∧ Frame s t [r, .sp] []) ∧
  (∀ (s : State) (m : MemRef), s.canPop 1 → s.canWriteEw (.mem m) →
    ∃ t, exec (.popEw (.mem m)) s = .next t ∧ s.holdsEw t (s.segGet16 .ss (s.reg .sp)).1 (.mem m) ∧
      t.reg .sp = s.reg .sp + 2 ∧ t.flags = s.flags ∧ Frame s t [.sp] (s.storedEw (.mem m)))) ∧
  (∀ (s : State) (v : Word), s.canPop 1 → v = (s.segGet16 .ss (s.reg .sp)).1 →
    ∃ t, exec .popf s = .next t ∧ t.reg .sp = s.reg .sp + 2 ∧ t.flags = Flags.ofWord v ∧
      t.tf = v.getLsbD 8 ∧ t.df = v.getLsbD 10 ∧
      t.ifl = (if s.protectedMode = true ∧ s.iopl.toNat < s.sys.cpl.toNat then s.ifl else v.getLsbD 9) ∧
      (s.cls = .c286 →
        t.iopl = (if s.protectedMode = false then 0 else if s.sys.cpl = 0 then v.extractLsb' 12 2 else s.iopl) ∧
        t.nt = (s.protectedMode && v.getLsbD 14)) ∧
      Frame s { t with live := s.live } [.sp] [])

/-- 41 R340, R341: PUSHA pushes the eight registers, SP as it was, and POPA pops them, the word for SP thrown away. -/
def Obligations.PushaPopa : Prop :=
  (∀ s : State, s.canPush 8 →
    ∃ t, exec .pusha s = .next t ∧ s.holdsPushed t [s.reg .ax, s.reg .cx, s.reg .dx, s.reg .bx, s.reg .sp, s.reg .bp,
        s.reg .si, s.reg .di] ∧
      t.reg .sp = s.reg .sp - 16 ∧ t.flags = s.flags ∧ Frame s t [.sp] (s.pushedAddrs 8)) ∧
  (∀ (s : State) (di si bp x bx dx cx ax : Word), s.canPop 8 → (s.popMany 8).1 = [di, si, bp, x, bx, dx, cx, ax] →
    ∃ t, exec .popa s = .next t ∧ t.reg .di = di ∧ t.reg .si = si ∧ t.reg .bp = bp ∧ t.reg .bx = bx ∧ t.reg .dx = dx ∧
      t.reg .cx = cx ∧ t.reg .ax = ax ∧ t.reg .sp = s.reg .sp + 16 ∧ t.flags = s.flags ∧
      Frame s t [.ax, .cx, .dx, .bx, .sp, .bp, .si, .di] [])

/-- 45 R710 to R712: LEAVE takes SP back to BP and pops BP; ENTER pushes BP, for a level above 0 copies level − 1 frame pointers
from below BP and pushes the new one, points BP at the pushed BP and makes room below; BOUND compares a signed
register with the two words at its operand and raises #BR outside them. -/
def Obligations.FramesAndBounds : Prop :=
  ((∀ s : State, s.accessFault .ss (s.reg .bp) 1 false = none →
    ∃ t, exec .leave s = .next t ∧ t.reg .bp = (s.segGet16 .ss (s.reg .bp)).1 ∧ t.reg .sp = s.reg .bp + 2 ∧
      t.flags = s.flags ∧ Frame s t [.sp, .bp] []) ∧
  (∀ (s : State) (size : Word) (lev : Byte), lev.toNat % 32 = 0 → s.canPush 1 →
    ∃ t, exec (.enterIwIb size lev) s = .next t ∧ s.holdsPushed t [s.reg .bp] ∧ t.reg .bp = s.reg .sp - 2 ∧
      t.reg .sp = s.reg .sp - 2 - size ∧ t.flags = s.flags ∧ Frame s t [.sp, .bp] (s.pushedAddrs 1)) ∧
  (∀ (s : State) (size : Word) (lev : Byte) (n : Nat), lev.toNat % 32 = n + 1 → s.canPush (n + 2) →
    (∀ k < n, s.accessFault .ss (s.reg .bp - BitVec.ofNat 16 (2 * (k + 1))) 1 false = none) →
    ∃ t, exec (.enterIwIb size lev) s = .next t ∧ t.reg .bp = s.reg .sp - 2 ∧
      t.reg .sp = s.reg .sp - BitVec.ofNat 16 (2 * (n + 2)) - size ∧
      s.holdsWord t .ss (s.reg .sp - 2) (s.reg .bp) ∧
      s.holdsWord t .ss (s.reg .sp - BitVec.ofNat 16 (2 * (n + 2))) (s.reg .sp - 2) ∧
      (∀ k < n, ∀ off : Word, off = s.reg .bp - BitVec.ofNat 16 (2 * (k + 1)) →
        s.kindAt (s.wordAddrs .ss off).1 = .ram → s.kindAt (s.wordAddrs .ss off).2 = .ram →
        (s.wordAddrs .ss off).1 ∉ s.pushedAddrs (n + 2) → (s.wordAddrs .ss off).2 ∉ s.pushedAddrs (n + 2) →
        s.holdsWord t .ss (s.reg .sp - BitVec.ofNat 16 (2 * (k + 2))) (s.segGet16 .ss off).1) ∧
      t.flags = s.flags ∧ Frame s t [.sp, .bp] (s.pushedAddrs (n + 2)))) ∧
  (∀ (s : State) (m : MemRef) (g : Reg16), s.canReadPair m →
    ((s.valuePair m).1.toInt ≤ (s.reg g).toInt → (s.reg g).toInt ≤ (s.valuePair m).2.toInt →
      ∃ t, exec (.boundGwMa m g) s = .next t ∧ t.flags = s.flags ∧ Frame s t [] []) ∧
    ((s.reg g).toInt < (s.valuePair m).1.toInt ∨ (s.valuePair m).2.toInt < (s.reg g).toInt →
      Traps (.boundGwMa m g) s .br))

/-! ## Flag control, ports, processor control -/

/-- 46 R750 to R756, 41 R344, R345: CLC, STC and CMC change CF alone, CLD and STD DF alone; CLI clears IF, STI sets it and
NOINTR, and in protected mode with CPL above IOPL both raise #GP(0); LAHF loads AH with the low byte of PS, SAHF
sets five flags from AH and keeps OF. -/
def Obligations.FlagInstructions : Prop :=
  ((∀ (s : State) (i : Instr) (c : Bool), (i = .clc ∧ c = false) ∨ (i = .stc ∧ c = true) ∨ (i = .cmc ∧ c = !s.flags.cf) →
    ∃ t, exec i s = .next t ∧ t.flags = { s.flags with cf := c } ∧ Frame s t [] []) ∧
  (∀ (s : State) (i : Instr) (d : Bool), (i = .cld ∧ d = false) ∨ (i = .std ∧ d = true) →
    ∃ t, exec i s = .next t ∧ t.df = d ∧ (∀ k, k ≠ 10 → t.live.getLsbD k = s.live.getLsbD k) ∧ t.flags = s.flags ∧
      Frame s { t with live := s.live } [] [])) ∧
  (∀ s : State,
    (¬(s.protectedMode = true ∧ s.iopl.toNat < s.sys.cpl.toNat) →
      (∃ t, exec .cli s = .next t ∧ t.ifl = false ∧ (∀ k, k ≠ 9 → t.live.getLsbD k = s.live.getLsbD k) ∧
        t.flags = s.flags ∧ Frame s { t with live := s.live } [] []) ∧
      (∃ t, exec .sti s = .next t ∧ t.ifl = true ∧ t.nointr = true ∧
        (∀ k, k ≠ 9 → t.live.getLsbD k = s.live.getLsbD k) ∧
        t.flags = s.flags ∧ Frame s { t with live := s.live, nointr := s.nointr } [] [])) ∧
    (s.protectedMode = true → s.iopl.toNat < s.sys.cpl.toNat → Traps .cli s (.gp 0) ∧ Traps .sti s (.gp 0))) ∧
  (∀ s : State,
    (∃ t, exec .lahf s = .next t ∧ t.reg8 .ah =
        (BitVec.ofBool s.flags.sf ++ BitVec.ofBool s.flags.zf ++ 0#1 ++ BitVec.ofBool s.flags.af ++ 0#1 ++
          BitVec.ofBool s.flags.pf ++ 1#1 ++ BitVec.ofBool s.flags.cf : BitVec 8) ∧
      t.flags = s.flags ∧ Frame8 s t [.ah] []) ∧
    (∃ t, exec .sahf s = .next t ∧ t.flags =
        { cf := (s.reg8 .ah).getLsbD 0, pf := (s.reg8 .ah).getLsbD 2, af := (s.reg8 .ah).getLsbD 4
          zf := (s.reg8 .ah).getLsbD 6, sf := (s.reg8 .ah).getLsbD 7, of := s.flags.of } ∧
      Frame s t [] []))

/-- 41 R350 to R354, 20 R112: IN and OUT make one call on the I/O oracle; a queued answer is what IN reads; in protected mode
with CPL above IOPL they raise #GP(0) and make none. -/
def Obligations.Ports : Prop :=
  (∀ (s : State) (i : Instr) (port : Word) (n : Nat), s.inForm i = some (port, n) →
    ¬(s.protectedMode = true ∧ s.iopl.toNat < s.sys.cpl.toNat) →
    ∃ t, exec i s = .next t ∧
      t.host = { s.host with ioAnswers := s.host.ioAnswers.tail, calls := .portRead port n :: s.host.calls } ∧
      (∀ a rest, s.host.ioAnswers = a :: rest → if n = 1 then t.reg8 .al = loByte a else t.reg .ax = a) ∧
      t.flags = s.flags ∧
      (n = 1 → Frame8 s { t with host := s.host } [.al] []) ∧ (n = 2 → Frame s { t with host := s.host } [.ax] [])) ∧
  (∀ (s : State) (i : Instr) (port : Word) (n : Nat) (v : Word), s.outForm i = some (port, n, v) →
    ¬(s.protectedMode = true ∧ s.iopl.toNat < s.sys.cpl.toNat) →
    ∃ t, exec i s = .next t ∧ t.host = { s.host with calls := .portWrite port n v :: s.host.calls } ∧
      t.flags = s.flags ∧ Frame s t [] []) ∧
  (∀ (s : State) (i : Instr), (s.inForm i).isSome = true ∨ (s.outForm i).isSome = true →
    s.protectedMode = true → s.iopl.toNat < s.sys.cpl.toNat → TrapsAtOnce i s (.gp 0))

/-- 46 R757 to R762, 44 R601: NOP changes nothing, HLT sets HALT, ESC and WAIT change nothing and access no memory; on C286 ESC
raises #NM when EM or TS is set, WAIT when MP and TS are, and HLT #GP(0) in protected mode with CPL above 0. A
prefix byte records itself and its place, and nothing else changes; the last one of a kind wins. -/
def Obligations.ProcessorControl : Prop :=
  (∀ (s : State) (n k : BitVec 3) (e : RM Reg16),
    (∃ t, exec .nop s = .next t ∧ t.flags = s.flags ∧ t.host = s.host ∧ Frame s t [] []) ∧
    (s.protectedMode = false ∨ s.sys.cpl = 0 → ∃ t, exec .hlt s = .next t ∧ t.intFlags.halt = true ∧ t.flags = s.flags ∧
      Frame s { t with intFlags := { t.intFlags with halt := s.intFlags.halt } } [] []) ∧
    (s.protectedMode = true → s.sys.cpl ≠ 0 → Traps .hlt s (.gp 0)) ∧
    (¬(s.cls = .c286 ∧ (s.sys.msw.getLsbD 2 = true ∨ s.sys.msw.getLsbD 3 = true)) →
      ∃ t, exec (.esc n k e) s = .next t ∧ t.flags = s.flags ∧ t.host = s.host ∧ Frame s t [] []) ∧
    (s.cls = .c286 → s.sys.msw.getLsbD 2 = true ∨ s.sys.msw.getLsbD 3 = true → Traps (.esc n k e) s .nm) ∧
    (¬(s.cls = .c286 ∧ s.sys.msw.getLsbD 1 = true ∧ s.sys.msw.getLsbD 3 = true) →
      ∃ t, exec .wait s = .next t ∧ t.flags = s.flags ∧ t.host = s.host ∧ Frame s t [] []) ∧
    (s.cls = .c286 → s.sys.msw.getLsbD 1 = true → s.sys.msw.getLsbD 3 = true → Traps .wait s .nm)) ∧
  ((∀ (s : State) (i : Instr) (r : SegReg), overrideForm i = some r →
    exec i s = .next { s with scratch := { s.scratch with lastPrefixIp := s.ip - 1, override := some r } }) ∧
  (∀ (s : State) (i : Instr) (k : RepKind), (i = .prefixRep ∧ k = .rep) ∨ (i = .prefixRepne ∧ k = .repne) →
    exec i s = .next { s with scratch := { s.scratch with lastPrefixIp := s.ip - 1, rep := some k } }) ∧
  (∀ (s : State) (i : Instr), i = .prefixLock ∨ i = .prefixLockF1 →
    exec i s = .next { s with scratch := { s.scratch with lastPrefixIp := s.ip - 1, lock := true } }))

/-! ## Strings -/

/-- 44 R600, R606 to R610: one element of MOVS, STOS, LODS, CMPS and SCAS, with no repeat prefix: the source is at SI of DS or the
override, the destination at DI of ES, and a pointer moves by the element's size, down when DF is set. -/
def Obligations.StringElements : Prop :=
  (∀ (s : State) (one src : Word), s.scratch.rep = none → one = (if s.df then 0xFFFF else 1) → src = s.reg .si →
    s.accessFault (s.segOr .ds) src 0 false = none →
    (s.accessFault .es (s.reg .di) 0 true = none → ∃ t, exec .movsb s = .next t ∧
      s.holdsByte t (s.segAddr .es (s.reg .di)) (s.busRead8 (s.segAddr (s.segOr .ds) src)).1 ∧
      t.reg .si = s.reg .si + one ∧ t.reg .di = s.reg .di + one ∧ t.flags = s.flags ∧
      Frame s t [.si, .di] [s.segAddr .es (s.reg .di)]) ∧
    (∃ t, exec .lodsb s = .next t ∧ t.reg8 .al = (s.busRead8 (s.segAddr (s.segOr .ds) src)).1 ∧
      t.reg8 .ah = s.reg8 .ah ∧ t.reg .si = s.reg .si + one ∧ t.flags = s.flags ∧ Frame s t [.ax, .si] []) ∧
    (s.accessFault .es (s.reg .di) 0 false = none → ∃ t, exec .cmpsb s = .next t ∧
      t.flags = subFlags (s.busRead8 (s.segAddr (s.segOr .ds) src)).1
        ((s.busRead8 (s.segAddr (s.segOr .ds) src)).2.busRead8 (s.segAddr .es (s.reg .di))).1 false ∧
      t.reg .si = s.reg .si + one ∧ t.reg .di = s.reg .di + one ∧ Frame s t [.si, .di] [])) ∧
  (∀ (s : State) (two src : Word), s.scratch.rep = none → two = (if s.df then 0xFFFE else 2) → src = s.reg .si →
    s.accessFault (s.segOr .ds) src 1 false = none →
    (s.accessFault .es (s.reg .di) 1 true = none → ∃ t, exec .movsw s = .next t ∧
      s.holdsWord t .es (s.reg .di) (s.segGet16 (s.segOr .ds) src).1 ∧
      t.reg .si = s.reg .si + two ∧ t.reg .di = s.reg .di + two ∧ t.flags = s.flags ∧
      Frame s t [.si, .di] (s.storedWord .es (s.reg .di))) ∧
    (∃ t, exec .lodsw s = .next t ∧ t.reg .ax = (s.segGet16 (s.segOr .ds) src).1 ∧
      t.reg .si = s.reg .si + two ∧ t.flags = s.flags ∧ Frame s t [.ax, .si] []) ∧
    (s.accessFault .es (s.reg .di) 1 false = none → ∃ t, exec .cmpsw s = .next t ∧
      t.flags = subFlags (s.segGet16 (s.segOr .ds) src).1
        ((s.segGet16 (s.segOr .ds) src).2.segGet16 .es (s.reg .di)).1 false ∧
      t.reg .si = s.reg .si + two ∧ t.reg .di = s.reg .di + two ∧ Frame s t [.si, .di] [])) ∧
  (∀ (s : State) (one two : Word), s.scratch.rep = none → one = (if s.df then 0xFFFF else 1) →
    two = (if s.df then 0xFFFE else 2) →
    (s.accessFault .es (s.reg .di) 0 true = none → ∃ t, exec .stosb s = .next t ∧
      s.holdsByte t (s.segAddr .es (s.reg .di)) (s.reg8 .al) ∧ t.reg .di = s.reg .di + one ∧ t.flags = s.flags ∧
      Frame s t [.di] [s.segAddr .es (s.reg .di)]) ∧
    (s.accessFault .es (s.reg .di) 1 true = none → ∃ t, exec .stosw s = .next t ∧
      s.holdsWord t .es (s.reg .di) (s.reg .ax) ∧ t.reg .di = s.reg .di + two ∧ t.flags = s.flags ∧
      Frame s t [.di] (s.storedWord .es (s.reg .di))) ∧
    (s.accessFault .es (s.reg .di) 0 false = none → ∃ t, exec .scasb s = .next t ∧
      t.flags = subFlags (s.reg8 .al) (s.busRead8 (s.segAddr .es (s.reg .di))).1 false ∧
      t.reg .di = s.reg .di + one ∧ Frame s t [.di] []) ∧
    (s.accessFault .es (s.reg .di) 1 false = none → ∃ t, exec .scasw s = .next t ∧
      t.flags = subFlags (s.reg .ax) (s.segGet16 .es (s.reg .di)).1 false ∧
      t.reg .di = s.reg .di + two ∧ Frame s t [.di] []))

/-- 44 R611, R612, 41 R354: one element of INS and OUTS, with no repeat prefix, and their #GP(0) where CPL is above IOPL. -/
def Obligations.StringPorts : Prop :=
  (∀ (s : State) (one two : Word), s.scratch.rep = none → one = (if s.df then 0xFFFF else 1) →
    two = (if s.df then 0xFFFE else 2) → ¬(s.protectedMode = true ∧ s.iopl.toNat < s.sys.cpl.toNat) →
    (s.accessFault .es (s.reg .di) 0 true = none → ∃ t, exec .insb s = .next t ∧
      (∀ a rest, s.host.ioAnswers = a :: rest → s.holdsByte t (s.segAddr .es (s.reg .di)) (loByte a)) ∧
      t.host.ioAnswers = s.host.ioAnswers.tail ∧ .portRead (s.reg .dx) 1 ∈ t.host.calls ∧
      t.reg .di = s.reg .di + one ∧ t.flags = s.flags ∧
      Frame s { t with host := s.host } [.di] [s.segAddr .es (s.reg .di)]) ∧
    (s.accessFault .es (s.reg .di) 1 true = none → ∃ t, exec .insw s = .next t ∧
      (∀ a rest, s.host.ioAnswers = a :: rest → s.holdsWord t .es (s.reg .di) a) ∧
      t.host.ioAnswers = s.host.ioAnswers.tail ∧ .portRead (s.reg .dx) 2 ∈ t.host.calls ∧
      t.reg .di = s.reg .di + two ∧ t.flags = s.flags ∧
      Frame s { t with host := s.host } [.di] (s.storedWord .es (s.reg .di))) ∧
    (s.accessFault (s.segOr .ds) (s.reg .si) 0 false = none → ∃ t, exec .outsb s = .next t ∧
      t.host.calls.head? =
        some (.portWrite (s.reg .dx) 1 (zext16 (s.busRead8 (s.segAddr (s.segOr .ds) (s.reg .si))).1)) ∧
      t.reg .si = s.reg .si + one ∧ t.flags = s.flags ∧ Frame s t [.si] []) ∧
    (s.accessFault (s.segOr .ds) (s.reg .si) 1 false = none → ∃ t, exec .outsw s = .next t ∧
      t.host.calls.head? = some (.portWrite (s.reg .dx) 2 (s.segGet16 (s.segOr .ds) (s.reg .si)).1) ∧
      t.reg .si = s.reg .si + two ∧ t.flags = s.flags ∧ Frame s t [.si] [])) ∧
  (∀ (s : State) (i : Instr), i = .insb ∨ i = .insw ∨ i = .outsb ∨ i = .outsw →
    s.scratch.rep = none ∨ s.reg .cx ≠ 0 → s.protectedMode = true → s.iopl.toNat < s.sys.cpl.toNat → Traps i s (.gp 0))

/-- 44 R601, R602: under a repeat prefix a string instruction does nothing when CX is 0; else it does one element and counts CX
down, and is over when CX is 0 or, for CMPS and SCAS, when ZF says so; an iteration that is not the last leaves the
repetition pending at its restart address, the last prefix on C86 and the first byte later. (`ahead`, the queue kept
for the next iteration, is the model's choice: notes/assumptions/12.md.) -/
def Obligations.RepeatIteration : Prop :=
  ∀ (s : State) (i : Instr) (element : State → Res State) (compares : Bool) (k : RepKind),
    elementForm i = some (element, compares) → s.scratch.rep = some k →
    (s.reg .cx = 0 → ∃ t, exec i s = .next t ∧ t.rep = none ∧ t.flags = s.flags ∧
      Frame s { t with rep := s.rep } [] []) ∧
    (s.reg .cx ≠ 0 → ∀ u, element s = .ok u → ∃ t, exec i s = .next t ∧
      t.reg .cx = s.reg .cx - 1 ∧ (∀ r, r ≠ .cx → t.reg r = u.reg r) ∧ t.flags = u.flags ∧ t.mem = u.mem ∧
      (s.reg .cx = 1 ∨ (compares = true ∧ u.flags.zf = (k == .repne)) → t.rep = none ∧ t.ip = s.ip) ∧
      (¬(s.reg .cx = 1 ∨ (compares = true ∧ u.flags.zf = (k == .repne))) →
        t.ip = (if s.cls = .c86 then s.scratch.lastPrefixIp else s.scratch.startIp) ∧
        t.rep = some
          { instr := i, startIp := s.scratch.startIp, lastPrefixIp := s.scratch.lastPrefixIp, nextIp := s.ip
            override := s.scratch.override, rep := k, lock := s.scratch.lock, ahead := s.queue })) ∧
    (s.reg .cx ≠ 0 → ∀ x, Raises (element s) x → Traps i s x)

/-! ## Near transfers -/

/-- 45 R650 to R666, R690 to R693, 30 R242: each conditional jump is taken when the flags are as its condition asks, to the next
instruction's offset plus the signed displacement; LOOP, LOOPZ and LOOPNZ count CX down and jump while it is not 0
(and ZF is set, or clear); JCXZ jumps when CX is 0; otherwise nothing changes. A target beyond CS.limit in
protected mode raises #GP(0). -/
def Obligations.ConditionalJumps : Prop :=
  (∀ (s : State) (i : Instr) (c : Cond) (d : Byte), condForm i = some (c, d) →
    (¬c.asks s.flags → ∃ t, exec i s = .next t ∧ t.flags = s.flags ∧ Frame s t [] []) ∧
    (c.asks s.flags → s.inCode (s.ip + sext16 d) →
      ∃ t, exec i s = .next t ∧ JumpFrame s t (s.ip + sext16 d) [] []) ∧
    (c.asks s.flags → ¬s.inCode (s.ip + sext16 d) → Traps i s (.gp 0))) ∧
  ((∀ (s : State) (i : Instr) (d : Byte) (z : Bool),
    (i = .loopJb d ∧ z = true) ∨ (i = .loopzJb d ∧ z = s.flags.zf) ∨ (i = .loopnzJb d ∧ z = !s.flags.zf) →
    (¬(s.reg .cx ≠ 1 ∧ z = true) →
      ∃ t, exec i s = .next t ∧ t.reg .cx = s.reg .cx - 1 ∧ t.flags = s.flags ∧ Frame s t [.cx] []) ∧
    (s.reg .cx ≠ 1 → z = true → s.inCode (s.ip + sext16 d) →
      ∃ t, exec i s = .next t ∧ t.reg .cx = s.reg .cx - 1 ∧ JumpFrame s t (s.ip + sext16 d) [.cx] []) ∧
    (s.reg .cx ≠ 1 → z = true → ¬s.inCode (s.ip + sext16 d) → Traps i s (.gp 0))) ∧
  (∀ (s : State) (d : Byte),
    (s.reg .cx ≠ 0 → ∃ t, exec (.jcxzJb d) s = .next t ∧ t.flags = s.flags ∧ Frame s t [] []) ∧
    (s.reg .cx = 0 → s.inCode (s.ip + sext16 d) →
      ∃ t, exec (.jcxzJb d) s = .next t ∧ JumpFrame s t (s.ip + sext16 d) [] []) ∧
    (s.reg .cx = 0 → ¬s.inCode (s.ip + sext16 d) → Traps (.jcxzJb d) s (.gp 0))))

/-- 45 R667 to R669, R673, R674, R680, R681: the near jumps, calls and returns; a call pushes the next instruction's offset, a
return pops the target and then releases the bytes it names; a target beyond CS.limit in protected mode raises
#GP(0), before a call pushes. -/
def Obligations.NearTransfers : Prop :=
  ((∀ (s : State) (i : Instr) (target : Word),
    (∃ d, i = .jmpJb d ∧ target = s.ip + sext16 d) ∨ (∃ w, i = .jmpJw w ∧ target = s.ip + w) ∨
      (∃ e, i = .jmpEw e ∧ s.canReadEw e ∧ target = s.valueEw e) →
    s.inCode target → ∃ t, exec i s = .next t ∧ JumpFrame s t target [] []) ∧
  (∀ (s : State) (i : Instr) (target : Word),
    (∃ w, i = .callJw w ∧ target = s.ip + w) ∨ (∃ e, i = .callEw e ∧ s.canReadEw e ∧ target = s.valueEw e) →
    s.inCode target → s.canPush 1 →
    ∃ t, exec i s = .next t ∧ s.holdsPushed t [s.ip] ∧ t.reg .sp = s.reg .sp - 2 ∧
      JumpFrame s t target [.sp] (s.pushedAddrs 1)) ∧
  (∀ (s : State) (i : Instr) (k target : Word), nearReturnForm i = some k → s.canPop 1 →
    target = (s.segGet16 .ss (s.reg .sp)).1 → s.inCode target →
    ∃ t, exec i s = .next t ∧ t.reg .sp = s.reg .sp + 2 + k ∧ JumpFrame s t target [.sp] [])) ∧
  ((∀ (s : State) (i : Instr) (target : Word),
    (∃ d, i = .jmpJb d ∧ target = s.ip + sext16 d) ∨ (∃ w, i = .jmpJw w ∧ target = s.ip + w) ∨
      (∃ w, i = .callJw w ∧ target = s.ip + w) ∨ (∃ e, i = .jmpEw e ∧ s.canReadEw e ∧ target = s.valueEw e) ∨
      (∃ e, i = .callEw e ∧ s.canReadEw e ∧ target = s.valueEw e) →
    ¬s.inCode target → Traps i s (.gp 0)) ∧
  (∀ (s : State) (i : Instr) (k : Word), nearReturnForm i = some k → s.canPop 1 →
    ¬s.inCode (s.segGet16 .ss (s.reg .sp)).1 → Traps i s (.gp 0)))

/-! ## Far transfers -/

/-- 45 R670 to R672, R675, R676, R682 to R684, 20 R119: in real mode a far jump, call or return loads CS and IP; a call pushes CS
and then the next instruction's offset; a return pops the offset and then the selector and releases its bytes. -/
def Obligations.FarTransfersReal : Prop :=
  (∀ (s : State) (i : Instr) (sel off : Word), s.farForm i = some (false, sel, off) → s.protectedMode = false →
    s.canReadFar i →
    ∃ t, exec i s = .next t ∧ t.flags = s.flags ∧ t.live = s.live ∧ t.intFlags = s.latched ∧
      FarFrame s t sel off [] []) ∧
  (∀ (s : State) (i : Instr) (sel off : Word), s.farForm i = some (true, sel, off) → s.protectedMode = false →
    s.canReadFar i → s.canPush 2 →
    ∃ t, exec i s = .next t ∧ s.holdsPushed t [(s.seg .cs).selector, s.ip] ∧ t.reg .sp = s.reg .sp - 4 ∧
      t.flags = s.flags ∧ t.live = s.live ∧ t.intFlags = s.latched ∧ FarFrame s t sel off [.sp] (s.pushedAddrs 2)) ∧
  (∀ (s : State) (i : Instr) (k off sel : Word), farReturnForm i = some k → s.protectedMode = false → s.canPop 2 →
    (s.popMany 2).1 = [off, sel] →
    ∃ t, exec i s = .next t ∧ t.reg .sp = s.reg .sp + 4 + k ∧ t.flags = s.flags ∧ t.live = s.live ∧
      t.intFlags = s.latched ∧ FarFrame s t sel off [.sp] [])

/-- 45 R671, 20 R126, R127: in protected mode a far jump or call to a code segment checks the descriptor and loads CS with the
selector at the current CPL, which stays, and sets the descriptor's accessed bit, in memory too; a call whose return address the stack does not take raises what the push
raises. -/
def Obligations.FarTransfersProtected : Prop :=
  ∀ (s v : State) (i : Instr) (call : Bool) (sel off : Word) (d : Desc), s.farForm i = some (call, sel, off) →
    s.protectedMode = true → s.canReadFar i → v = s.afterFar i → d = v.descOf sel →
    (s.isNull sel = true → Traps i s (.gp 0)) ∧
    (s.isNull sel = false → s.inTable sel = false → Traps i s (.gp (sel &&& 0xFFFC))) ∧
    (s.isNull sel = false → s.inTable sel = true →
      (d.isCode = false → (∀ ty : BitVec 4, ty = 1 ∨ ty = 4 ∨ ty = 5 → d.isSystem ty = false) →
        Traps i s (.gp (sel &&& 0xFFFC))) ∧
      (d.isCode = true →
        (d.conforming = true ∧ s.sys.cpl.toNat < d.dpl.toNat ∨
            d.conforming = false ∧ (s.sys.cpl.toNat < (rpl sel).toNat ∨ d.dpl ≠ s.sys.cpl) →
          Traps i s (.gp (sel &&& 0xFFFC))) ∧
        (d.conforming = true ∧ d.dpl.toNat ≤ s.sys.cpl.toNat ∨
            d.conforming = false ∧ (rpl sel).toNat ≤ s.sys.cpl.toNat ∧ d.dpl = s.sys.cpl →
          (d.present = false → Traps i s (.np (sel &&& 0xFFFC))) ∧
          (d.present = true → d.limit.toNat < off.toNat → Traps i s (.gp 0)) ∧
          (d.present = true → off.toNat ≤ d.limit.toNat → call = true →
            ∀ e, s.firstFault (s.pushes 2) = some e → Traps i s e) ∧
          (d.present = true → off.toNat ≤ d.limit.toNat → (call = true → s.canPush 2) →
            ∃ t, exec i s = .next t ∧
              t.seg .cs =
                { selector := (sel &&& 0xFFFC) ||| s.sys.cpl.setWidth 16, base := d.base, limit := d.limit
                  access := d.access ||| 1, nullLoaded := false } ∧
              t.sys.cpl = s.sys.cpl ∧ t.seg .ss = s.seg .ss ∧ t.flags = s.flags ∧ t.live = s.live ∧
              t.intFlags = s.latched ∧
              s.setsAccessed t sel d ∧
              (call = false → CodeFrame s t off [] [s.accessAddr sel]) ∧
              (call = true → t.reg .sp = s.reg .sp - 4 ∧
                (accAccessed d.access = true → s.holdsPushed t [(s.seg .cs).selector, s.ip]) ∧
                CodeFrame s t off [.sp] (s.accessAddr sel :: s.pushedAddrs 2))))))

/-! ## Interrupts and exceptions -/

/-- 45 R700 to R703, 60 R920, R930, R950: in real mode INT n, INT3 and INTO (when OF is set) push PS, CS and the next instruction's
offset, clear TF and IF and go to the vector; INTO with OF clear does nothing; a vector beyond IDTR.limit raises
#GP, and a stack that does not take the words what the push raises; IRET pops IP, CS and PS, and on C286 IOPL and NT
become 0. (INT n where the host does not suppress it.) -/
def Obligations.InterruptsReal : Prop :=
  ((∀ (s : State) (i : Instr) (n : Byte),
    (i = .intIb n ∧ (s.intercept n).1 = .proceed) ∨ (i = .int3 ∧ n = 3) ∨ (i = .into ∧ n = 4 ∧ s.flags.of = true) →
    s.protectedMode = false →
    (s.vectorInTable n → s.canPush 3 →
      ∃ t, exec i s = .next t ∧ s.holdsPushed t [s.getPS, (s.seg .cs).selector, s.ip] ∧ t.reg .sp = s.reg .sp - 6 ∧
        t.flags = s.flags ∧ t.tf = false ∧ t.ifl = false ∧
        (∀ k, k ≠ 8 → k ≠ 9 → t.live.getLsbD k = s.live.getLsbD k) ∧ t.intFlags = s.latched ∧
        FarFrame s t (s.vector n).2 (s.vector n).1 [.sp] (s.pushedAddrs 3)) ∧
    (¬s.vectorInTable n → Traps i s (.gp 0)) ∧
    (s.vectorInTable n → ∀ e, s.firstFault (s.pushes 3) = some e → Traps i s e)) ∧
  (∀ s : State, s.flags.of = false → ∃ t, exec .into s = .next t ∧ t.flags = s.flags ∧ Frame s t [] [])) ∧
  (∀ (s : State) (off sel f : Word), s.protectedMode = false → s.canPop 3 → (s.popMany 3).1 = [off, sel, f] →
    ∃ t, exec .iret s = .next t ∧ t.reg .sp = s.reg .sp + 6 ∧ t.flags = Flags.ofWord f ∧ t.tf = f.getLsbD 8 ∧
      t.ifl = f.getLsbD 9 ∧ t.df = f.getLsbD 10 ∧ (s.cls = .c286 → t.live &&& 0x7000 = 0) ∧
      t.intFlags = s.latched ∧ FarFrame s t sel off [.sp] [])

/-- 60 R910, R911, R930, R931, R970, R971: an exception in real mode undoes the instruction, pushes PS, CS and the saved IP (of
#DE on C86 and C186 the next instruction's, else the first byte's), clears TF and IF, and goes to its vector; the
step goes on there (`handlerEntry`, the model's own mark for it: notes/assumptions/6.md). On C286 an exception
whose vector is beyond IDTR.limit goes to vector 8 instead; if that is beyond it too, or if the words cannot be
pushed, so that vector 8's cannot either, the block shuts down with nothing else changed (but calls on a device
that holds the vectors; that IP too stays where it is is the model's choice: notes/assumptions/29.md); no step leaves
SHUTDOWN. -/
def Obligations.ExceptionsReal : Prop :=
  ([Exc.de, .db, .br, .ud, .nm, .df, .ts 8, .np 8, .ss 8, .gp 8].map Exc.vector = [0, 1, 5, 6, 7, 8, 10, 11, 12, 13] ∧
  ∀ (s u v t : State) (e : Exc) (ip : Word), s.protectedMode = false → v = s.undo u → ip = s.faultIp e →
    v.vectorInTable e.vector → v.canPush 3 → t = s.deliverRaise { exc := e, seen := u, committed := false } →
      s.holdsPushed t [s.getPS, (s.seg .cs).selector, ip] ∧ t.reg .sp = s.reg .sp - 6 ∧ t.flags = s.flags ∧
      t.tf = false ∧ t.ifl = false ∧ (∀ k, k ≠ 8 → k ≠ 9 → t.live.getLsbD k = s.live.getLsbD k) ∧
      t.intFlags = s.intFlags ∧ t.handlerEntry = true ∧
      FarFrame s t (v.vector e.vector).2 (v.vector e.vector).1 [.sp] (s.pushedAddrs 3)) ∧
  ((∀ (s : State) (ip : Word) (e : Exc), s.cls = .c286 → s.protectedMode = false → ¬s.vectorInTable e.vector →
    (¬s.vectorInTable 8 → s.takeException ip e = { s with status := .shutdown }) ∧
    (s.vectorInTable 8 → s.canPush 3 →
      s.holdsPushed (s.takeException ip e) [s.getPS, (s.seg .cs).selector, ip] ∧
      (s.takeException ip e).reg .sp = s.reg .sp - 6 ∧
      FarFrame s (s.takeException ip e) (s.vector 8).2 (s.vector 8).1 [.sp] (s.pushedAddrs 3))) ∧
  (∀ (s : State) (ip : Word) (e : Exc), s.cls = .c286 → s.protectedMode = false → ¬s.canPush 3 →
    ∃ calls d, s.takeException ip e =
      { s with status := .shutdown, host := { s.host with calls := calls }, draws := d }) ∧
  (∀ s : State, (s.status = .shutdown → step s = .fault .shutdown) ∧ (s.status = .error → step s = .fault .hostError)))

/-- 60 R921, R941, R942: what a protected-mode delivery raises, in the order of its checks: the IDT limit, the gate's type,
its DPL for a software interrupt, its present bit, then the target's; for a target of an inner level a TSS that is too
short, and a stack selector that is null, outside its table, not a writable data segment of that level, or not present;
and then a stack that does not take the words, with error code 0 on an inner level's. (Gate, target and TSS are in no
device's memory.) -/
def Obligations.GateFaults : Prop :=
  ∀ (s : State) (n : Byte) (software : Bool) (ip : Word) (code : Option Word) (g t : Desc) (lin : BitVec 32),
    lin = s.sys.idtr.base.setWidth 32 + BitVec.ofNat 32 (8 * n.toNat) → s.protectedMode = true →
    g = s.descAt lin → s.plainDesc lin → t = s.descOf g.mid → s.plainSel g.mid →
    (s.sys.idtr.limit.toNat < 8 * n.toNat + 7 → Raises (s.deliver n software ip code) (.gp (BitVec.ofNat 16 (8 * n.toNat + 2)))) ∧
    (8 * n.toNat + 7 ≤ s.sys.idtr.limit.toNat →
      (g.isSystem 6 = false → g.isSystem 7 = false →
        Raises (s.deliver n software ip code) (.gp (BitVec.ofNat 16 (8 * n.toNat + 2)))) ∧
      (g.isSystem 6 = true ∨ g.isSystem 7 = true →
        (software = true → g.dpl.toNat < s.sys.cpl.toNat →
          Raises (s.deliver n software ip code) (.gp (BitVec.ofNat 16 (8 * n.toNat + 2)))) ∧
        (software = false ∨ s.sys.cpl.toNat ≤ g.dpl.toNat →
          (g.present = false → Raises (s.deliver n software ip code) (.np (BitVec.ofNat 16 (8 * n.toNat + 2)))) ∧
          (g.present = true →
            (s.isNull g.mid = true → Raises (s.deliver n software ip code) (.gp 0)) ∧
            (s.isNull g.mid = false → s.inTable g.mid = false →
              Raises (s.deliver n software ip code) (.gp (g.mid &&& 0xFFFC))) ∧
            (s.isNull g.mid = false → s.inTable g.mid = true →
              (t.isCode = false ∨ s.sys.cpl.toNat < t.dpl.toNat →
                Raises (s.deliver n software ip code) (.gp (g.mid &&& 0xFFFC))) ∧
              (t.isCode = true → t.dpl.toNat ≤ s.sys.cpl.toNat →
                (t.present = false → Raises (s.deliver n software ip code) (.np (g.mid &&& 0xFFFC))) ∧
                (t.present = true → t.limit.toNat < g.lo.toNat → Raises (s.deliver n software ip code) (.gp 0)) ∧
                (t.present = true → g.lo.toNat ≤ t.limit.toNat → s.sameLevel t → ∀ e,
                  s.firstFault (s.pushes (3 + code.toList.length)) = some e →
                  Raises (s.deliver n software ip code) e) ∧
                (t.present = true → g.lo.toNat ≤ t.limit.toNat → t.conforming = false →
                  t.dpl.toNat < s.sys.cpl.toNat →
                  (s.sys.tr.limit.toNat < 4 * t.dpl.toNat + 5 →
                    Raises (s.deliver n software ip code) (.ts (s.sys.tr.selector &&& 0xFFFC))) ∧
                  (∀ nsp nss : Word, 4 * t.dpl.toNat + 5 ≤ s.sys.tr.limit.toNat →
                    s.sysRead16 (s.sys.tr.base.setWidth 32 + BitVec.ofNat 32 (2 + 4 * t.dpl.toNat)) = (nsp, s) →
                    s.sysRead16 (s.sys.tr.base.setWidth 32 + BitVec.ofNat 32 (4 + 4 * t.dpl.toNat)) = (nss, s) →
                    (s.isNull nss = true ∨ s.inTable nss = false →
                      Raises (s.deliver n software ip code) (.ts (nss &&& 0xFFFC))) ∧
                    (∀ sd : Desc, s.isNull nss = false → s.inTable nss = true → sd = s.descOf nss →
                      (sd.writable = false ∨ rpl nss ≠ t.dpl ∨ sd.dpl ≠ t.dpl →
                        Raises (s.deliver n software ip code) (.ts (nss &&& 0xFFFC))) ∧
                      (sd.writable = true → rpl nss = t.dpl → sd.dpl = t.dpl →
                        (sd.present = false → Raises (s.deliver n software ip code) (.ss (nss &&& 0xFFFC))) ∧
                        (sd.present = true → ∀ u, u = s.onStack nss nsp sd →
                          u.firstFault (u.pushes (5 + code.toList.length)) ≠ none →
                          Raises (s.deliver n software ip code) (.ss 0))))))))))))

/-- 60 R921, R930, R941, R942: a protected-mode delivery through a gate whose checks pass pushes PS, CS, the saved IP and the
error code if there is one, loads CS and IP from the gate and clears NT and TF, through an interrupt gate IF too; to
an inner level it moves to the stack the TSS gives for it and pushes the old SS and SP first. (Gate, target, TSS
and stack segment in no device's memory, and their accessed bits set. That NOINTR stays at an inner level too is the
model's choice: notes/assumptions/32.md.) -/
def Obligations.GateDelivery : Prop :=
  ∀ (s : State) (n : Byte) (software : Bool) (ip : Word) (code : Option Word) (g d : Desc),
    s.gateLeads n software g d →
    (s.sameLevel d → s.canPush (3 + code.toList.length) →
      ∃ t, s.deliver n software ip code = .ok t ∧
        EntersSame s t g d ([s.getPS, (s.seg .cs).selector, ip] ++ code.toList)) ∧
    (∀ (nsp nss : Word) (sd : Desc), s.innerStack d nss nsp sd →
      (s.onStack nss nsp sd).canPush (5 + code.toList.length) →
      ∃ t, s.deliver n software ip code = .ok t ∧
        EntersInner s t g d nss nsp sd
          ([(s.seg .ss).selector, s.reg .sp, s.getPS, (s.seg .cs).selector, ip] ++ code.toList))

/-- 60 R910, R911, R930, R931, R941, R970, R971: in protected mode an exception of an instruction undoes it and is delivered
through its gate with the saved IP (the first byte's) and its error code, and the step goes on there
(`handlerEntry`, the model's own mark for it: notes/assumptions/6.md); a fault in that delivery is replaced by #DF
through gate 8, with error code 0 and the IP the failed delivery would have saved; a fault in the delivery of #DF
shuts the block down with nothing else changed (that IP too stays where it is, and NOINTR where SS is loaded, is the
model's choice: notes/assumptions/29.md, 32.md). -/
def Obligations.ExceptionsProtected : Prop :=
  ([Exc.de, .db, .br, .ud, .nm, .df, .ts 8, .np 8, .ss 8, .gp 8].map Exc.code =
    [none, none, none, none, none, some 0, some 8, some 8, some 8, some 8]) ∧
  (∀ (s u v t : State) (e : Exc) (g d : Desc) (ws : List Word), v = s.undo u → v.gateLeads e.vector false g d →
    ws = [s.getPS, (s.seg .cs).selector, s.scratch.startIp] ++ e.code.toList →
    t = s.deliverRaise { exc := e, seen := u, committed := false } →
    (v.sameLevel d → v.canPush ws.length → EntersSame s t g d ws ∧ t.handlerEntry = true ∧ t.intFlags = s.intFlags) ∧
    (∀ (nsp nss : Word) (sd : Desc), v.innerStack d nss nsp sd → (v.onStack nss nsp sd).canPush (ws.length + 2) →
      EntersInner s t g d nss nsp sd ([(s.seg .ss).selector, s.reg .sp] ++ ws) ∧ t.handlerEntry = true ∧
        t.intFlags = s.intFlags)) ∧
  (∀ (s u v t : State) (e : Exc) (g d : Desc) (r : Raise) (ws : List Word), s.protectedMode = true →
    (s.undo u).deliver e.vector false s.scratch.startIp e.code = .error r → v = (s.undo u).undo r.seen →
    t = s.deliverRaise { exc := e, seen := u, committed := false } →
    ws = [s.getPS, (s.seg .cs).selector, s.scratch.startIp, 0] →
    (v.gateLeads 8 false g d →
      (v.sameLevel d → v.canPush 4 → EntersSame s t g d ws ∧ t.handlerEntry = true) ∧
      (∀ (nsp nss : Word) (sd : Desc), v.innerStack d nss nsp sd → (v.onStack nss nsp sd).canPush 6 →
        EntersInner s t g d nss nsp sd ([(s.seg .ss).selector, s.reg .sp] ++ ws) ∧ t.handlerEntry = true)) ∧
    (∀ q, v.deliver 8 false s.scratch.startIp (some 0) = .error q →
      t = { s.undo q.seen with status := .shutdown, handlerEntry := true }))

/-- 45 R700 to R702, 60 R930: in protected mode a software interrupt is a delivery with the next instruction's offset and no error
code, and what the delivery raises is the instruction's own exception. -/
def Obligations.SoftwareInterruptsProtected : Prop :=
  ∀ (s v : State) (i : Instr) (n : Byte), s.protectedMode = true →
    (i = .intIb n ∧ s.intercept n = (.proceed, v)) ∨ (i = .int3 ∧ n = 3 ∧ v = s) ∨
      (i = .into ∧ n = 4 ∧ s.flags.of = true ∧ v = s) →
    (∀ u, v.deliver n true s.ip none = .ok u → ∃ t, exec i s = .next t ∧ t.regs = u.regs ∧ t.segs = u.segs ∧
      t.sys = u.sys ∧ t.ip = u.ip ∧ t.live = u.live ∧ t.flags = u.flags ∧ t.mem = u.mem) ∧
    (∀ x, Raises (v.deliver n true s.ip none) x → Traps i s x)

/-- 60 R951, 10 R39; 45 R682 to R684: in protected mode IRET (with no nested task) and the far returns to a CS of the same
level that passes their checks (ReturnFaults says what the checks raise) load CS, and IRET the status word as POPF
does. That the load sets the accessed bit, in the cache and at the descriptor's access byte, is 20 R127, and the
model's inference where these rules do not repeat it: notes/assumptions/14.md. -/
def Obligations.ReturnsSameLevel : Prop :=
  ∀ (s : State) (off sel : Word) (d : Desc), s.protectedMode = true →
    s.segRead16 .ss (s.reg .sp) = .ok (off, s) → s.segRead16 .ss (s.reg .sp + 2) = .ok (sel, s) →
    d = s.descOf sel → s.plainSel sel → rpl sel = s.sys.cpl → s.isNull sel = false → s.inTable sel = true →
    d.isCode = true → (if d.conforming then d.dpl.toNat ≤ (rpl sel).toNat else d.dpl = rpl sel) → d.present = true →
    off.toNat ≤ d.limit.toNat →
    (∀ (i : Instr) (k : Word), farReturnForm i = some k →
      ∃ t, exec i s = .next t ∧ s.setsAccessed t sel d ∧ t.reg .sp = s.reg .sp + 4 + k ∧ t.seg .cs = d.cache sel ∧ t.sys.cpl = s.sys.cpl ∧
        t.seg .ss = s.seg .ss ∧ t.flags = s.flags ∧ t.live = s.live ∧ t.intFlags = s.latched ∧
        CodeFrame s t off [.sp] [s.accessAddr sel]) ∧
    (∀ f : Word, s.segRead16 .ss (s.reg .sp + 4) = .ok (f, s) → f.getLsbD 14 = false → s.nt = false →
      ∃ t, exec .iret s = .next t ∧ s.setsAccessed t sel d ∧ t.reg .sp = s.reg .sp + 6 ∧ t.seg .cs = d.cache sel ∧ t.sys.cpl = s.sys.cpl ∧
        t.seg .ss = s.seg .ss ∧ t.flags = Flags.ofWord f ∧ t.tf = f.getLsbD 8 ∧ t.df = f.getLsbD 10 ∧ t.nt = false ∧
        t.ifl = (if s.iopl.toNat < s.sys.cpl.toNat then s.ifl else f.getLsbD 9) ∧
        t.iopl = (if s.sys.cpl = 0 then f.extractLsb' 12 2 else s.iopl) ∧ t.intFlags = s.latched ∧
        CodeFrame s t off [.sp] [s.accessAddr sel])

/-- 45 R684, 60 R951: a return to an outer level takes SS and SP from the stack too, CPL from the selector's RPL, all of PS for
IRET, nulls DS and ES where the new level may not use their segment, and keeps them where it may. (ReturnFaults
says what its checks raise.) That the loads of CS and SS set the accessed bits is 20 R127, and the model's inference
where these rules do not repeat it: notes/assumptions/14.md. -/
def Obligations.ReturnsOuterLevel : Prop :=
  ∀ (s : State) (off sel f nsp nss k : Word) (d sd : Desc) (i : Instr), s.protectedMode = true →
    s.sys.cpl.toNat < (rpl sel).toNat →
    s.segRead16 .ss (s.reg .sp) = .ok (off, s) → s.segRead16 .ss (s.reg .sp + 2) = .ok (sel, s) →
    d = s.descOf sel → s.plainSel sel → s.isNull sel = false → s.inTable sel = true →
    d.isCode = true → (if d.conforming then d.dpl.toNat ≤ (rpl sel).toNat else d.dpl = rpl sel) → d.present = true →
    off.toNat ≤ d.limit.toNat →
    (farReturnForm i = some k ∧ s.segRead16 .ss (s.reg .sp + 4 + k) = .ok (nsp, s) ∧
        s.segRead16 .ss (s.reg .sp + 6 + k) = .ok (nss, s) ∨
      i = .iret ∧ k = 0 ∧ s.nt = false ∧ s.segRead16 .ss (s.reg .sp + 6) = .ok (nsp, s) ∧
        s.segRead16 .ss (s.reg .sp + 8) = .ok (nss, s) ∧ s.segRead16 .ss (s.reg .sp + 4) = .ok (f, s) ∧
        f.getLsbD 14 = false) →
    s.isNull nss = false → s.inTable nss = true → sd = s.descOf nss → s.plainSel nss → sd.writable = true →
    rpl nss = rpl sel → sd.dpl = rpl sel → sd.present = true →
    ∃ t, exec i s = .next t ∧ t.ip = off ∧ t.seg .cs = d.cache sel ∧ t.seg .ss = sd.cache nss ∧
      t.sys = { s.sys with cpl := rpl sel } ∧ t.intFlags = s.latched ∧
      (i ≠ .iret → t.flags = s.flags ∧ t.live = s.live) ∧
      (i = .iret → t.flags = Flags.ofWord f ∧ t.tf = f.getLsbD 8 ∧ t.ifl = f.getLsbD 9 ∧ t.df = f.getLsbD 10 ∧
        t.iopl = f.extractLsb' 12 2 ∧ t.nt = false) ∧
      t.reg .sp = nsp + k ∧ (∀ r, r ≠ .sp → t.reg r = s.reg r) ∧
      (∀ r : SegReg, r = .ds ∨ r = .es →
        if accExec (s.seg r).access = true ∧ accBit2 (s.seg r).access = true ∨
            (rpl sel).toNat ≤ (accDpl (s.seg r).access).toNat then t.seg r = s.seg r
        else (t.seg r).nullLoaded = true) ∧
      s.setsAccessed t sel d ∧ s.setsAccessed t nss sd ∧
      (∀ a, a ≠ s.accessAddr sel → a ≠ s.accessAddr nss → Memory.read t.mem a = Memory.read s.mem a)

/-- 45 R684, 60 R951, 20 R121, R122, R124: what the checks of a return raise in protected mode, in their order: for CS an RPL below
CPL, a null selector, one outside its table, no code segment, privilege, not present, an offset beyond the limit;
then for the SS of an outer level a null selector, one outside its table, no writable data segment of that level, not
present. (That the null SS raises #NP(0), which 20 R124 gives for an SS load, and not the #GP of R684 and R951, is the
model's inference: notes/assumptions/9.md.) -/
def Obligations.ReturnFaults : Prop :=
  ∀ (s : State) (i : Instr) (k above off sel : Word) (d : Desc), returnForm i = some (k, above) → s.returnsTo i off sel →
    d = s.descOf sel → s.plainSel sel →
    ((rpl sel).toNat < s.sys.cpl.toNat → Traps i s (.gp (sel &&& 0xFFFC))) ∧
    (s.sys.cpl.toNat ≤ (rpl sel).toNat →
      (s.isNull sel = true → Traps i s (.gp 0)) ∧
      (s.isNull sel = false → s.inTable sel = false → Traps i s (.gp (sel &&& 0xFFFC))) ∧
      (s.isNull sel = false → s.inTable sel = true →
        (d.isCode = false ∨ (d.conforming = false ∧ d.dpl ≠ rpl sel) ∨
            (d.conforming = true ∧ (rpl sel).toNat < d.dpl.toNat) → Traps i s (.gp (sel &&& 0xFFFC))) ∧
        (d.isCode = true → (if d.conforming then d.dpl.toNat ≤ (rpl sel).toNat else d.dpl = rpl sel) →
          (d.present = false → Traps i s (.np (sel &&& 0xFFFC))) ∧
          (d.present = true → d.limit.toNat < off.toNat → Traps i s (.gp 0)) ∧
          (d.present = true → off.toNat ≤ d.limit.toNat → s.sys.cpl.toNat < (rpl sel).toNat →
            ∀ (nsp nss : Word) (sd : Desc), s.segRead16 .ss (s.reg .sp + above) = .ok (nsp, s) →
              s.segRead16 .ss (s.reg .sp + above + 2) = .ok (nss, s) → sd = s.descOf nss →
              (s.isNull nss = true → Traps i s (.np 0)) ∧
              (s.isNull nss = false → s.inTable nss = false → Traps i s (.gp (nss &&& 0xFFFC))) ∧
              (s.isNull nss = false → s.inTable nss = true →
                (sd.writable = false ∨ rpl nss ≠ rpl sel ∨ sd.dpl ≠ rpl sel → Traps i s (.gp (nss &&& 0xFFFC))) ∧
                (sd.writable = true → rpl nss = rpl sel → sd.dpl = rpl sel → sd.present = false →
                  Traps i s (.ss (nss &&& 0xFFFC))))))))

/-- 45 R677: a call or jump through a call gate to code of the same level (for a call, or conforming code) goes to the gate's
offset at the CPL it had; a call to an inner level moves to the stack the TSS gives for it, pushes the old SS and
SP, the gate's words copied from the old stack, each pushed as it is read, CS and the next instruction's offset, and
runs at that level. (For the inner level: gate, target, TSS and stack segment in no device's memory, and the pushed
words as they are when no accessed bit has to be written.) That the load of CS sets the accessed bit, in the cache and
at the descriptor's access byte, is 20 R127, and the model's inference here: notes/assumptions/14.md. That NOINTR stays
is its choice: notes/assumptions/32.md; so is that each parameter is pushed as it is read: notes/assumptions/36.md. -/
def Obligations.CallGates : Prop :=
  (∀ (s v u : State) (i : Instr) (off sel nsp nss : Word) (g d sd : Desc) (params : List Word),
    s.farForm i = some (true, sel, off) → s.protectedMode = true → s.canReadFar i → v = s.afterFar i →
    s.isNull sel = false → s.inTable sel = true → g = v.descOf sel → v.plainSel sel → g.isSystem 4 = true →
    max s.sys.cpl.toNat (rpl sel).toNat ≤ g.dpl.toNat → g.present = true →
    s.isNull g.mid = false → s.inTable g.mid = true → d = v.descOf g.mid → v.plainSel g.mid → d.isCode = true →
    d.present = true → g.lo.toNat ≤ d.limit.toNat → accAccessed d.access = true → v.innerStack d nss nsp sd →
    u = v.onStack nss nsp sd → params.length = g.count → u.canPush (4 + g.count) →
    (∀ k, (h : k < params.length) → ∀ w,
      State.pushAll ([(s.seg .ss).selector, s.reg .sp] ++ params.take k) u = .ok w →
      (w.setSeg .ss (s.seg .ss)).segRead16 .ss (s.reg .sp + BitVec.ofNat 16 (2 * (params.length - 1 - k))) =
        .ok (params[k], w.setSeg .ss (s.seg .ss))) →
    ∃ t, exec i s = .next t ∧
      u.holdsPushed t ([(s.seg .ss).selector, s.reg .sp] ++ params ++ [(s.seg .cs).selector, s.ip]) ∧
      t.reg .sp = nsp - BitVec.ofNat 16 (8 + 2 * g.count) ∧ t.seg .ss = sd.cache nss ∧
      t.seg .cs = { d.cache g.mid with selector := (g.mid &&& 0xFFFC) ||| d.dpl.setWidth 16 } ∧ t.sys.cpl = d.dpl ∧
      t.flags = s.flags ∧ t.live = s.live ∧ t.intFlags = s.latched ∧
      CodeFrame s t g.lo [.sp] (u.pushedAddrs (4 + g.count))) ∧
  (∀ (s v : State) (i : Instr) (call : Bool) (off sel : Word) (g d : Desc), s.farForm i = some (call, sel, off) →
    s.protectedMode = true → s.canReadFar i → v = s.afterFar i →
    s.isNull sel = false → s.inTable sel = true → g = v.descOf sel → v.plainSel sel → g.isSystem 4 = true →
    max s.sys.cpl.toNat (rpl sel).toNat ≤ g.dpl.toNat → g.present = true → s.isNull g.mid = false →
    s.inTable g.mid = true → d = v.descOf g.mid → d.isCode = true → d.dpl.toNat ≤ s.sys.cpl.toNat →
    s.sameLevel d → d.present = true → g.lo.toNat ≤ d.limit.toNat → (call = true → s.canPush 2) →
      ∃ t, exec i s = .next t ∧
        t.seg .cs = { d.cache g.mid with selector := (g.mid &&& 0xFFFC) ||| s.sys.cpl.setWidth 16 } ∧
        t.sys.cpl = s.sys.cpl ∧ t.seg .ss = s.seg .ss ∧ t.flags = s.flags ∧ t.live = s.live ∧ t.intFlags = s.latched ∧
        s.setsAccessed t g.mid d ∧
        (call = false → CodeFrame s t g.lo [] [s.accessAddr g.mid]) ∧
        (call = true → t.reg .sp = s.reg .sp - 4 ∧
          (accAccessed d.access = true → s.holdsPushed t [(s.seg .cs).selector, s.ip]) ∧
          CodeFrame s t g.lo [.sp] (s.accessAddr g.mid :: s.pushedAddrs 2)))

/-- 45 R677, 60 R942, 20 R121: what a call or jump through a call gate raises, in the order of its checks: for the gate its DPL and its
present bit; for its target a null selector, one outside its table, no code segment or one of an outer level, not
present, an offset beyond the limit; for a jump, code of an inner level; for a call to an inner level a TSS that is too
short, and a stack selector that is null, outside its table, not a writable data segment of that level, or not
present; then a first word that the new stack does not take; for a call at the same level a return address that the
stack does not take. -/
def Obligations.CallGateFaults : Prop :=
  ∀ (s v : State) (i : Instr) (call : Bool) (off sel : Word) (g d : Desc), s.farForm i = some (call, sel, off) →
    s.protectedMode = true → s.canReadFar i → v = s.afterFar i →
    s.isNull sel = false → s.inTable sel = true → g = v.descOf sel → v.plainSel sel → g.isSystem 4 = true →
    (g.dpl.toNat < max s.sys.cpl.toNat (rpl sel).toNat → Traps i s (.gp (sel &&& 0xFFFC))) ∧
    (max s.sys.cpl.toNat (rpl sel).toNat ≤ g.dpl.toNat →
      (g.present = false → Traps i s (.np (sel &&& 0xFFFC))) ∧
      (g.present = true →
        (s.isNull g.mid = true → Traps i s (.gp 0)) ∧
        (s.isNull g.mid = false → s.inTable g.mid = false → Traps i s (.gp (g.mid &&& 0xFFFC))) ∧
        (s.isNull g.mid = false → s.inTable g.mid = true → d = v.descOf g.mid → v.plainSel g.mid →
          (d.isCode = false ∨ s.sys.cpl.toNat < d.dpl.toNat → Traps i s (.gp (g.mid &&& 0xFFFC))) ∧
          (d.isCode = true → d.dpl.toNat ≤ s.sys.cpl.toNat →
            (d.present = false → Traps i s (.np (g.mid &&& 0xFFFC))) ∧
            (d.present = true → d.limit.toNat < g.lo.toNat → Traps i s (.gp 0)) ∧
            (d.present = true → g.lo.toNat ≤ d.limit.toNat → s.sameLevel d → call = true →
              ∀ e, s.firstFault (s.pushes 2) = some e → Traps i s e) ∧
            (d.present = true → g.lo.toNat ≤ d.limit.toNat → d.conforming = false → d.dpl.toNat < s.sys.cpl.toNat →
              (call = false → Traps i s (.gp (g.mid &&& 0xFFFC))) ∧
              (call = true →
                (s.sys.tr.limit.toNat < 4 * d.dpl.toNat + 5 → Traps i s (.ts (s.sys.tr.selector &&& 0xFFFC))) ∧
                (∀ nsp nss : Word, 4 * d.dpl.toNat + 5 ≤ s.sys.tr.limit.toNat →
                  v.sysRead16 (s.sys.tr.base.setWidth 32 + BitVec.ofNat 32 (2 + 4 * d.dpl.toNat)) = (nsp, v) →
                  v.sysRead16 (s.sys.tr.base.setWidth 32 + BitVec.ofNat 32 (4 + 4 * d.dpl.toNat)) = (nss, v) →
                  (s.isNull nss = true ∨ s.inTable nss = false → Traps i s (.ts (nss &&& 0xFFFC))) ∧
                  (∀ sd : Desc, s.isNull nss = false → s.inTable nss = true → sd = v.descOf nss →
                    (sd.writable = false ∨ rpl nss ≠ d.dpl ∨ sd.dpl ≠ d.dpl → Traps i s (.ts (nss &&& 0xFFFC))) ∧
                    (sd.writable = true → rpl nss = d.dpl → sd.dpl = d.dpl →
                      (sd.present = false → Traps i s (.ss (nss &&& 0xFFFC))) ∧
                      (sd.present = true →
                        (v.onStack nss nsp sd).accessFault .ss (nsp - 2) 1 true ≠ none →
                        Traps i s (.ss (nss &&& 0xFFFC))))))))))))

/-! ## Task switches -/

/-- 60 R960, R961: the outgoing task's fourteen words are saved at offsets 14 to 40 of its TSS; a TSS below 44 bytes raises #TS; a
switch that completes leaves the new task's registers, flags, IP and selectors as its TSS gave them, TR on the new
TSS marked busy, TS set, CPL from CS, NT set for a CALL, and the tables as they were; after the commit point a
fault is the new task's, which has the new TR and TS. -/
def Obligations.TaskSwitches : Prop :=
  (∀ (s : State) (ws : List Word), ws = [s.ip, s.getPS, s.reg .ax, s.reg .cx, s.reg .dx, s.reg .bx, s.reg .sp, s.reg .bp,
      s.reg .si, s.reg .di, (s.seg .es).selector, (s.seg .cs).selector, (s.seg .ss).selector, (s.seg .ds).selector] →
    (∀ k < 28, s.kindAt (s.phys (s.sys.tr.base.setWidth 32 + BitVec.ofNat 32 (14 + k))) = .ram) → s.cfg.wf = true →
    s.addrMask ≠ 0xEFFFFF →
    (∀ k, (h : k < ws.length) →
      Memory.read s.saveTask.mem (s.phys (s.sys.tr.base.setWidth 32 + BitVec.ofNat 32 (14 + 2 * k))) = loByte ws[k] ∧
      Memory.read s.saveTask.mem (s.phys (s.sys.tr.base.setWidth 32 + BitVec.ofNat 32 (15 + 2 * k))) = hiByte ws[k]) ∧
    (∀ a, (∀ k < 28, a ≠ s.phys (s.sys.tr.base.setWidth 32 + BitVec.ofNat 32 (14 + k))) →
      Memory.read s.saveTask.mem a = Memory.read s.mem a)) ∧
  (∀ (s u : State) (sel : Word) (d : Desc) (k : SwitchKind) (image : TaskImage), s.protectedMode = true →
    (d.limit.toNat < 43 → Raises (s.taskSwitch sel d k) (.ts (sel &&& 0xFFFC))) ∧
    ((s.commitTask sel d k).readTask = (image, u) →
      (∀ t, s.taskSwitch sel d k = .ok t →
        t.regs = image.regs ∧ t.ip = image.ip ∧ t.flags = Flags.ofWord image.ps ∧
        t.nt = (image.ps.getLsbD 14 || decide (k = .call)) ∧ t.tf = image.ps.getLsbD 8 ∧ t.ifl = image.ps.getLsbD 9 ∧
        t.df = image.ps.getLsbD 10 ∧ t.iopl = image.ps.extractLsb' 12 2 ∧
        (t.seg .es).selector = image.es ∧ (t.seg .cs).selector = image.cs ∧ (t.seg .ss).selector = image.ss ∧
        (t.seg .ds).selector = image.ds ∧ t.sys.ldtr.selector = image.ldt ∧ t.sys.cpl = rpl image.cs ∧
        t.sys.tr = { selector := sel, base := d.base, limit := d.lo, access := d.access ||| 2 } ∧
        t.sys.msw = s.sys.msw ||| 0x0008 ∧ t.sys.gdtr = s.sys.gdtr ∧ t.sys.idtr = s.sys.idtr) ∧
      (43 ≤ d.limit.toNat → ∀ r, s.taskSwitch sel d k = .error r → r.committed = true ∧
        r.seen.regs = image.regs ∧ r.seen.ip = image.ip ∧ r.seen.sys.tr.selector = sel ∧
        r.seen.sys.msw = s.sys.msw ||| 0x0008)))

/-- 60 R960, 20 R120, R121, R124, R128: after the outgoing task is saved, a switch changes in memory only the busy bit of the old TSS
descriptor (cleared for JMP and IRET), the back link of the new TSS (the old TR selector, for CALL) and the busy bit
of the new descriptor (set for JMP and CALL), then accessed bits; a switch that completes has LDTR and the caches of
CS, SS, DS and ES from their descriptors, a null DS or ES marked; a null CS or SS raises #NP(0), CS or SS outside its
table #GP(selector), in the new task. (TSS and tables in RAM, the addresses named apart; for the caches, with no
accessed bit to write; for SS, when CS has loaded.) Which exceptions the null and the outside selectors raise is the
model's inference: notes/assumptions/15.md and notes/assumptions/9.md. So is that a null LDT selector changes LDTR's
selector alone: notes/assumptions/13.md. -/
def Obligations.TaskTables : Prop :=
  (∀ (s a u : State) (sel : Word) (d : Desc) (k : SwitchKind) (old new link : Nat), a = s.saveTask →
    u = s.commitTask sel d k → old = s.accessAddr s.sys.tr.selector → new = s.accessAddr sel →
    link = s.phys (d.base.setWidth 32) → s.kindAt old = .ram → s.kindAt new = .ram →
    s.kindAt link = .ram → s.lastOfBlock link = false → new ≠ link → new ≠ link + 1 → old ≠ new →
    (k ≠ .call → Memory.read u.mem old = Memory.read a.mem old &&& ~~~2) ∧
    (k ≠ .iret → Memory.read u.mem new = Memory.read a.mem new ||| 2) ∧
    (k = .call → Memory.read u.mem link = loByte s.sys.tr.selector ∧
      Memory.read u.mem (link + 1) = hiByte s.sys.tr.selector) ∧
    (∀ x, (k ≠ .call → x ≠ old) → (k ≠ .iret → x ≠ new) → (k = .call → x ≠ link ∧ x ≠ link + 1) →
      Memory.read u.mem x = Memory.read a.mem x)) ∧
  (∀ (s u w t : State) (sel : Word) (d : Desc) (k : SwitchKind) (image : TaskImage), s.protectedMode = true →
    (s.commitTask sel d k).readTask = (image, u) → (u.enterTask k image).loadTaskLdt image.ldt = .ok w →
    (u.isNull image.ldt = false → w.sys.ldtr =
      { selector := image.ldt, base := ((u.enterTask k image).descOf image.ldt).base
        limit := ((u.enterTask k image).descOf image.ldt).lo
        access := ((u.enterTask k image).descOf image.ldt).access }) ∧
    (u.isNull image.ldt = true → w.sys.ldtr = { s.sys.ldtr with selector := image.ldt }) ∧
    (43 ≤ d.limit.toNat →
      (u.isNull image.cs = true → ∃ r, s.taskSwitch sel d k = .error r ∧ r.exc = .np 0 ∧ r.committed = true) ∧
      (u.isNull image.cs = false → w.inTable image.cs = false →
        ∃ r, s.taskSwitch sel d k = .error r ∧ r.exc = .gp (image.cs &&& 0xFFFC) ∧ r.committed = true) ∧
      (∀ c, w.loadTaskCs image.cs = .ok c →
        (u.isNull image.ss = true → ∃ r, s.taskSwitch sel d k = .error r ∧ r.exc = .np 0 ∧ r.committed = true) ∧
        (u.isNull image.ss = false → w.inTable image.ss = false →
          ∃ r, s.taskSwitch sel d k = .error r ∧ r.exc = .gp (image.ss &&& 0xFFFC) ∧ r.committed = true))) ∧
    (s.taskSwitch sel d k = .ok t → w.plainSel image.cs → accAccessed (w.descOf image.cs).access = true →
      w.plainSel image.ss → accAccessed (w.descOf image.ss).access = true →
      t.sys.ldtr = w.sys.ldtr ∧ t.seg .cs = (w.descOf image.cs).cache image.cs ∧
      t.seg .ss = (w.descOf image.ss).cache image.ss ∧
      (u.isNull image.ds = true → (t.seg .ds).nullLoaded = true) ∧
      (u.isNull image.ds = false → t.seg .ds = (w.descOf image.ds).cache image.ds) ∧
      (u.isNull image.es = true → (t.seg .es).nullLoaded = true) ∧
      (u.isNull image.es = false → w.plainSel image.ds → accAccessed (w.descOf image.ds).access = true →
        t.seg .es = (w.descOf image.es).cache image.es)))

/-- 45 R678, 60 R960, R962: a far jump or call to an available TSS switches to it, and so does one through a task gate, and traps where
the switch raises; a TSS or a task gate whose DPL is below CPL or the selector's RPL, or that is not present, traps, and
so does a task gate whose selector names no present, available TSS of the GDT; IRET with NT set, in PS or in the popped
PS as IRET_NT_SOURCE says, switches back to the task of the back link, which must be a present busy TSS in the GDT. That
a TSS named by a selector of the LDT traps is the model's inference: notes/assumptions/16.md. That under `current` NT is
tested before a word is read from the stack is the model's choice: notes/assumptions/23.md. -/
def Obligations.TaskTransfers : Prop :=
  (∀ (s v : State) (i : Instr) (call : Bool) (off sel : Word) (d : Desc), s.farForm i = some (call, sel, off) →
    s.protectedMode = true → s.canReadFar i → v = s.afterFar i → s.isNull sel = false → s.inTable sel = true →
    d = v.descOf sel → v.plainSel sel → sel.getLsbD 2 = false → d.isSystem 1 = true →
    max s.sys.cpl.toNat (rpl sel).toNat ≤ d.dpl.toNat → d.present = true →
    (∀ u, v.taskSwitch sel d (if call then .call else .jmp) = .ok u → ∃ t, exec i s = .next t ∧ t.regs = u.regs ∧
      t.segs = u.segs ∧ t.sys = u.sys ∧ t.ip = u.ip ∧ t.live = u.live ∧ t.flags = u.flags ∧ t.mem = u.mem) ∧
    (∀ r, v.taskSwitch sel d (if call then .call else .jmp) = .error r → exec i s = .next (s.deliverRaise r))) ∧
  (∀ (s v : State) (i : Instr) (call : Bool) (off sel : Word) (g d : Desc), s.farForm i = some (call, sel, off) →
    s.protectedMode = true → s.canReadFar i → v = s.afterFar i → s.isNull sel = false → s.inTable sel = true →
    g = v.descOf sel → v.plainSel sel → g.isSystem 5 = true → max s.sys.cpl.toNat (rpl sel).toNat ≤ g.dpl.toNat →
    g.present = true → s.isNull g.mid = false → g.mid.getLsbD 2 = false → s.inTable g.mid = true →
    d = v.descOf g.mid → v.plainSel g.mid → d.isSystem 1 = true → d.present = true →
    (∀ u, v.taskSwitch g.mid d (if call then .call else .jmp) = .ok u → ∃ t, exec i s = .next t ∧ t.regs = u.regs ∧
      t.segs = u.segs ∧ t.sys = u.sys ∧ t.ip = u.ip ∧ t.live = u.live ∧ t.flags = u.flags ∧ t.mem = u.mem) ∧
    (∀ r, v.taskSwitch g.mid d (if call then .call else .jmp) = .error r → exec i s = .next (s.deliverRaise r))) ∧
  (∀ (s v : State) (i : Instr) (call : Bool) (off sel : Word) (g d : Desc), s.farForm i = some (call, sel, off) →
    s.protectedMode = true → s.canReadFar i → v = s.afterFar i → s.isNull sel = false → s.inTable sel = true →
    g = v.descOf sel →
    (g.isSystem 1 = true ∨ g.isSystem 5 = true → g.dpl.toNat < max s.sys.cpl.toNat (rpl sel).toNat →
      Traps i s (.gp (sel &&& 0xFFFC))) ∧
    (g.isSystem 1 = true → sel.getLsbD 2 = true → Traps i s (.gp (sel &&& 0xFFFC))) ∧
    (max s.sys.cpl.toNat (rpl sel).toNat ≤ g.dpl.toNat →
      (g.isSystem 1 = true → sel.getLsbD 2 = false → g.present = false → Traps i s (.np (sel &&& 0xFFFC))) ∧
      (g.isSystem 5 = true →
        (g.present = false → Traps i s (.np (sel &&& 0xFFFC))) ∧
        (g.present = true →
          (s.isNull g.mid = true ∨ g.mid.getLsbD 2 = true ∨ s.inTable g.mid = false →
            Traps i s (.gp (g.mid &&& 0xFFFC))) ∧
          (s.isNull g.mid = false → g.mid.getLsbD 2 = false → s.inTable g.mid = true → v.plainSel sel →
            d = v.descOf g.mid →
            (d.isSystem 1 = false → Traps i s (.gp (g.mid &&& 0xFFFC))) ∧
            (d.isSystem 1 = true → d.present = false → Traps i s (.np (g.mid &&& 0xFFFC)))))))) ∧
  (∀ (s v : State) (link : Word) (d : Desc), s.protectedMode = true →
    (s.cfg.iretNt = .current ∧ s.nt = true ∧ v = s ∨
      s.cfg.iretNt = .popped ∧ v = s.setReg .sp (s.reg .sp + 6) ∧ ∃ off sel f, s.segRead16 .ss (s.reg .sp) = .ok (off, s) ∧
        s.segRead16 .ss (s.reg .sp + 2) = .ok (sel, s) ∧ s.segRead16 .ss (s.reg .sp + 4) = .ok (f, s) ∧
        f.getLsbD 14 = true) →
    v.sysRead16 (s.sys.tr.base.setWidth 32) = (link, v) →
    (s.isNull link = true ∨ link.getLsbD 2 = true ∨ s.inTable link = false → Traps .iret s (.ts (link &&& 0xFFFC))) ∧
    (s.isNull link = false → link.getLsbD 2 = false → s.inTable link = true → d = v.descOf link → v.plainSel link →
      (d.isSystem 3 = false → Traps .iret s (.ts (link &&& 0xFFFC))) ∧
      (d.isSystem 3 = true → d.present = false → Traps .iret s (.np (link &&& 0xFFFC))) ∧
      (d.isSystem 3 = true → d.present = true →
        (∀ u, v.taskSwitch link d .iret = .ok u → ∃ t, exec .iret s = .next t ∧
          t.regs = u.regs ∧ t.segs = u.segs ∧ t.sys = u.sys ∧ t.ip = u.ip ∧ t.live = u.live ∧ t.flags = u.flags ∧
          t.mem = u.mem) ∧
        (∀ r, v.taskSwitch link d .iret = .error r → exec .iret s = .next (s.deliverRaise r)))))

/-! ## System instructions -/

/-- 47 R801, R802, R810, R811: SLDT and STR store a selector, SGDT and SIDT six bytes, the last 0xFF, at offsets modulo 2^16
(that an image which passes offset 0xFFFF goes on at the segment's start is the model's choice:
notes/assumptions/35.md). R800: in real mode
the instructions of protected mode raise #UD, and in protected mode above CPL 0 the privileged ones raise #GP(0),
whatever their operands. -/
def Obligations.SystemStoresAndPrivilege : Prop :=
  ((∀ (s : State) (i : Instr) (e : RM Reg16) (v : Word),
    (i = .sldtEw e ∧ v = s.sys.ldtr.selector) ∨ (i = .strEw e ∧ v = s.sys.tr.selector) →
    (s.protectedMode = true → s.canWriteEw e → ∃ t, exec i s = .next t ∧ s.holdsEw t v e ∧ t.flags = s.flags ∧
      Frame s t (destEw e) (s.storedEw e)) ∧
    (s.protectedMode = false → Traps i s .ud)) ∧
  (∀ (s : State) (i : Instr) (m : MemRef) (r : TableReg),
    (i = .sgdtMs m ∧ r = s.sys.gdtr) ∨ (i = .sidtMs m ∧ r = s.sys.idtr) → s.cls = .c286 →
    s.accessFault (s.opSeg m) (s.ea m) 5 true = none →
    ∃ t, exec i s = .next t ∧ s.holdsWord t (s.opSeg m) (s.ea m) r.limit ∧
      s.holdsWord t (s.opSeg m) (s.ea m + 2) (r.base.extractLsb' 0 16) ∧
      s.holdsByte t (s.segAddr (s.opSeg m) (s.ea m + 4)) (r.base.extractLsb' 16 8) ∧
      s.holdsByte t (s.segAddr (s.opSeg m) (s.ea m + 5)) 0xFF ∧ t.flags = s.flags ∧
      Frame s t [] (s.storedWord (s.opSeg m) (s.ea m) ++ s.storedWord (s.opSeg m) (s.ea m + 2) ++
        [s.segAddr (s.opSeg m) (s.ea m + 4), s.segAddr (s.opSeg m) (s.ea m + 5)]))) ∧
  ((∀ (s : State) (i : Instr) (e : RM Reg16) (g : Reg16), s.protectedMode = false →
    i ∈ [Instr.sldtEw e, .strEw e, .verrEw e, .verwEw e, .larGwEw e g, .lslGwEw e g, .arplEwGw e g, .lldtEw e, .ltrEw e] →
    Traps i s .ud) ∧
  (∀ (s : State) (i : Instr) (e : RM Reg16) (m : MemRef), s.protectedMode = true → s.sys.cpl ≠ 0 →
    i ∈ [Instr.lldtEw e, .ltrEw e, .lgdtMs m, .lidtMs m, .lmswEw e, .clts] → Traps i s (.gp 0)))

/-- 47 R806, R807, R812, R813: at CPL 0 or in real mode LGDT and LIDT load a limit and a 24-bit base, LMSW writes MP, EM and TS and
can only set PE, and CLTS clears TS. (The offsets of the image are modulo 2^16, the model's choice where it passes offset
0xFFFF: notes/assumptions/35.md.) -/
def Obligations.SystemLoads : Prop :=
  ∀ s : State, s.cls = .c286 → s.protectedMode = false ∨ s.sys.cpl = 0 →
    (∀ (m : MemRef) (r : TableReg), s.accessFault (s.opSeg m) (s.ea m) 4 false = none →
      r = { base := ((s.afterPair m).busRead8 (s.segAddr (s.opSeg m) (s.ea m + 4))).1 ++ (s.valuePair m).2
            limit := (s.valuePair m).1 } →
      (∃ t, exec (.lgdtMs m) s = .next t ∧ t.sys = { s.sys with gdtr := r } ∧ t.flags = s.flags ∧
        Frame s { t with sys := s.sys } [] []) ∧
      (∃ t, exec (.lidtMs m) s = .next t ∧ t.sys = { s.sys with idtr := r } ∧ t.flags = s.flags ∧
        Frame s { t with sys := s.sys } [] [])) ∧
    (∀ e : RM Reg16, s.canReadEw e → ∃ t, exec (.lmswEw e) s = .next t ∧
      t.sys.msw.getLsbD 0 = (s.sys.msw.getLsbD 0 || (s.valueEw e).getLsbD 0) ∧
      (∀ k, 1 ≤ k → k ≤ 3 → t.sys.msw.getLsbD k = (s.valueEw e).getLsbD k) ∧
      (∀ k, 4 ≤ k → t.sys.msw.getLsbD k = s.sys.msw.getLsbD k) ∧ t.flags = s.flags ∧
      Frame s { t with sys := { t.sys with msw := s.sys.msw } } [] []) ∧
    (∃ t, exec .clts s = .next t ∧ t.sys.msw.getLsbD 3 = false ∧
      (∀ k, k ≠ 3 → t.sys.msw.getLsbD k = s.sys.msw.getLsbD k) ∧ t.flags = s.flags ∧
      Frame s { t with sys := { t.sys with msw := s.sys.msw } } [] [])

/-- 47 R803, R804, 20 R128: LLDT and LTR in protected mode at CPL 0 load LDTR or TR from an LDT or an available TSS in the GDT, LTR
marking it busy in memory; a null selector makes LDTR null (that it changes the selector alone and leaves base,
limit and access is the model's choice: notes/assumptions/13.md), and raises #GP(0) for LTR. -/
def Obligations.DescriptorTableLoads : Prop :=
  ∀ (s v : State) (e : RM Reg16) (sel : Word) (d : Desc), s.protectedMode = true → s.sys.cpl = 0 → s.canReadEw e →
    sel = s.valueEw e → v = s.afterEw e → d = v.descOf sel →
    (s.isNull sel = true →
      (∃ t, exec (.lldtEw e) s = .next t ∧ t.sys = { s.sys with ldtr := { s.sys.ldtr with selector := sel } } ∧
        t.flags = s.flags ∧ Frame s { t with sys := s.sys } [] []) ∧
      Traps (.ltrEw e) s (.gp 0)) ∧
    (s.isNull sel = false → ∀ (i : Instr) (ty : BitVec 4), (i = .lldtEw e ∧ ty = 2) ∨ (i = .ltrEw e ∧ ty = 1) →
      (sel.getLsbD 2 = true ∨ s.inTable sel = false ∨ d.isSystem ty = false → Traps i s (.gp (sel &&& 0xFFFC))) ∧
      (sel.getLsbD 2 = false → s.inTable sel = true → d.isSystem ty = true → d.present = false →
        Traps i s (.np (sel &&& 0xFFFC)))) ∧
    (s.isNull sel = false → sel.getLsbD 2 = false → s.inTable sel = true → d.present = true →
      (d.isSystem 2 = true → ∃ t, exec (.lldtEw e) s = .next t ∧
        t.sys = { s.sys with ldtr := { selector := sel, base := d.base, limit := d.lo, access := d.access } } ∧
        t.flags = s.flags ∧ Frame s { t with sys := s.sys } [] []) ∧
      (d.isSystem 1 = true → ∃ t, exec (.ltrEw e) s = .next t ∧
        t.sys = { s.sys with tr := { selector := sel, base := d.base, limit := d.lo, access := d.access ||| 2 } } ∧
        s.holdsByte t (s.accessAddr sel) (d.access ||| 2) ∧ t.flags = s.flags ∧
        Frame s { t with sys := s.sys } [] [s.accessAddr sel]))

/-- 47 R808, R809, R814 to R817: VERR, VERW, LAR and LSL in protected mode look a selector up without faulting, set ZF when it
may be used, and LAR and LSL then write the access byte or the limit; ARPL raises the RPL of its first operand to
the second's and sets ZF, or leaves it and clears ZF. Nothing else changes. -/
def Obligations.SelectorQueries : Prop :=
  (∀ (s v : State) (e : RM Reg16) (g : Reg16) (sel : Word) (d : Desc) (found mayUse : Bool),
    s.protectedMode = true → s.canReadEw e → sel = s.valueEw e → v = s.afterEw e → d = v.descOf sel →
    found = (!s.isNull sel && s.inTable sel) →
    mayUse = (d.conforming || decide (max s.sys.cpl.toNat (rpl sel).toNat ≤ d.dpl.toNat)) →
    (∀ (i : Instr) (ok : Bool), (i = .verrEw e ∧ ok = d.readable) ∨ (i = .verwEw e ∧ ok = d.writable) →
      ∃ t, exec i s = .next t ∧ t.flags = { s.flags with zf := found && ok && mayUse } ∧ Frame s t [] []) ∧
    (∀ (i : Instr) (last : Nat) (value : Word) (ok : Bool),
      (i = .larGwEw e g ∧ last = 5 ∧ value = d.access ++ (0 : Byte)) ∨ (i = .lslGwEw e g ∧ last = 3 ∧ value = d.lo) →
      ok = (found && mayUse &&
        (accCodeOrData d.access || (decide (1 ≤ (accType d.access).toNat) && decide ((accType d.access).toNat ≤ last)))) →
      ∃ t, exec i s = .next t ∧ t.flags = { s.flags with zf := ok } ∧
        t.reg g = (if ok then value else s.reg g) ∧ Frame s t [g] [])) ∧
  (∀ (s : State) (e : RM Reg16) (g : Reg16), s.protectedMode = true → s.canReadEw e → s.canWriteEw e →
    ((s.valueEw e).toNat % 4 < (s.reg g).toNat % 4 → ∃ t, exec (.arplEwGw e g) s = .next t ∧
      s.holdsEw t ((s.valueEw e &&& 0xFFFC) ||| (s.reg g &&& 3)) e ∧ t.flags = { s.flags with zf := true } ∧
      Frame s t (destEw e) (s.storedEw e)) ∧
    ((s.reg g).toNat % 4 ≤ (s.valueEw e).toNat % 4 → ∃ t, exec (.arplEwGw e g) s = .next t ∧
      t.flags = { s.flags with zf := false } ∧ Frame s t [] []))

/-! ## The step -/

/-- 60 R900, R911, 30 R200, 10 R25: when nothing is pending and the bytes at CS:IP decode to an instruction that lies within CS's
limit, the step is that instruction's own effect, with NOINTR cleared, the scratch of a boundary and IP past its
bytes; only the prefetch queue, the noted device reads of the fetch and the count of free values may have moved
besides. If the instruction took no exception the step ends there; if it did, the step goes on with the
instruction at the handler's address, with no boundary before it. (`State.handlers`, its bound `handlerFuel` and the mark
`handlerEntry` are the model's choice: notes/assumptions/6.md; so is lastPrefixIP before a prefix: notes/assumptions/30.md.)
46 R763, 44 R602: after a prefix byte the step goes on
with the byte after it, with no boundary between; an unfinished repetition runs its next iteration without decoding
anything. -/
def Obligations.StepRunsDecoded : Prop :=
  (∀ s : State, s.undisturbed → s.rep = none →
    step s = State.handlers handlerFuel (State.fetchExec prefixFuel
      { s with handlerEntry := false, nointr := false, scratch := .atBoundary s.ip })) ∧
  (∀ (s : State) (i : Instr) (rest : List Byte) (n m : Nat),
    decode s.cls s.fetchWindow = .ok (i, rest) → n = 6 - rest.length → (∀ k < n, s.inLimit k ∧ s.inLength k) →
    ∃ q c d v,
      v = { s with ip := s.ip + BitVec.ofNat 16 n, queue := q, host := { s.host with calls := c }, draws := d } ∧
      (i.isPrefixByte = false → State.fetchExec (m + 1) s = exec i v) ∧
      (i.isPrefixByte = true → ∃ u, exec i v = .next u ∧ State.fetchExec (m + 1) s = State.fetchExec m u)) ∧
  (∀ (s : State) (p : RepeatPending), s.undisturbed → s.rep = some p →
    ∃ q c d, step s = State.handlers handlerFuel (exec p.instr { s with
      handlerEntry := false, nointr := false, rep := none, ip := p.nextIp, queue := q
      scratch := { Scratch.atBoundary p.startIp with
        lastPrefixIp := p.lastPrefixIp, override := p.override, rep := some p.rep, lock := p.lock }
      host := { s.host with calls := c }, draws := d })) ∧
  (∀ (s : State) (i : Instr) (rest : List Byte) (n : Nat),
    s.status = .run → s.rep = none → s.host.returnNotify = [] →
    s.intFlags = { intr := false, trap := false, halt := false, dma := false } →
    decode s.cls s.fetchWindow = .ok (i, rest) → i.isPrefixByte = false → n = 6 - rest.length →
    (s.protectedMode = true → ∀ k < n, (s.ip + BitVec.ofNat 16 k).toNat ≤ (s.seg .cs).limit.toNat) →
    ∃ q c d v,
      v = { s with
        handlerEntry := false, nointr := false, scratch := .atBoundary s.ip, ip := s.ip + BitVec.ofNat 16 n
        queue := q, host := { s.host with calls := c }, draws := d } ∧
      step s = State.handlers handlerFuel (exec i v) ∧
      (∀ t, exec i v = .next t → t.handlerEntry = false → step s = .next t)) ∧
  (∀ (k : Nat) (s : State) (i : Instr) (rest : List Byte) (n : Nat),
    s.status = .run → s.handlerEntry = true → s.rep = none →
    decode s.cls s.fetchWindow = .ok (i, rest) → i.isPrefixByte = false → n = 6 - rest.length →
    (s.protectedMode = true → ∀ k < n, (s.ip + BitVec.ofNat 16 k).toNat ≤ (s.seg .cs).limit.toNat) →
    ∃ q c d, State.handlers (k + 1) (.next s) = State.handlers k (exec i { s with
      handlerEntry := false, scratch := .atBoundary s.ip, ip := s.ip + BitVec.ofNat 16 n
      queue := q, host := { s.host with calls := c }, draws := d }))

/-- 20 R142, R143, R145, R150, R160: under coherent fetch the bytes decoded are those memory holds at CS:IP on, whatever the queue
holds; with the queue disabled each byte consumed from a device block is one read of it, in order; on C286 in
protected mode a byte beyond CS.limit raises #GP(0), and the step takes it with the instruction's first byte as the saved
IP. (That it does so also where it is the 11th of its instruction is the model's inference: notes/assumptions/7.md; what lastPrefixIP holds before a prefix is its choice:
notes/assumptions/30.md.) 30 R203: the 11th byte of an instruction on C286 raises #UD, with the same saved IP; so do ten prefix bytes, whatever
follows them. -/
def Obligations.Fetching : Prop :=
  (∀ (s : State) (k : Nat), s.cfg.coherence = .coherent → k < 6 →
    s.kindAt (s.segAddr .cs (s.ip + BitVec.ofNat 16 k)) = .ram ∨
      s.kindAt (s.segAddr .cs (s.ip + BitVec.ofNat 16 k)) = .rom →
    s.fetchWindow[k]? = some (Memory.read s.mem (s.segAddr .cs (s.ip + BitVec.ofNat 16 k)))) ∧
  (∀ (s : State) (q : Prefetch), s.cfg.coherence = .coherent → ({ s with queue := q } : State).fetchWindow = s.fetchWindow) ∧
  (∀ (s : State) (n : Nat), s.cfg.prefetchEnabled = false →
    (s.fetchAdvance n).host = { s.host with calls :=
      (((List.range n).map fun k => s.segAddr .cs (s.ip + BitVec.ofNat 16 k)).filter fun p =>
        decide (s.kindAt p ≠ .ram ∧ s.kindAt p ≠ .rom ∧ s.kindAt p ≠ .unmapped)).reverse.map (fun p => .deviceRead p 1) ++
      s.host.calls }) ∧
  (∀ (s : State) (k : Nat), s.protectedMode = true →
    (s.seg .cs).limit.toNat < (s.ip + BitVec.ofNat 16 k).toNat → s.fetchFault k = some (.gp 0)) ∧
  (∀ (s : State) (i : Instr) (rest : List Byte) (k m : Nat) (e : Exc), decode s.cls s.fetchWindow = .ok (i, rest) →
    k < 6 - rest.length → (∀ j < k, s.inLimit j ∧ s.inLength j) →
    (¬s.inLimit k ∧ e = .gp 0) ∨ (s.inLimit k ∧ ¬s.inLength k ∧ e = .ud) →
    ∃ c d, State.fetchExec (m + 1) s = .next
      { ({ s with host := { s.host with calls := c }, draws := d } : State).takeException s.scratch.startIp e with
        handlerEntry := true }) ∧
  (∀ (s : State) (i : Instr) (rest : List Byte) (k : Nat), s.undisturbed → s.rep = none →
    decode s.cls s.fetchWindow = .ok (i, rest) → k < 6 - rest.length → ¬s.inLimit k →
    ∃ c d v,
      v = { s with
        handlerEntry := false, nointr := false, scratch := .atBoundary s.ip
        host := { s.host with calls := c }, draws := d } ∧
      step s = State.handlers handlerFuel (.next { v.takeException s.ip (.gp 0) with handlerEntry := true })) ∧
  (∀ s : State, s.undisturbed → s.rep = none → s.cls = .c286 → s.cfg.coherence = .coherent →
    (∀ k < 10, s.kindAt (s.segAddr .cs (s.ip + BitVec.ofNat 16 k)) = .ram ∧
      Memory.read s.mem (s.segAddr .cs (s.ip + BitVec.ofNat 16 k)) ∈ prefixBytes) → (∀ k < 11, s.inLimit k) →
    ∃ q x c d v,
      v = { s with
        handlerEntry := false, nointr := false, ip := s.ip + 10, queue := q, scratch := x
        host := { s.host with calls := c }, draws := d } ∧
      step s = State.handlers handlerFuel (.next { v.takeException s.ip .ud with handlerEntry := true }))

/-! ## Boundaries -/

/-- 60 R900, R901, R903, R905, R906: NOINTR keeps every event away for one boundary; a halted block with nothing else pending stays
halted, and `remaining` becomes 0; INTR waits while IF is clear; a DMA tick, when no INTR is acknowledged and no trap is
latched, writes its bytes where there is `ram`, clears DMA if it is done, and the instruction goes on. What the step
does after the event check: an event that was taken is followed in the same step by its handler's first instruction, or,
when the host steps singly, ends the step, with NOINTR cleared; else the instruction at CS:IP runs, or the next iteration
of an unfinished repetition; a block that is still halted ends the step. (That the addresses of a DMA tick are not masked,
the bound on handlers, lastPrefixIP before a prefix, and that a delivery which shuts the block down ends the step, are the
model's choice: notes/assumptions/31.md, 6.md, 30.md, 33.md.) -/
def Obligations.EventRules : Prop :=
  (∀ s : State, s.nointr = true → s.checkEvents = (false, s)) ∧
  (∀ s : State, s.status = .run → s.rep = none → s.host.returnNotify = [] → s.nointr = false →
    s.intFlags = { intr := false, trap := false, halt := true, dma := false } →
    step s = .next { s with
      handlerEntry := false, scratch := .atBoundary s.ip
      host := { s.host with cycles := { s.host.cycles with remaining := 0 } } }) ∧
  (∀ s : State, s.ifl = false → s.intFlags.trap = false → s.intFlags.dma = false → s.checkEvents = (false, s)) ∧
  (∀ (s : State) (tick : DmaTick) (ticks : List DmaTick), s.nointr = false →
    s.intFlags.intr = false ∨ s.ifl = false → s.intFlags.trap = false →
    s.intFlags.dma = true → s.host.dmaTicks = tick :: ticks →
    ∃ m c, s.checkEvents = (false, { s with
        intFlags := { s.intFlags with dma := tick.inProgress }, mem := m
        host := { s.host with dmaTicks := ticks, calls := c } }) ∧
      (∀ before after a v, tick.writes = before ++ (a, v) :: after → a ∉ after.map (·.1) → s.kindAt a = .ram →
        Memory.read m a = v) ∧
      (∀ a, a ∉ tick.writes.map (·.1) ∨ s.kindAt a ≠ .ram → Memory.read m a = Memory.read s.mem a) ∧
      (tick.writes = [] → m = s.mem ∧ c = s.host.calls)) ∧
  (∀ s t : State, s.status = .run → s.host.returnNotify = [] →
    (s.settled.boundaryScratch.checkEvents = (true, t) →
      t.rep = none ∧
      (t.status ≠ .run → step s = .next t) ∧
      (t.status = .run → t.intFlags.halt = true →
        step s = .next { t with host := { t.host with cycles := { t.host.cycles with remaining := 0 } } }) ∧
      (t.status = .run → t.intFlags.halt = false →
        (t.host.singleStep = true → step s = .next { t with nointr := false }) ∧
        (t.host.singleStep = false → step s = State.handlers handlerFuel (State.fetchExec prefixFuel
          { t with nointr := false, scratch := .atBoundary t.ip })))) ∧
    (s.settled.boundaryScratch.checkEvents = (false, t) →
      (t.intFlags.halt = true →
        step s = .next { t with host := { t.host with cycles := { t.host.cycles with remaining := 0 } } }) ∧
      (t.intFlags.halt = false →
        (t.rep = none → step s = State.handlers handlerFuel (State.fetchExec prefixFuel
          { t with nointr := false, scratch := .atBoundary t.ip })) ∧
        (∀ p, t.rep = some p →
          ∃ q c d, step s = State.handlers handlerFuel (exec p.instr { t with
            nointr := false, rep := none, ip := p.nextIp, queue := q
            scratch := { Scratch.atBoundary p.startIp with
              lastPrefixIp := p.lastPrefixIp, override := p.override, rep := some p.rep, lock := p.lock }
            host := { t.host with calls := c }, draws := d })))))

/-- 60 R902 to R905, R920, R930, R931, R941, R942: a pending INTR with IF set is acknowledged: the PIC's vector is
delivered with the boundary's CS:IP, in real mode through the table and in protected mode through its gate, INTR and
HALT are cleared, and an unfinished repetition is dropped; a spurious answer clears INTR alone; a latched trap is taken
as vector 1, and HALT stays. (Which goes first on C286 is TRAP_PRIORITY_286.) 60 R970, R971: a fault in the delivery of
a hardware interrupt is taken as itself, with the boundary's CS:IP; a fault in the delivery of the trap, or of that
fault, is replaced by #DF, and one in the delivery of #DF shuts the block down (with nothing else changed, the model's
choice: notes/assumptions/29.md; so is that NOINTR stays where SS is loaded: notes/assumptions/32.md). In real mode a delivery raises #GP for
a vector beyond IDTR.limit on C286, and what the pushes raise (in protected mode: GateFaults). -/
def Obligations.EventDelivery : Prop :=
  (∀ (s : State) (answers : List PicAnswer), s.nointr = false → s.intFlags.intr = true → s.ifl = true →
    s.intFlags.trap = false ∨ s.cls ≠ .c286 ∨ s.cfg.trapPriority = .intrFirst →
    (∀ (n : Byte) (a : State), s.host.picAnswers = .vector n :: answers →
      a = { s with
        intFlags := { s.intFlags with intr := false, halt := false }
        host := { s.host with picAnswers := answers } } →
      ∃ t, s.checkEvents = (true, t) ∧ t.rep = none ∧ t.intFlags = a.intFlags ∧
        a.Delivers { t with rep := s.rep } n s.ip none ∧
        (∀ r, a.deliver n false s.ip none = .error r → (a.undo r.seen).Takes { t with rep := s.rep } s.ip r.exc)) ∧
    (s.host.picAnswers = .spurious :: answers → s.checkEvents = (false, { s with
      intFlags := { s.intFlags with intr := false }, host := { s.host with picAnswers := answers } })) ∧
    (s.host.picAnswers = .noInterrupt :: answers →
      s.checkEvents = (false, { s with host := { s.host with picAnswers := answers } }))) ∧
  (∀ s a : State, s.nointr = false → s.intFlags.trap = true →
    (s.intFlags.intr = false ∨ s.ifl = false ∨ (s.cls = .c286 ∧ s.cfg.trapPriority = .trapFirst)) →
    a = { s with intFlags := { s.intFlags with trap := false } } →
    ∃ t, s.checkEvents = (true, t) ∧ t.rep = none ∧ t.intFlags = a.intFlags ∧
      a.Takes { t with rep := s.rep } s.ip .db) ∧
  (∀ (s : State) (n : Byte) (software : Bool) (ip : Word) (code : Option Word), s.protectedMode = false →
    (¬s.vectorInTable n → Raises (s.deliver n software ip code) (.gp 0)) ∧
    (s.vectorInTable n → ∀ e, s.firstFault (s.pushes 3) = some e → Raises (s.deliver n software ip code) e))

end
end

