-- ==== Sys2Proof/Laws/State.lean ====
section
/-! SUPPORT. One lemma per field per update, so that no later proof unfolds a record update. -/

namespace Sys2Proof.Machine

variable (s : State)

/-! `State.setReg` -/

@[simp] theorem State.setReg_cfg (r : Reg16) (v : Word) : (s.setReg r v).cfg = s.cfg := rfl
@[simp] theorem State.setReg_regs (r : Reg16) (v : Word) : (s.setReg r v).regs = s.regs.set r v := rfl
@[simp] theorem State.setReg_ip (r : Reg16) (v : Word) : (s.setReg r v).ip = s.ip := rfl
@[simp] theorem State.setReg_live (r : Reg16) (v : Word) : (s.setReg r v).live = s.live := rfl
@[simp] theorem State.setReg_triple (r : Reg16) (v : Word) : (s.setReg r v).triple = s.triple := rfl
@[simp] theorem State.setReg_segs (r : Reg16) (v : Word) : (s.setReg r v).segs = s.segs := rfl
@[simp] theorem State.setReg_sys (r : Reg16) (v : Word) : (s.setReg r v).sys = s.sys := rfl
@[simp] theorem State.setReg_intFlags (r : Reg16) (v : Word) : (s.setReg r v).intFlags = s.intFlags := rfl
@[simp] theorem State.setReg_nointr (r : Reg16) (v : Word) : (s.setReg r v).nointr = s.nointr := rfl
@[simp] theorem State.setReg_scratch (r : Reg16) (v : Word) : (s.setReg r v).scratch = s.scratch := rfl
@[simp] theorem State.setReg_rep (r : Reg16) (v : Word) : (s.setReg r v).rep = s.rep := rfl
@[simp] theorem State.setReg_status (r : Reg16) (v : Word) : (s.setReg r v).status = s.status := rfl
@[simp] theorem State.setReg_handlerEntry (r : Reg16) (v : Word) : (s.setReg r v).handlerEntry = s.handlerEntry := rfl
@[simp] theorem State.setReg_a20 (r : Reg16) (v : Word) : (s.setReg r v).a20 = s.a20 := rfl
@[simp] theorem State.setReg_blocks (r : Reg16) (v : Word) : (s.setReg r v).blocks = s.blocks := rfl
@[simp] theorem State.setReg_mem (r : Reg16) (v : Word) : (s.setReg r v).mem = s.mem := rfl
@[simp] theorem State.setReg_queue (r : Reg16) (v : Word) : (s.setReg r v).queue = s.queue := rfl
@[simp] theorem State.setReg_host (r : Reg16) (v : Word) : (s.setReg r v).host = s.host := rfl
@[simp] theorem State.setReg_draws (r : Reg16) (v : Word) : (s.setReg r v).draws = s.draws := rfl

/-! `State.setReg8` -/

@[simp] theorem State.setReg8_cfg (r : Reg8) (v : Byte) : (s.setReg8 r v).cfg = s.cfg := rfl
@[simp] theorem State.setReg8_ip (r : Reg8) (v : Byte) : (s.setReg8 r v).ip = s.ip := rfl
@[simp] theorem State.setReg8_live (r : Reg8) (v : Byte) : (s.setReg8 r v).live = s.live := rfl
@[simp] theorem State.setReg8_triple (r : Reg8) (v : Byte) : (s.setReg8 r v).triple = s.triple := rfl
@[simp] theorem State.setReg8_segs (r : Reg8) (v : Byte) : (s.setReg8 r v).segs = s.segs := rfl
@[simp] theorem State.setReg8_sys (r : Reg8) (v : Byte) : (s.setReg8 r v).sys = s.sys := rfl
@[simp] theorem State.setReg8_intFlags (r : Reg8) (v : Byte) : (s.setReg8 r v).intFlags = s.intFlags := rfl
@[simp] theorem State.setReg8_nointr (r : Reg8) (v : Byte) : (s.setReg8 r v).nointr = s.nointr := rfl
@[simp] theorem State.setReg8_scratch (r : Reg8) (v : Byte) : (s.setReg8 r v).scratch = s.scratch := rfl
@[simp] theorem State.setReg8_rep (r : Reg8) (v : Byte) : (s.setReg8 r v).rep = s.rep := rfl
@[simp] theorem State.setReg8_status (r : Reg8) (v : Byte) : (s.setReg8 r v).status = s.status := rfl
@[simp] theorem State.setReg8_handlerEntry (r : Reg8) (v : Byte) : (s.setReg8 r v).handlerEntry = s.handlerEntry := rfl
@[simp] theorem State.setReg8_a20 (r : Reg8) (v : Byte) : (s.setReg8 r v).a20 = s.a20 := rfl
@[simp] theorem State.setReg8_blocks (r : Reg8) (v : Byte) : (s.setReg8 r v).blocks = s.blocks := rfl
@[simp] theorem State.setReg8_mem (r : Reg8) (v : Byte) : (s.setReg8 r v).mem = s.mem := rfl
@[simp] theorem State.setReg8_queue (r : Reg8) (v : Byte) : (s.setReg8 r v).queue = s.queue := rfl
@[simp] theorem State.setReg8_host (r : Reg8) (v : Byte) : (s.setReg8 r v).host = s.host := rfl
@[simp] theorem State.setReg8_draws (r : Reg8) (v : Byte) : (s.setReg8 r v).draws = s.draws := rfl

/-! `State.setSeg` -/

@[simp] theorem State.setSeg_cfg (r : SegReg) (c : SegCache) : (s.setSeg r c).cfg = s.cfg := rfl
@[simp] theorem State.setSeg_regs (r : SegReg) (c : SegCache) : (s.setSeg r c).regs = s.regs := rfl
@[simp] theorem State.setSeg_ip (r : SegReg) (c : SegCache) : (s.setSeg r c).ip = s.ip := rfl
@[simp] theorem State.setSeg_live (r : SegReg) (c : SegCache) : (s.setSeg r c).live = s.live := rfl
@[simp] theorem State.setSeg_triple (r : SegReg) (c : SegCache) : (s.setSeg r c).triple = s.triple := rfl
@[simp] theorem State.setSeg_segs (r : SegReg) (c : SegCache) : (s.setSeg r c).segs = s.segs.set r c := rfl
@[simp] theorem State.setSeg_sys (r : SegReg) (c : SegCache) : (s.setSeg r c).sys = s.sys := rfl
@[simp] theorem State.setSeg_intFlags (r : SegReg) (c : SegCache) : (s.setSeg r c).intFlags = s.intFlags := rfl
@[simp] theorem State.setSeg_nointr (r : SegReg) (c : SegCache) : (s.setSeg r c).nointr = s.nointr := rfl
@[simp] theorem State.setSeg_scratch (r : SegReg) (c : SegCache) : (s.setSeg r c).scratch = s.scratch := rfl
@[simp] theorem State.setSeg_rep (r : SegReg) (c : SegCache) : (s.setSeg r c).rep = s.rep := rfl
@[simp] theorem State.setSeg_status (r : SegReg) (c : SegCache) : (s.setSeg r c).status = s.status := rfl
@[simp] theorem State.setSeg_handlerEntry (r : SegReg) (c : SegCache) : (s.setSeg r c).handlerEntry = s.handlerEntry := rfl
@[simp] theorem State.setSeg_a20 (r : SegReg) (c : SegCache) : (s.setSeg r c).a20 = s.a20 := rfl
@[simp] theorem State.setSeg_blocks (r : SegReg) (c : SegCache) : (s.setSeg r c).blocks = s.blocks := rfl
@[simp] theorem State.setSeg_mem (r : SegReg) (c : SegCache) : (s.setSeg r c).mem = s.mem := rfl
@[simp] theorem State.setSeg_queue (r : SegReg) (c : SegCache) : (s.setSeg r c).queue = s.queue := rfl
@[simp] theorem State.setSeg_host (r : SegReg) (c : SegCache) : (s.setSeg r c).host = s.host := rfl
@[simp] theorem State.setSeg_draws (r : SegReg) (c : SegCache) : (s.setSeg r c).draws = s.draws := rfl

/-! `State.jump` -/

@[simp] theorem State.jump_cfg (w : Word) : (s.jump w).cfg = s.cfg := rfl
@[simp] theorem State.jump_regs (w : Word) : (s.jump w).regs = s.regs := rfl
@[simp] theorem State.jump_ip (w : Word) : (s.jump w).ip = w := rfl
@[simp] theorem State.jump_live (w : Word) : (s.jump w).live = s.live := rfl
@[simp] theorem State.jump_triple (w : Word) : (s.jump w).triple = s.triple := rfl
@[simp] theorem State.jump_segs (w : Word) : (s.jump w).segs = s.segs := rfl
@[simp] theorem State.jump_sys (w : Word) : (s.jump w).sys = s.sys := rfl
@[simp] theorem State.jump_intFlags (w : Word) : (s.jump w).intFlags = s.intFlags := rfl
@[simp] theorem State.jump_nointr (w : Word) : (s.jump w).nointr = s.nointr := rfl
@[simp] theorem State.jump_scratch (w : Word) : (s.jump w).scratch = s.scratch := rfl
@[simp] theorem State.jump_rep (w : Word) : (s.jump w).rep = s.rep := rfl
@[simp] theorem State.jump_status (w : Word) : (s.jump w).status = s.status := rfl
@[simp] theorem State.jump_handlerEntry (w : Word) : (s.jump w).handlerEntry = s.handlerEntry := rfl
@[simp] theorem State.jump_a20 (w : Word) : (s.jump w).a20 = s.a20 := rfl
@[simp] theorem State.jump_blocks (w : Word) : (s.jump w).blocks = s.blocks := rfl
@[simp] theorem State.jump_mem (w : Word) : (s.jump w).mem = s.mem := rfl
@[simp] theorem State.jump_queue (w : Word) : (s.jump w).queue = s.queue.flush w := rfl
@[simp] theorem State.jump_host (w : Word) : (s.jump w).host = s.host := rfl
@[simp] theorem State.jump_draws (w : Word) : (s.jump w).draws = s.draws := rfl

/-! `State.flushQueue` -/

@[simp] theorem State.flushQueue_cfg : (s.flushQueue).cfg = s.cfg := rfl
@[simp] theorem State.flushQueue_regs : (s.flushQueue).regs = s.regs := rfl
@[simp] theorem State.flushQueue_ip : (s.flushQueue).ip = s.ip := rfl
@[simp] theorem State.flushQueue_live : (s.flushQueue).live = s.live := rfl
@[simp] theorem State.flushQueue_triple : (s.flushQueue).triple = s.triple := rfl
@[simp] theorem State.flushQueue_segs : (s.flushQueue).segs = s.segs := rfl
@[simp] theorem State.flushQueue_sys : (s.flushQueue).sys = s.sys := rfl
@[simp] theorem State.flushQueue_intFlags : (s.flushQueue).intFlags = s.intFlags := rfl
@[simp] theorem State.flushQueue_nointr : (s.flushQueue).nointr = s.nointr := rfl
@[simp] theorem State.flushQueue_scratch : (s.flushQueue).scratch = s.scratch := rfl
@[simp] theorem State.flushQueue_status : (s.flushQueue).status = s.status := rfl
@[simp] theorem State.flushQueue_handlerEntry : (s.flushQueue).handlerEntry = s.handlerEntry := rfl
@[simp] theorem State.flushQueue_a20 : (s.flushQueue).a20 = s.a20 := rfl
@[simp] theorem State.flushQueue_blocks : (s.flushQueue).blocks = s.blocks := rfl
@[simp] theorem State.flushQueue_mem : (s.flushQueue).mem = s.mem := rfl
@[simp] theorem State.flushQueue_queue : (s.flushQueue).queue = s.queue.flush s.ip := rfl
@[simp] theorem State.flushQueue_host : (s.flushQueue).host = s.host := rfl
@[simp] theorem State.flushQueue_draws : (s.flushQueue).draws = s.draws := rfl

/-! `State.setTriple` -/

@[simp] theorem State.setTriple_cfg (t : FlagTriple) : (s.setTriple t).cfg = s.cfg := rfl
@[simp] theorem State.setTriple_regs (t : FlagTriple) : (s.setTriple t).regs = s.regs := rfl
@[simp] theorem State.setTriple_ip (t : FlagTriple) : (s.setTriple t).ip = s.ip := rfl
@[simp] theorem State.setTriple_live (t : FlagTriple) : (s.setTriple t).live = s.live := rfl
@[simp] theorem State.setTriple_triple (t : FlagTriple) : (s.setTriple t).triple = t := rfl
@[simp] theorem State.setTriple_segs (t : FlagTriple) : (s.setTriple t).segs = s.segs := rfl
@[simp] theorem State.setTriple_sys (t : FlagTriple) : (s.setTriple t).sys = s.sys := rfl
@[simp] theorem State.setTriple_intFlags (t : FlagTriple) : (s.setTriple t).intFlags = s.intFlags := rfl
@[simp] theorem State.setTriple_nointr (t : FlagTriple) : (s.setTriple t).nointr = s.nointr := rfl
@[simp] theorem State.setTriple_scratch (t : FlagTriple) : (s.setTriple t).scratch = s.scratch := rfl
@[simp] theorem State.setTriple_rep (t : FlagTriple) : (s.setTriple t).rep = s.rep := rfl
@[simp] theorem State.setTriple_status (t : FlagTriple) : (s.setTriple t).status = s.status := rfl
@[simp] theorem State.setTriple_handlerEntry (t : FlagTriple) : (s.setTriple t).handlerEntry = s.handlerEntry := rfl
@[simp] theorem State.setTriple_a20 (t : FlagTriple) : (s.setTriple t).a20 = s.a20 := rfl
@[simp] theorem State.setTriple_blocks (t : FlagTriple) : (s.setTriple t).blocks = s.blocks := rfl
@[simp] theorem State.setTriple_mem (t : FlagTriple) : (s.setTriple t).mem = s.mem := rfl
@[simp] theorem State.setTriple_queue (t : FlagTriple) : (s.setTriple t).queue = s.queue := rfl
@[simp] theorem State.setTriple_host (t : FlagTriple) : (s.setTriple t).host = s.host := rfl
@[simp] theorem State.setTriple_draws (t : FlagTriple) : (s.setTriple t).draws = s.draws := rfl

/-! `State.setFlags` -/

@[simp] theorem State.setFlags_cfg (f : Flags) (z : ResultSize) : (s.setFlags f z).cfg = s.cfg := rfl
@[simp] theorem State.setFlags_regs (f : Flags) (z : ResultSize) : (s.setFlags f z).regs = s.regs := rfl
@[simp] theorem State.setFlags_ip (f : Flags) (z : ResultSize) : (s.setFlags f z).ip = s.ip := rfl
@[simp] theorem State.setFlags_live (f : Flags) (z : ResultSize) : (s.setFlags f z).live = s.live := rfl
@[simp] theorem State.setFlags_triple (f : Flags) (z : ResultSize) : (s.setFlags f z).triple = .encode f z := rfl
@[simp] theorem State.setFlags_segs (f : Flags) (z : ResultSize) : (s.setFlags f z).segs = s.segs := rfl
@[simp] theorem State.setFlags_sys (f : Flags) (z : ResultSize) : (s.setFlags f z).sys = s.sys := rfl
@[simp] theorem State.setFlags_intFlags (f : Flags) (z : ResultSize) : (s.setFlags f z).intFlags = s.intFlags := rfl
@[simp] theorem State.setFlags_nointr (f : Flags) (z : ResultSize) : (s.setFlags f z).nointr = s.nointr := rfl
@[simp] theorem State.setFlags_scratch (f : Flags) (z : ResultSize) : (s.setFlags f z).scratch = s.scratch := rfl
@[simp] theorem State.setFlags_rep (f : Flags) (z : ResultSize) : (s.setFlags f z).rep = s.rep := rfl
@[simp] theorem State.setFlags_status (f : Flags) (z : ResultSize) : (s.setFlags f z).status = s.status := rfl
@[simp] theorem State.setFlags_handlerEntry (f : Flags) (z : ResultSize) : (s.setFlags f z).handlerEntry = s.handlerEntry := rfl
@[simp] theorem State.setFlags_a20 (f : Flags) (z : ResultSize) : (s.setFlags f z).a20 = s.a20 := rfl
@[simp] theorem State.setFlags_blocks (f : Flags) (z : ResultSize) : (s.setFlags f z).blocks = s.blocks := rfl
@[simp] theorem State.setFlags_mem (f : Flags) (z : ResultSize) : (s.setFlags f z).mem = s.mem := rfl
@[simp] theorem State.setFlags_queue (f : Flags) (z : ResultSize) : (s.setFlags f z).queue = s.queue := rfl
@[simp] theorem State.setFlags_host (f : Flags) (z : ResultSize) : (s.setFlags f z).host = s.host := rfl
@[simp] theorem State.setFlags_draws (f : Flags) (z : ResultSize) : (s.setFlags f z).draws = s.draws := rfl

/-! `State.keepSizeSetFlags` -/

@[simp] theorem State.keepSizeSetFlags_cfg (f : Flags) : (s.keepSizeSetFlags f).cfg = s.cfg := rfl
@[simp] theorem State.keepSizeSetFlags_regs (f : Flags) : (s.keepSizeSetFlags f).regs = s.regs := rfl
@[simp] theorem State.keepSizeSetFlags_ip (f : Flags) : (s.keepSizeSetFlags f).ip = s.ip := rfl
@[simp] theorem State.keepSizeSetFlags_live (f : Flags) : (s.keepSizeSetFlags f).live = s.live := rfl
@[simp] theorem State.keepSizeSetFlags_triple (f : Flags) : (s.keepSizeSetFlags f).triple = .encode f s.triple.size := rfl
@[simp] theorem State.keepSizeSetFlags_segs (f : Flags) : (s.keepSizeSetFlags f).segs = s.segs := rfl
@[simp] theorem State.keepSizeSetFlags_sys (f : Flags) : (s.keepSizeSetFlags f).sys = s.sys := rfl
@[simp] theorem State.keepSizeSetFlags_intFlags (f : Flags) : (s.keepSizeSetFlags f).intFlags = s.intFlags := rfl
@[simp] theorem State.keepSizeSetFlags_nointr (f : Flags) : (s.keepSizeSetFlags f).nointr = s.nointr := rfl
@[simp] theorem State.keepSizeSetFlags_scratch (f : Flags) : (s.keepSizeSetFlags f).scratch = s.scratch := rfl
@[simp] theorem State.keepSizeSetFlags_rep (f : Flags) : (s.keepSizeSetFlags f).rep = s.rep := rfl
@[simp] theorem State.keepSizeSetFlags_status (f : Flags) : (s.keepSizeSetFlags f).status = s.status := rfl
@[simp] theorem State.keepSizeSetFlags_handlerEntry (f : Flags) : (s.keepSizeSetFlags f).handlerEntry = s.handlerEntry := rfl
@[simp] theorem State.keepSizeSetFlags_a20 (f : Flags) : (s.keepSizeSetFlags f).a20 = s.a20 := rfl
@[simp] theorem State.keepSizeSetFlags_blocks (f : Flags) : (s.keepSizeSetFlags f).blocks = s.blocks := rfl
@[simp] theorem State.keepSizeSetFlags_mem (f : Flags) : (s.keepSizeSetFlags f).mem = s.mem := rfl
@[simp] theorem State.keepSizeSetFlags_queue (f : Flags) : (s.keepSizeSetFlags f).queue = s.queue := rfl
@[simp] theorem State.keepSizeSetFlags_host (f : Flags) : (s.keepSizeSetFlags f).host = s.host := rfl
@[simp] theorem State.keepSizeSetFlags_draws (f : Flags) : (s.keepSizeSetFlags f).draws = s.draws := rfl

/-! `State.setCf` -/

@[simp] theorem State.setCf_cfg (b : Bool) : (s.setCf b).cfg = s.cfg := rfl
@[simp] theorem State.setCf_regs (b : Bool) : (s.setCf b).regs = s.regs := rfl
@[simp] theorem State.setCf_ip (b : Bool) : (s.setCf b).ip = s.ip := rfl
@[simp] theorem State.setCf_live (b : Bool) : (s.setCf b).live = s.live := rfl
@[simp] theorem State.setCf_segs (b : Bool) : (s.setCf b).segs = s.segs := rfl
@[simp] theorem State.setCf_sys (b : Bool) : (s.setCf b).sys = s.sys := rfl
@[simp] theorem State.setCf_intFlags (b : Bool) : (s.setCf b).intFlags = s.intFlags := rfl
@[simp] theorem State.setCf_nointr (b : Bool) : (s.setCf b).nointr = s.nointr := rfl
@[simp] theorem State.setCf_scratch (b : Bool) : (s.setCf b).scratch = s.scratch := rfl
@[simp] theorem State.setCf_rep (b : Bool) : (s.setCf b).rep = s.rep := rfl
@[simp] theorem State.setCf_status (b : Bool) : (s.setCf b).status = s.status := rfl
@[simp] theorem State.setCf_handlerEntry (b : Bool) : (s.setCf b).handlerEntry = s.handlerEntry := rfl
@[simp] theorem State.setCf_a20 (b : Bool) : (s.setCf b).a20 = s.a20 := rfl
@[simp] theorem State.setCf_blocks (b : Bool) : (s.setCf b).blocks = s.blocks := rfl
@[simp] theorem State.setCf_mem (b : Bool) : (s.setCf b).mem = s.mem := rfl
@[simp] theorem State.setCf_queue (b : Bool) : (s.setCf b).queue = s.queue := rfl
@[simp] theorem State.setCf_host (b : Bool) : (s.setCf b).host = s.host := rfl
@[simp] theorem State.setCf_draws (b : Bool) : (s.setCf b).draws = s.draws := rfl

/-! `State.setZf` -/

@[simp] theorem State.setZf_cfg (b : Bool) : (s.setZf b).cfg = s.cfg := rfl
@[simp] theorem State.setZf_regs (b : Bool) : (s.setZf b).regs = s.regs := rfl
@[simp] theorem State.setZf_ip (b : Bool) : (s.setZf b).ip = s.ip := rfl
@[simp] theorem State.setZf_live (b : Bool) : (s.setZf b).live = s.live := rfl
@[simp] theorem State.setZf_segs (b : Bool) : (s.setZf b).segs = s.segs := rfl
@[simp] theorem State.setZf_sys (b : Bool) : (s.setZf b).sys = s.sys := rfl
@[simp] theorem State.setZf_intFlags (b : Bool) : (s.setZf b).intFlags = s.intFlags := rfl
@[simp] theorem State.setZf_nointr (b : Bool) : (s.setZf b).nointr = s.nointr := rfl
@[simp] theorem State.setZf_scratch (b : Bool) : (s.setZf b).scratch = s.scratch := rfl
@[simp] theorem State.setZf_rep (b : Bool) : (s.setZf b).rep = s.rep := rfl
@[simp] theorem State.setZf_status (b : Bool) : (s.setZf b).status = s.status := rfl
@[simp] theorem State.setZf_handlerEntry (b : Bool) : (s.setZf b).handlerEntry = s.handlerEntry := rfl
@[simp] theorem State.setZf_a20 (b : Bool) : (s.setZf b).a20 = s.a20 := rfl
@[simp] theorem State.setZf_blocks (b : Bool) : (s.setZf b).blocks = s.blocks := rfl
@[simp] theorem State.setZf_mem (b : Bool) : (s.setZf b).mem = s.mem := rfl
@[simp] theorem State.setZf_queue (b : Bool) : (s.setZf b).queue = s.queue := rfl
@[simp] theorem State.setZf_host (b : Bool) : (s.setZf b).host = s.host := rfl
@[simp] theorem State.setZf_draws (b : Bool) : (s.setZf b).draws = s.draws := rfl

/-! `State.setDirect` -/

@[simp] theorem State.setDirect_cfg (k : Nat) (b : Bool) : (s.setDirect k b).cfg = s.cfg := rfl
@[simp] theorem State.setDirect_regs (k : Nat) (b : Bool) : (s.setDirect k b).regs = s.regs := rfl
@[simp] theorem State.setDirect_ip (k : Nat) (b : Bool) : (s.setDirect k b).ip = s.ip := rfl
@[simp] theorem State.setDirect_live (k : Nat) (b : Bool) : (s.setDirect k b).live = setBit s.live k b := rfl
@[simp] theorem State.setDirect_triple (k : Nat) (b : Bool) : (s.setDirect k b).triple = s.triple := rfl
@[simp] theorem State.setDirect_segs (k : Nat) (b : Bool) : (s.setDirect k b).segs = s.segs := rfl
@[simp] theorem State.setDirect_sys (k : Nat) (b : Bool) : (s.setDirect k b).sys = s.sys := rfl
@[simp] theorem State.setDirect_intFlags (k : Nat) (b : Bool) : (s.setDirect k b).intFlags = s.intFlags := rfl
@[simp] theorem State.setDirect_nointr (k : Nat) (b : Bool) : (s.setDirect k b).nointr = s.nointr := rfl
@[simp] theorem State.setDirect_scratch (k : Nat) (b : Bool) : (s.setDirect k b).scratch = s.scratch := rfl
@[simp] theorem State.setDirect_rep (k : Nat) (b : Bool) : (s.setDirect k b).rep = s.rep := rfl
@[simp] theorem State.setDirect_status (k : Nat) (b : Bool) : (s.setDirect k b).status = s.status := rfl
@[simp] theorem State.setDirect_handlerEntry (k : Nat) (b : Bool) : (s.setDirect k b).handlerEntry = s.handlerEntry := rfl
@[simp] theorem State.setDirect_a20 (k : Nat) (b : Bool) : (s.setDirect k b).a20 = s.a20 := rfl
@[simp] theorem State.setDirect_blocks (k : Nat) (b : Bool) : (s.setDirect k b).blocks = s.blocks := rfl
@[simp] theorem State.setDirect_mem (k : Nat) (b : Bool) : (s.setDirect k b).mem = s.mem := rfl
@[simp] theorem State.setDirect_queue (k : Nat) (b : Bool) : (s.setDirect k b).queue = s.queue := rfl
@[simp] theorem State.setDirect_host (k : Nat) (b : Bool) : (s.setDirect k b).host = s.host := rfl
@[simp] theorem State.setDirect_draws (k : Nat) (b : Bool) : (s.setDirect k b).draws = s.draws := rfl

/-! `State.clearDirect` -/

@[simp] theorem State.clearDirect_cfg (w : Word) : (s.clearDirect w).cfg = s.cfg := rfl
@[simp] theorem State.clearDirect_regs (w : Word) : (s.clearDirect w).regs = s.regs := rfl
@[simp] theorem State.clearDirect_ip (w : Word) : (s.clearDirect w).ip = s.ip := rfl
@[simp] theorem State.clearDirect_live (w : Word) : (s.clearDirect w).live = s.live &&& ~~~w := rfl
@[simp] theorem State.clearDirect_triple (w : Word) : (s.clearDirect w).triple = s.triple := rfl
@[simp] theorem State.clearDirect_segs (w : Word) : (s.clearDirect w).segs = s.segs := rfl
@[simp] theorem State.clearDirect_sys (w : Word) : (s.clearDirect w).sys = s.sys := rfl
@[simp] theorem State.clearDirect_intFlags (w : Word) : (s.clearDirect w).intFlags = s.intFlags := rfl
@[simp] theorem State.clearDirect_nointr (w : Word) : (s.clearDirect w).nointr = s.nointr := rfl
@[simp] theorem State.clearDirect_scratch (w : Word) : (s.clearDirect w).scratch = s.scratch := rfl
@[simp] theorem State.clearDirect_rep (w : Word) : (s.clearDirect w).rep = s.rep := rfl
@[simp] theorem State.clearDirect_status (w : Word) : (s.clearDirect w).status = s.status := rfl
@[simp] theorem State.clearDirect_handlerEntry (w : Word) : (s.clearDirect w).handlerEntry = s.handlerEntry := rfl
@[simp] theorem State.clearDirect_a20 (w : Word) : (s.clearDirect w).a20 = s.a20 := rfl
@[simp] theorem State.clearDirect_blocks (w : Word) : (s.clearDirect w).blocks = s.blocks := rfl
@[simp] theorem State.clearDirect_mem (w : Word) : (s.clearDirect w).mem = s.mem := rfl
@[simp] theorem State.clearDirect_queue (w : Word) : (s.clearDirect w).queue = s.queue := rfl
@[simp] theorem State.clearDirect_host (w : Word) : (s.clearDirect w).host = s.host := rfl
@[simp] theorem State.clearDirect_draws (w : Word) : (s.clearDirect w).draws = s.draws := rfl

/-! `State.setPS` -/

@[simp] theorem State.setPS_cfg (v m : Word) : (s.setPS v m).cfg = s.cfg := rfl
@[simp] theorem State.setPS_regs (v m : Word) : (s.setPS v m).regs = s.regs := rfl
@[simp] theorem State.setPS_ip (v m : Word) : (s.setPS v m).ip = s.ip := rfl
@[simp] theorem State.setPS_segs (v m : Word) : (s.setPS v m).segs = s.segs := rfl
@[simp] theorem State.setPS_sys (v m : Word) : (s.setPS v m).sys = s.sys := rfl
@[simp] theorem State.setPS_intFlags (v m : Word) : (s.setPS v m).intFlags = s.intFlags := rfl
@[simp] theorem State.setPS_nointr (v m : Word) : (s.setPS v m).nointr = s.nointr := rfl
@[simp] theorem State.setPS_scratch (v m : Word) : (s.setPS v m).scratch = s.scratch := rfl
@[simp] theorem State.setPS_rep (v m : Word) : (s.setPS v m).rep = s.rep := rfl
@[simp] theorem State.setPS_status (v m : Word) : (s.setPS v m).status = s.status := rfl
@[simp] theorem State.setPS_handlerEntry (v m : Word) : (s.setPS v m).handlerEntry = s.handlerEntry := rfl
@[simp] theorem State.setPS_a20 (v m : Word) : (s.setPS v m).a20 = s.a20 := rfl
@[simp] theorem State.setPS_blocks (v m : Word) : (s.setPS v m).blocks = s.blocks := rfl
@[simp] theorem State.setPS_mem (v m : Word) : (s.setPS v m).mem = s.mem := rfl
@[simp] theorem State.setPS_queue (v m : Word) : (s.setPS v m).queue = s.queue := rfl
@[simp] theorem State.setPS_host (v m : Word) : (s.setPS v m).host = s.host := rfl
@[simp] theorem State.setPS_draws (v m : Word) : (s.setPS v m).draws = s.draws := rfl

/-! `State.drawn` -/

@[simp] theorem State.drawn_cfg : (s.drawn).cfg = s.cfg := rfl
@[simp] theorem State.drawn_regs : (s.drawn).regs = s.regs := rfl
@[simp] theorem State.drawn_ip : (s.drawn).ip = s.ip := rfl
@[simp] theorem State.drawn_live : (s.drawn).live = s.live := rfl
@[simp] theorem State.drawn_triple : (s.drawn).triple = s.triple := rfl
@[simp] theorem State.drawn_segs : (s.drawn).segs = s.segs := rfl
@[simp] theorem State.drawn_sys : (s.drawn).sys = s.sys := rfl
@[simp] theorem State.drawn_intFlags : (s.drawn).intFlags = s.intFlags := rfl
@[simp] theorem State.drawn_nointr : (s.drawn).nointr = s.nointr := rfl
@[simp] theorem State.drawn_scratch : (s.drawn).scratch = s.scratch := rfl
@[simp] theorem State.drawn_rep : (s.drawn).rep = s.rep := rfl
@[simp] theorem State.drawn_status : (s.drawn).status = s.status := rfl
@[simp] theorem State.drawn_handlerEntry : (s.drawn).handlerEntry = s.handlerEntry := rfl
@[simp] theorem State.drawn_a20 : (s.drawn).a20 = s.a20 := rfl
@[simp] theorem State.drawn_blocks : (s.drawn).blocks = s.blocks := rfl
@[simp] theorem State.drawn_mem : (s.drawn).mem = s.mem := rfl
@[simp] theorem State.drawn_queue : (s.drawn).queue = s.queue := rfl
@[simp] theorem State.drawn_host : (s.drawn).host = s.host := rfl
@[simp] theorem State.drawn_draws : (s.drawn).draws = s.draws + 1 := rfl

/-! `State.note` -/

@[simp] theorem State.note_cfg (e : BusEvent) : (s.note e).cfg = s.cfg := rfl
@[simp] theorem State.note_regs (e : BusEvent) : (s.note e).regs = s.regs := rfl
@[simp] theorem State.note_ip (e : BusEvent) : (s.note e).ip = s.ip := rfl
@[simp] theorem State.note_live (e : BusEvent) : (s.note e).live = s.live := rfl
@[simp] theorem State.note_triple (e : BusEvent) : (s.note e).triple = s.triple := rfl
@[simp] theorem State.note_segs (e : BusEvent) : (s.note e).segs = s.segs := rfl
@[simp] theorem State.note_sys (e : BusEvent) : (s.note e).sys = s.sys := rfl
@[simp] theorem State.note_intFlags (e : BusEvent) : (s.note e).intFlags = s.intFlags := rfl
@[simp] theorem State.note_nointr (e : BusEvent) : (s.note e).nointr = s.nointr := rfl
@[simp] theorem State.note_scratch (e : BusEvent) : (s.note e).scratch = s.scratch := rfl
@[simp] theorem State.note_rep (e : BusEvent) : (s.note e).rep = s.rep := rfl
@[simp] theorem State.note_status (e : BusEvent) : (s.note e).status = s.status := rfl
@[simp] theorem State.note_handlerEntry (e : BusEvent) : (s.note e).handlerEntry = s.handlerEntry := rfl
@[simp] theorem State.note_a20 (e : BusEvent) : (s.note e).a20 = s.a20 := rfl
@[simp] theorem State.note_blocks (e : BusEvent) : (s.note e).blocks = s.blocks := rfl
@[simp] theorem State.note_mem (e : BusEvent) : (s.note e).mem = s.mem := rfl
@[simp] theorem State.note_queue (e : BusEvent) : (s.note e).queue = s.queue := rfl
@[simp] theorem State.note_draws (e : BusEvent) : (s.note e).draws = s.draws := rfl

/-! `State.noteEa` -/

@[simp] theorem State.noteEa_cfg (w : Word) : (s.noteEa w).cfg = s.cfg := rfl
@[simp] theorem State.noteEa_regs (w : Word) : (s.noteEa w).regs = s.regs := rfl
@[simp] theorem State.noteEa_ip (w : Word) : (s.noteEa w).ip = s.ip := rfl
@[simp] theorem State.noteEa_live (w : Word) : (s.noteEa w).live = s.live := rfl
@[simp] theorem State.noteEa_triple (w : Word) : (s.noteEa w).triple = s.triple := rfl
@[simp] theorem State.noteEa_segs (w : Word) : (s.noteEa w).segs = s.segs := rfl
@[simp] theorem State.noteEa_sys (w : Word) : (s.noteEa w).sys = s.sys := rfl
@[simp] theorem State.noteEa_intFlags (w : Word) : (s.noteEa w).intFlags = s.intFlags := rfl
@[simp] theorem State.noteEa_nointr (w : Word) : (s.noteEa w).nointr = s.nointr := rfl
@[simp] theorem State.noteEa_rep (w : Word) : (s.noteEa w).rep = s.rep := rfl
@[simp] theorem State.noteEa_status (w : Word) : (s.noteEa w).status = s.status := rfl
@[simp] theorem State.noteEa_handlerEntry (w : Word) : (s.noteEa w).handlerEntry = s.handlerEntry := rfl
@[simp] theorem State.noteEa_a20 (w : Word) : (s.noteEa w).a20 = s.a20 := rfl
@[simp] theorem State.noteEa_blocks (w : Word) : (s.noteEa w).blocks = s.blocks := rfl
@[simp] theorem State.noteEa_mem (w : Word) : (s.noteEa w).mem = s.mem := rfl
@[simp] theorem State.noteEa_queue (w : Word) : (s.noteEa w).queue = s.queue := rfl
@[simp] theorem State.noteEa_host (w : Word) : (s.noteEa w).host = s.host := rfl
@[simp] theorem State.noteEa_draws (w : Word) : (s.noteEa w).draws = s.draws := rfl

/-! `State.noteWrite` -/

@[simp] theorem State.noteWrite_cfg (w : Word) : (s.noteWrite w).cfg = s.cfg := rfl
@[simp] theorem State.noteWrite_regs (w : Word) : (s.noteWrite w).regs = s.regs := rfl
@[simp] theorem State.noteWrite_ip (w : Word) : (s.noteWrite w).ip = s.ip := rfl
@[simp] theorem State.noteWrite_live (w : Word) : (s.noteWrite w).live = s.live := rfl
@[simp] theorem State.noteWrite_triple (w : Word) : (s.noteWrite w).triple = s.triple := rfl
@[simp] theorem State.noteWrite_segs (w : Word) : (s.noteWrite w).segs = s.segs := rfl
@[simp] theorem State.noteWrite_sys (w : Word) : (s.noteWrite w).sys = s.sys := rfl
@[simp] theorem State.noteWrite_intFlags (w : Word) : (s.noteWrite w).intFlags = s.intFlags := rfl
@[simp] theorem State.noteWrite_nointr (w : Word) : (s.noteWrite w).nointr = s.nointr := rfl
@[simp] theorem State.noteWrite_rep (w : Word) : (s.noteWrite w).rep = s.rep := rfl
@[simp] theorem State.noteWrite_status (w : Word) : (s.noteWrite w).status = s.status := rfl
@[simp] theorem State.noteWrite_handlerEntry (w : Word) : (s.noteWrite w).handlerEntry = s.handlerEntry := rfl
@[simp] theorem State.noteWrite_a20 (w : Word) : (s.noteWrite w).a20 = s.a20 := rfl
@[simp] theorem State.noteWrite_blocks (w : Word) : (s.noteWrite w).blocks = s.blocks := rfl
@[simp] theorem State.noteWrite_mem (w : Word) : (s.noteWrite w).mem = s.mem := rfl
@[simp] theorem State.noteWrite_queue (w : Word) : (s.noteWrite w).queue = s.queue := rfl
@[simp] theorem State.noteWrite_host (w : Word) : (s.noteWrite w).host = s.host := rfl
@[simp] theorem State.noteWrite_draws (w : Word) : (s.noteWrite w).draws = s.draws := rfl

/-! `State.setLogic` -/

@[simp] theorem State.setLogic_cfg {n : Nat} (z : ResultSize) (r : BitVec n) : (s.setLogic z r).cfg = s.cfg := rfl
@[simp] theorem State.setLogic_regs {n : Nat} (z : ResultSize) (r : BitVec n) : (s.setLogic z r).regs = s.regs := rfl
@[simp] theorem State.setLogic_ip {n : Nat} (z : ResultSize) (r : BitVec n) : (s.setLogic z r).ip = s.ip := rfl
@[simp] theorem State.setLogic_live {n : Nat} (z : ResultSize) (r : BitVec n) : (s.setLogic z r).live = s.live := rfl
@[simp] theorem State.setLogic_segs {n : Nat} (z : ResultSize) (r : BitVec n) : (s.setLogic z r).segs = s.segs := rfl
@[simp] theorem State.setLogic_sys {n : Nat} (z : ResultSize) (r : BitVec n) : (s.setLogic z r).sys = s.sys := rfl
@[simp] theorem State.setLogic_intFlags {n : Nat} (z : ResultSize) (r : BitVec n) : (s.setLogic z r).intFlags = s.intFlags := rfl
@[simp] theorem State.setLogic_nointr {n : Nat} (z : ResultSize) (r : BitVec n) : (s.setLogic z r).nointr = s.nointr := rfl
@[simp] theorem State.setLogic_scratch {n : Nat} (z : ResultSize) (r : BitVec n) : (s.setLogic z r).scratch = s.scratch := rfl
@[simp] theorem State.setLogic_rep {n : Nat} (z : ResultSize) (r : BitVec n) : (s.setLogic z r).rep = s.rep := rfl
@[simp] theorem State.setLogic_status {n : Nat} (z : ResultSize) (r : BitVec n) : (s.setLogic z r).status = s.status := rfl
@[simp] theorem State.setLogic_handlerEntry {n : Nat} (z : ResultSize) (r : BitVec n) : (s.setLogic z r).handlerEntry = s.handlerEntry := rfl
@[simp] theorem State.setLogic_a20 {n : Nat} (z : ResultSize) (r : BitVec n) : (s.setLogic z r).a20 = s.a20 := rfl
@[simp] theorem State.setLogic_blocks {n : Nat} (z : ResultSize) (r : BitVec n) : (s.setLogic z r).blocks = s.blocks := rfl
@[simp] theorem State.setLogic_mem {n : Nat} (z : ResultSize) (r : BitVec n) : (s.setLogic z r).mem = s.mem := rfl
@[simp] theorem State.setLogic_queue {n : Nat} (z : ResultSize) (r : BitVec n) : (s.setLogic z r).queue = s.queue := rfl
@[simp] theorem State.setLogic_host {n : Nat} (z : ResultSize) (r : BitVec n) : (s.setLogic z r).host = s.host := rfl
@[simp] theorem State.setLogic_draws {n : Nat} (z : ResultSize) (r : BitVec n) : (s.setLogic z r).draws = s.draws + 1 := rfl

/-! `State.setMul` -/

@[simp] theorem State.setMul_cfg (z : ResultSize) (b : Bool) : (s.setMul z b).cfg = s.cfg := rfl
@[simp] theorem State.setMul_regs (z : ResultSize) (b : Bool) : (s.setMul z b).regs = s.regs := rfl
@[simp] theorem State.setMul_ip (z : ResultSize) (b : Bool) : (s.setMul z b).ip = s.ip := rfl
@[simp] theorem State.setMul_live (z : ResultSize) (b : Bool) : (s.setMul z b).live = s.live := rfl
@[simp] theorem State.setMul_segs (z : ResultSize) (b : Bool) : (s.setMul z b).segs = s.segs := rfl
@[simp] theorem State.setMul_sys (z : ResultSize) (b : Bool) : (s.setMul z b).sys = s.sys := rfl
@[simp] theorem State.setMul_intFlags (z : ResultSize) (b : Bool) : (s.setMul z b).intFlags = s.intFlags := rfl
@[simp] theorem State.setMul_nointr (z : ResultSize) (b : Bool) : (s.setMul z b).nointr = s.nointr := rfl
@[simp] theorem State.setMul_scratch (z : ResultSize) (b : Bool) : (s.setMul z b).scratch = s.scratch := rfl
@[simp] theorem State.setMul_rep (z : ResultSize) (b : Bool) : (s.setMul z b).rep = s.rep := rfl
@[simp] theorem State.setMul_status (z : ResultSize) (b : Bool) : (s.setMul z b).status = s.status := rfl
@[simp] theorem State.setMul_handlerEntry (z : ResultSize) (b : Bool) : (s.setMul z b).handlerEntry = s.handlerEntry := rfl
@[simp] theorem State.setMul_a20 (z : ResultSize) (b : Bool) : (s.setMul z b).a20 = s.a20 := rfl
@[simp] theorem State.setMul_blocks (z : ResultSize) (b : Bool) : (s.setMul z b).blocks = s.blocks := rfl
@[simp] theorem State.setMul_mem (z : ResultSize) (b : Bool) : (s.setMul z b).mem = s.mem := rfl
@[simp] theorem State.setMul_queue (z : ResultSize) (b : Bool) : (s.setMul z b).queue = s.queue := rfl
@[simp] theorem State.setMul_host (z : ResultSize) (b : Bool) : (s.setMul z b).host = s.host := rfl
@[simp] theorem State.setMul_draws (z : ResultSize) (b : Bool) : (s.setMul z b).draws = s.draws + 1 := rfl

/-! `State.setDiv` -/

@[simp] theorem State.setDiv_cfg (z : ResultSize) : (s.setDiv z).cfg = s.cfg := rfl
@[simp] theorem State.setDiv_regs (z : ResultSize) : (s.setDiv z).regs = s.regs := rfl
@[simp] theorem State.setDiv_ip (z : ResultSize) : (s.setDiv z).ip = s.ip := rfl
@[simp] theorem State.setDiv_live (z : ResultSize) : (s.setDiv z).live = s.live := rfl
@[simp] theorem State.setDiv_segs (z : ResultSize) : (s.setDiv z).segs = s.segs := rfl
@[simp] theorem State.setDiv_sys (z : ResultSize) : (s.setDiv z).sys = s.sys := rfl
@[simp] theorem State.setDiv_intFlags (z : ResultSize) : (s.setDiv z).intFlags = s.intFlags := rfl
@[simp] theorem State.setDiv_nointr (z : ResultSize) : (s.setDiv z).nointr = s.nointr := rfl
@[simp] theorem State.setDiv_scratch (z : ResultSize) : (s.setDiv z).scratch = s.scratch := rfl
@[simp] theorem State.setDiv_rep (z : ResultSize) : (s.setDiv z).rep = s.rep := rfl
@[simp] theorem State.setDiv_status (z : ResultSize) : (s.setDiv z).status = s.status := rfl
@[simp] theorem State.setDiv_handlerEntry (z : ResultSize) : (s.setDiv z).handlerEntry = s.handlerEntry := rfl
@[simp] theorem State.setDiv_a20 (z : ResultSize) : (s.setDiv z).a20 = s.a20 := rfl
@[simp] theorem State.setDiv_blocks (z : ResultSize) : (s.setDiv z).blocks = s.blocks := rfl
@[simp] theorem State.setDiv_mem (z : ResultSize) : (s.setDiv z).mem = s.mem := rfl
@[simp] theorem State.setDiv_queue (z : ResultSize) : (s.setDiv z).queue = s.queue := rfl
@[simp] theorem State.setDiv_host (z : ResultSize) : (s.setDiv z).host = s.host := rfl
@[simp] theorem State.setDiv_draws (z : ResultSize) : (s.setDiv z).draws = s.draws + 1 := rfl

/-! `State.setDecimal` -/

@[simp] theorem State.setDecimal_cfg (a : Byte) (c f : Bool) : (s.setDecimal a c f).cfg = s.cfg := rfl
@[simp] theorem State.setDecimal_regs (a : Byte) (c f : Bool) : (s.setDecimal a c f).regs = s.regs := rfl
@[simp] theorem State.setDecimal_ip (a : Byte) (c f : Bool) : (s.setDecimal a c f).ip = s.ip := rfl
@[simp] theorem State.setDecimal_live (a : Byte) (c f : Bool) : (s.setDecimal a c f).live = s.live := rfl
@[simp] theorem State.setDecimal_segs (a : Byte) (c f : Bool) : (s.setDecimal a c f).segs = s.segs := rfl
@[simp] theorem State.setDecimal_sys (a : Byte) (c f : Bool) : (s.setDecimal a c f).sys = s.sys := rfl
@[simp] theorem State.setDecimal_intFlags (a : Byte) (c f : Bool) : (s.setDecimal a c f).intFlags = s.intFlags := rfl
@[simp] theorem State.setDecimal_nointr (a : Byte) (c f : Bool) : (s.setDecimal a c f).nointr = s.nointr := rfl
@[simp] theorem State.setDecimal_scratch (a : Byte) (c f : Bool) : (s.setDecimal a c f).scratch = s.scratch := rfl
@[simp] theorem State.setDecimal_rep (a : Byte) (c f : Bool) : (s.setDecimal a c f).rep = s.rep := rfl
@[simp] theorem State.setDecimal_status (a : Byte) (c f : Bool) : (s.setDecimal a c f).status = s.status := rfl
@[simp] theorem State.setDecimal_handlerEntry (a : Byte) (c f : Bool) : (s.setDecimal a c f).handlerEntry = s.handlerEntry := rfl
@[simp] theorem State.setDecimal_a20 (a : Byte) (c f : Bool) : (s.setDecimal a c f).a20 = s.a20 := rfl
@[simp] theorem State.setDecimal_blocks (a : Byte) (c f : Bool) : (s.setDecimal a c f).blocks = s.blocks := rfl
@[simp] theorem State.setDecimal_mem (a : Byte) (c f : Bool) : (s.setDecimal a c f).mem = s.mem := rfl
@[simp] theorem State.setDecimal_queue (a : Byte) (c f : Bool) : (s.setDecimal a c f).queue = s.queue := rfl
@[simp] theorem State.setDecimal_host (a : Byte) (c f : Bool) : (s.setDecimal a c f).host = s.host := rfl
@[simp] theorem State.setDecimal_draws (a : Byte) (c f : Bool) : (s.setDecimal a c f).draws = s.draws + 1 := rfl

/-! `State.setAscii` -/

@[simp] theorem State.setAscii_cfg (b : Bool) : (s.setAscii b).cfg = s.cfg := rfl
@[simp] theorem State.setAscii_regs (b : Bool) : (s.setAscii b).regs = s.regs := rfl
@[simp] theorem State.setAscii_ip (b : Bool) : (s.setAscii b).ip = s.ip := rfl
@[simp] theorem State.setAscii_live (b : Bool) : (s.setAscii b).live = s.live := rfl
@[simp] theorem State.setAscii_segs (b : Bool) : (s.setAscii b).segs = s.segs := rfl
@[simp] theorem State.setAscii_sys (b : Bool) : (s.setAscii b).sys = s.sys := rfl
@[simp] theorem State.setAscii_intFlags (b : Bool) : (s.setAscii b).intFlags = s.intFlags := rfl
@[simp] theorem State.setAscii_nointr (b : Bool) : (s.setAscii b).nointr = s.nointr := rfl
@[simp] theorem State.setAscii_scratch (b : Bool) : (s.setAscii b).scratch = s.scratch := rfl
@[simp] theorem State.setAscii_rep (b : Bool) : (s.setAscii b).rep = s.rep := rfl
@[simp] theorem State.setAscii_status (b : Bool) : (s.setAscii b).status = s.status := rfl
@[simp] theorem State.setAscii_handlerEntry (b : Bool) : (s.setAscii b).handlerEntry = s.handlerEntry := rfl
@[simp] theorem State.setAscii_a20 (b : Bool) : (s.setAscii b).a20 = s.a20 := rfl
@[simp] theorem State.setAscii_blocks (b : Bool) : (s.setAscii b).blocks = s.blocks := rfl
@[simp] theorem State.setAscii_mem (b : Bool) : (s.setAscii b).mem = s.mem := rfl
@[simp] theorem State.setAscii_queue (b : Bool) : (s.setAscii b).queue = s.queue := rfl
@[simp] theorem State.setAscii_host (b : Bool) : (s.setAscii b).host = s.host := rfl
@[simp] theorem State.setAscii_draws (b : Bool) : (s.setAscii b).draws = s.draws + 1 := rfl

/-! `State.setAdjusted` -/

@[simp] theorem State.setAdjusted_cfg (a : Byte) : (s.setAdjusted a).cfg = s.cfg := rfl
@[simp] theorem State.setAdjusted_regs (a : Byte) : (s.setAdjusted a).regs = s.regs := rfl
@[simp] theorem State.setAdjusted_ip (a : Byte) : (s.setAdjusted a).ip = s.ip := rfl
@[simp] theorem State.setAdjusted_live (a : Byte) : (s.setAdjusted a).live = s.live := rfl
@[simp] theorem State.setAdjusted_segs (a : Byte) : (s.setAdjusted a).segs = s.segs := rfl
@[simp] theorem State.setAdjusted_sys (a : Byte) : (s.setAdjusted a).sys = s.sys := rfl
@[simp] theorem State.setAdjusted_intFlags (a : Byte) : (s.setAdjusted a).intFlags = s.intFlags := rfl
@[simp] theorem State.setAdjusted_nointr (a : Byte) : (s.setAdjusted a).nointr = s.nointr := rfl
@[simp] theorem State.setAdjusted_scratch (a : Byte) : (s.setAdjusted a).scratch = s.scratch := rfl
@[simp] theorem State.setAdjusted_rep (a : Byte) : (s.setAdjusted a).rep = s.rep := rfl
@[simp] theorem State.setAdjusted_status (a : Byte) : (s.setAdjusted a).status = s.status := rfl
@[simp] theorem State.setAdjusted_handlerEntry (a : Byte) : (s.setAdjusted a).handlerEntry = s.handlerEntry := rfl
@[simp] theorem State.setAdjusted_a20 (a : Byte) : (s.setAdjusted a).a20 = s.a20 := rfl
@[simp] theorem State.setAdjusted_blocks (a : Byte) : (s.setAdjusted a).blocks = s.blocks := rfl
@[simp] theorem State.setAdjusted_mem (a : Byte) : (s.setAdjusted a).mem = s.mem := rfl
@[simp] theorem State.setAdjusted_queue (a : Byte) : (s.setAdjusted a).queue = s.queue := rfl
@[simp] theorem State.setAdjusted_host (a : Byte) : (s.setAdjusted a).host = s.host := rfl
@[simp] theorem State.setAdjusted_draws (a : Byte) : (s.setAdjusted a).draws = s.draws + 1 := rfl

/-! `State.setRotate` -/

@[simp] theorem State.setRotate_cfg {n : Nat} (z : ResultSize) (x : Shifted n) (c : Nat) : (s.setRotate z x c).cfg = s.cfg := rfl
@[simp] theorem State.setRotate_regs {n : Nat} (z : ResultSize) (x : Shifted n) (c : Nat) : (s.setRotate z x c).regs = s.regs := rfl
@[simp] theorem State.setRotate_ip {n : Nat} (z : ResultSize) (x : Shifted n) (c : Nat) : (s.setRotate z x c).ip = s.ip := rfl
@[simp] theorem State.setRotate_live {n : Nat} (z : ResultSize) (x : Shifted n) (c : Nat) : (s.setRotate z x c).live = s.live := rfl
@[simp] theorem State.setRotate_segs {n : Nat} (z : ResultSize) (x : Shifted n) (c : Nat) : (s.setRotate z x c).segs = s.segs := rfl
@[simp] theorem State.setRotate_sys {n : Nat} (z : ResultSize) (x : Shifted n) (c : Nat) : (s.setRotate z x c).sys = s.sys := rfl
@[simp] theorem State.setRotate_intFlags {n : Nat} (z : ResultSize) (x : Shifted n) (c : Nat) : (s.setRotate z x c).intFlags = s.intFlags := rfl
@[simp] theorem State.setRotate_nointr {n : Nat} (z : ResultSize) (x : Shifted n) (c : Nat) : (s.setRotate z x c).nointr = s.nointr := rfl
@[simp] theorem State.setRotate_scratch {n : Nat} (z : ResultSize) (x : Shifted n) (c : Nat) : (s.setRotate z x c).scratch = s.scratch := rfl
@[simp] theorem State.setRotate_rep {n : Nat} (z : ResultSize) (x : Shifted n) (c : Nat) : (s.setRotate z x c).rep = s.rep := rfl
@[simp] theorem State.setRotate_status {n : Nat} (z : ResultSize) (x : Shifted n) (c : Nat) : (s.setRotate z x c).status = s.status := rfl
@[simp] theorem State.setRotate_handlerEntry {n : Nat} (z : ResultSize) (x : Shifted n) (c : Nat) : (s.setRotate z x c).handlerEntry = s.handlerEntry := rfl
@[simp] theorem State.setRotate_a20 {n : Nat} (z : ResultSize) (x : Shifted n) (c : Nat) : (s.setRotate z x c).a20 = s.a20 := rfl
@[simp] theorem State.setRotate_blocks {n : Nat} (z : ResultSize) (x : Shifted n) (c : Nat) : (s.setRotate z x c).blocks = s.blocks := rfl
@[simp] theorem State.setRotate_mem {n : Nat} (z : ResultSize) (x : Shifted n) (c : Nat) : (s.setRotate z x c).mem = s.mem := rfl
@[simp] theorem State.setRotate_queue {n : Nat} (z : ResultSize) (x : Shifted n) (c : Nat) : (s.setRotate z x c).queue = s.queue := rfl
@[simp] theorem State.setRotate_host {n : Nat} (z : ResultSize) (x : Shifted n) (c : Nat) : (s.setRotate z x c).host = s.host := rfl
@[simp] theorem State.setRotate_draws {n : Nat} (z : ResultSize) (x : Shifted n) (c : Nat) : (s.setRotate z x c).draws = s.draws + 1 := rfl

/-! `State.setShift` -/

@[simp] theorem State.setShift_cfg {n : Nat} (z : ResultSize) (x : Shifted n) (c : Nat) : (s.setShift z x c).cfg = s.cfg := rfl
@[simp] theorem State.setShift_regs {n : Nat} (z : ResultSize) (x : Shifted n) (c : Nat) : (s.setShift z x c).regs = s.regs := rfl
@[simp] theorem State.setShift_ip {n : Nat} (z : ResultSize) (x : Shifted n) (c : Nat) : (s.setShift z x c).ip = s.ip := rfl
@[simp] theorem State.setShift_live {n : Nat} (z : ResultSize) (x : Shifted n) (c : Nat) : (s.setShift z x c).live = s.live := rfl
@[simp] theorem State.setShift_segs {n : Nat} (z : ResultSize) (x : Shifted n) (c : Nat) : (s.setShift z x c).segs = s.segs := rfl
@[simp] theorem State.setShift_sys {n : Nat} (z : ResultSize) (x : Shifted n) (c : Nat) : (s.setShift z x c).sys = s.sys := rfl
@[simp] theorem State.setShift_intFlags {n : Nat} (z : ResultSize) (x : Shifted n) (c : Nat) : (s.setShift z x c).intFlags = s.intFlags := rfl
@[simp] theorem State.setShift_nointr {n : Nat} (z : ResultSize) (x : Shifted n) (c : Nat) : (s.setShift z x c).nointr = s.nointr := rfl
@[simp] theorem State.setShift_scratch {n : Nat} (z : ResultSize) (x : Shifted n) (c : Nat) : (s.setShift z x c).scratch = s.scratch := rfl
@[simp] theorem State.setShift_rep {n : Nat} (z : ResultSize) (x : Shifted n) (c : Nat) : (s.setShift z x c).rep = s.rep := rfl
@[simp] theorem State.setShift_status {n : Nat} (z : ResultSize) (x : Shifted n) (c : Nat) : (s.setShift z x c).status = s.status := rfl
@[simp] theorem State.setShift_handlerEntry {n : Nat} (z : ResultSize) (x : Shifted n) (c : Nat) : (s.setShift z x c).handlerEntry = s.handlerEntry := rfl
@[simp] theorem State.setShift_a20 {n : Nat} (z : ResultSize) (x : Shifted n) (c : Nat) : (s.setShift z x c).a20 = s.a20 := rfl
@[simp] theorem State.setShift_blocks {n : Nat} (z : ResultSize) (x : Shifted n) (c : Nat) : (s.setShift z x c).blocks = s.blocks := rfl
@[simp] theorem State.setShift_mem {n : Nat} (z : ResultSize) (x : Shifted n) (c : Nat) : (s.setShift z x c).mem = s.mem := rfl
@[simp] theorem State.setShift_queue {n : Nat} (z : ResultSize) (x : Shifted n) (c : Nat) : (s.setShift z x c).queue = s.queue := rfl
@[simp] theorem State.setShift_host {n : Nat} (z : ResultSize) (x : Shifted n) (c : Nat) : (s.setShift z x c).host = s.host := rfl
@[simp] theorem State.setShift_draws {n : Nat} (z : ResultSize) (x : Shifted n) (c : Nat) : (s.setShift z x c).draws = s.draws + 1 := rfl

/-! `State.ioWrite` -/

@[simp] theorem State.ioWrite_cfg (p : Word) (n : Nat) (v : Word) : (s.ioWrite p n v).cfg = s.cfg := rfl
@[simp] theorem State.ioWrite_regs (p : Word) (n : Nat) (v : Word) : (s.ioWrite p n v).regs = s.regs := rfl
@[simp] theorem State.ioWrite_ip (p : Word) (n : Nat) (v : Word) : (s.ioWrite p n v).ip = s.ip := rfl
@[simp] theorem State.ioWrite_live (p : Word) (n : Nat) (v : Word) : (s.ioWrite p n v).live = s.live := rfl
@[simp] theorem State.ioWrite_triple (p : Word) (n : Nat) (v : Word) : (s.ioWrite p n v).triple = s.triple := rfl
@[simp] theorem State.ioWrite_segs (p : Word) (n : Nat) (v : Word) : (s.ioWrite p n v).segs = s.segs := rfl
@[simp] theorem State.ioWrite_sys (p : Word) (n : Nat) (v : Word) : (s.ioWrite p n v).sys = s.sys := rfl
@[simp] theorem State.ioWrite_intFlags (p : Word) (n : Nat) (v : Word) : (s.ioWrite p n v).intFlags = s.intFlags := rfl
@[simp] theorem State.ioWrite_nointr (p : Word) (n : Nat) (v : Word) : (s.ioWrite p n v).nointr = s.nointr := rfl
@[simp] theorem State.ioWrite_scratch (p : Word) (n : Nat) (v : Word) : (s.ioWrite p n v).scratch = s.scratch := rfl
@[simp] theorem State.ioWrite_rep (p : Word) (n : Nat) (v : Word) : (s.ioWrite p n v).rep = s.rep := rfl
@[simp] theorem State.ioWrite_status (p : Word) (n : Nat) (v : Word) : (s.ioWrite p n v).status = s.status := rfl
@[simp] theorem State.ioWrite_handlerEntry (p : Word) (n : Nat) (v : Word) : (s.ioWrite p n v).handlerEntry = s.handlerEntry := rfl
@[simp] theorem State.ioWrite_a20 (p : Word) (n : Nat) (v : Word) : (s.ioWrite p n v).a20 = s.a20 := rfl
@[simp] theorem State.ioWrite_blocks (p : Word) (n : Nat) (v : Word) : (s.ioWrite p n v).blocks = s.blocks := rfl
@[simp] theorem State.ioWrite_mem (p : Word) (n : Nat) (v : Word) : (s.ioWrite p n v).mem = s.mem := rfl
@[simp] theorem State.ioWrite_queue (p : Word) (n : Nat) (v : Word) : (s.ioWrite p n v).queue = s.queue := rfl
@[simp] theorem State.ioWrite_draws (p : Word) (n : Nat) (v : Word) : (s.ioWrite p n v).draws = s.draws := rfl

/-! `State.updateIntr` -/

@[simp] theorem State.updateIntr_cfg (b : Bool) : (s.updateIntr b).cfg = s.cfg := rfl
@[simp] theorem State.updateIntr_regs (b : Bool) : (s.updateIntr b).regs = s.regs := rfl
@[simp] theorem State.updateIntr_ip (b : Bool) : (s.updateIntr b).ip = s.ip := rfl
@[simp] theorem State.updateIntr_live (b : Bool) : (s.updateIntr b).live = s.live := rfl
@[simp] theorem State.updateIntr_triple (b : Bool) : (s.updateIntr b).triple = s.triple := rfl
@[simp] theorem State.updateIntr_segs (b : Bool) : (s.updateIntr b).segs = s.segs := rfl
@[simp] theorem State.updateIntr_sys (b : Bool) : (s.updateIntr b).sys = s.sys := rfl
@[simp] theorem State.updateIntr_intFlags (b : Bool) : (s.updateIntr b).intFlags = { s.intFlags with intr := b } := rfl
@[simp] theorem State.updateIntr_nointr (b : Bool) : (s.updateIntr b).nointr = s.nointr := rfl
@[simp] theorem State.updateIntr_scratch (b : Bool) : (s.updateIntr b).scratch = s.scratch := rfl
@[simp] theorem State.updateIntr_rep (b : Bool) : (s.updateIntr b).rep = s.rep := rfl
@[simp] theorem State.updateIntr_status (b : Bool) : (s.updateIntr b).status = s.status := rfl
@[simp] theorem State.updateIntr_handlerEntry (b : Bool) : (s.updateIntr b).handlerEntry = s.handlerEntry := rfl
@[simp] theorem State.updateIntr_a20 (b : Bool) : (s.updateIntr b).a20 = s.a20 := rfl
@[simp] theorem State.updateIntr_blocks (b : Bool) : (s.updateIntr b).blocks = s.blocks := rfl
@[simp] theorem State.updateIntr_mem (b : Bool) : (s.updateIntr b).mem = s.mem := rfl
@[simp] theorem State.updateIntr_queue (b : Bool) : (s.updateIntr b).queue = s.queue := rfl
@[simp] theorem State.updateIntr_host (b : Bool) : (s.updateIntr b).host = s.host := rfl
@[simp] theorem State.updateIntr_draws (b : Bool) : (s.updateIntr b).draws = s.draws := rfl

/-! `State.addIntNotify` -/

@[simp] theorem State.addIntNotify_cfg (n : IntNotify) : (s.addIntNotify n).cfg = s.cfg := rfl
@[simp] theorem State.addIntNotify_regs (n : IntNotify) : (s.addIntNotify n).regs = s.regs := rfl
@[simp] theorem State.addIntNotify_ip (n : IntNotify) : (s.addIntNotify n).ip = s.ip := rfl
@[simp] theorem State.addIntNotify_live (n : IntNotify) : (s.addIntNotify n).live = s.live := rfl
@[simp] theorem State.addIntNotify_triple (n : IntNotify) : (s.addIntNotify n).triple = s.triple := rfl
@[simp] theorem State.addIntNotify_segs (n : IntNotify) : (s.addIntNotify n).segs = s.segs := rfl
@[simp] theorem State.addIntNotify_sys (n : IntNotify) : (s.addIntNotify n).sys = s.sys := rfl
@[simp] theorem State.addIntNotify_intFlags (n : IntNotify) : (s.addIntNotify n).intFlags = s.intFlags := rfl
@[simp] theorem State.addIntNotify_nointr (n : IntNotify) : (s.addIntNotify n).nointr = s.nointr := rfl
@[simp] theorem State.addIntNotify_scratch (n : IntNotify) : (s.addIntNotify n).scratch = s.scratch := rfl
@[simp] theorem State.addIntNotify_rep (n : IntNotify) : (s.addIntNotify n).rep = s.rep := rfl
@[simp] theorem State.addIntNotify_status (n : IntNotify) : (s.addIntNotify n).status = s.status := rfl
@[simp] theorem State.addIntNotify_handlerEntry (n : IntNotify) : (s.addIntNotify n).handlerEntry = s.handlerEntry := rfl
@[simp] theorem State.addIntNotify_a20 (n : IntNotify) : (s.addIntNotify n).a20 = s.a20 := rfl
@[simp] theorem State.addIntNotify_blocks (n : IntNotify) : (s.addIntNotify n).blocks = s.blocks := rfl
@[simp] theorem State.addIntNotify_mem (n : IntNotify) : (s.addIntNotify n).mem = s.mem := rfl
@[simp] theorem State.addIntNotify_queue (n : IntNotify) : (s.addIntNotify n).queue = s.queue := rfl
@[simp] theorem State.addIntNotify_draws (n : IntNotify) : (s.addIntNotify n).draws = s.draws := rfl

/-! `State.addIntReturn` -/

@[simp] theorem State.addIntReturn_cfg (n : ReturnNotify) : (s.addIntReturn n).cfg = s.cfg := rfl
@[simp] theorem State.addIntReturn_regs (n : ReturnNotify) : (s.addIntReturn n).regs = s.regs := rfl
@[simp] theorem State.addIntReturn_ip (n : ReturnNotify) : (s.addIntReturn n).ip = s.ip := rfl
@[simp] theorem State.addIntReturn_live (n : ReturnNotify) : (s.addIntReturn n).live = s.live := rfl
@[simp] theorem State.addIntReturn_triple (n : ReturnNotify) : (s.addIntReturn n).triple = s.triple := rfl
@[simp] theorem State.addIntReturn_segs (n : ReturnNotify) : (s.addIntReturn n).segs = s.segs := rfl
@[simp] theorem State.addIntReturn_sys (n : ReturnNotify) : (s.addIntReturn n).sys = s.sys := rfl
@[simp] theorem State.addIntReturn_intFlags (n : ReturnNotify) : (s.addIntReturn n).intFlags = s.intFlags := rfl
@[simp] theorem State.addIntReturn_nointr (n : ReturnNotify) : (s.addIntReturn n).nointr = s.nointr := rfl
@[simp] theorem State.addIntReturn_scratch (n : ReturnNotify) : (s.addIntReturn n).scratch = s.scratch := rfl
@[simp] theorem State.addIntReturn_rep (n : ReturnNotify) : (s.addIntReturn n).rep = s.rep := rfl
@[simp] theorem State.addIntReturn_status (n : ReturnNotify) : (s.addIntReturn n).status = s.status := rfl
@[simp] theorem State.addIntReturn_handlerEntry (n : ReturnNotify) : (s.addIntReturn n).handlerEntry = s.handlerEntry := rfl
@[simp] theorem State.addIntReturn_a20 (n : ReturnNotify) : (s.addIntReturn n).a20 = s.a20 := rfl
@[simp] theorem State.addIntReturn_blocks (n : ReturnNotify) : (s.addIntReturn n).blocks = s.blocks := rfl
@[simp] theorem State.addIntReturn_mem (n : ReturnNotify) : (s.addIntReturn n).mem = s.mem := rfl
@[simp] theorem State.addIntReturn_queue (n : ReturnNotify) : (s.addIntReturn n).queue = s.queue := rfl
@[simp] theorem State.addIntReturn_draws (n : ReturnNotify) : (s.addIntReturn n).draws = s.draws := rfl

/-! `State.setCycles` -/

@[simp] theorem State.setCycles_cfg (c : Cycles) : (s.setCycles c).cfg = s.cfg := rfl
@[simp] theorem State.setCycles_regs (c : Cycles) : (s.setCycles c).regs = s.regs := rfl
@[simp] theorem State.setCycles_ip (c : Cycles) : (s.setCycles c).ip = s.ip := rfl
@[simp] theorem State.setCycles_live (c : Cycles) : (s.setCycles c).live = s.live := rfl
@[simp] theorem State.setCycles_triple (c : Cycles) : (s.setCycles c).triple = s.triple := rfl
@[simp] theorem State.setCycles_segs (c : Cycles) : (s.setCycles c).segs = s.segs := rfl
@[simp] theorem State.setCycles_sys (c : Cycles) : (s.setCycles c).sys = s.sys := rfl
@[simp] theorem State.setCycles_intFlags (c : Cycles) : (s.setCycles c).intFlags = s.intFlags := rfl
@[simp] theorem State.setCycles_nointr (c : Cycles) : (s.setCycles c).nointr = s.nointr := rfl
@[simp] theorem State.setCycles_scratch (c : Cycles) : (s.setCycles c).scratch = s.scratch := rfl
@[simp] theorem State.setCycles_rep (c : Cycles) : (s.setCycles c).rep = s.rep := rfl
@[simp] theorem State.setCycles_status (c : Cycles) : (s.setCycles c).status = s.status := rfl
@[simp] theorem State.setCycles_handlerEntry (c : Cycles) : (s.setCycles c).handlerEntry = s.handlerEntry := rfl
@[simp] theorem State.setCycles_a20 (c : Cycles) : (s.setCycles c).a20 = s.a20 := rfl
@[simp] theorem State.setCycles_blocks (c : Cycles) : (s.setCycles c).blocks = s.blocks := rfl
@[simp] theorem State.setCycles_mem (c : Cycles) : (s.setCycles c).mem = s.mem := rfl
@[simp] theorem State.setCycles_queue (c : Cycles) : (s.setCycles c).queue = s.queue := rfl
@[simp] theorem State.setCycles_draws (c : Cycles) : (s.setCycles c).draws = s.draws := rfl

/-! `State.setRepeat` -/

@[simp] theorem State.setRepeat_cfg (p : Option RepeatPending) : (s.setRepeat p).cfg = s.cfg := rfl
@[simp] theorem State.setRepeat_regs (p : Option RepeatPending) : (s.setRepeat p).regs = s.regs := rfl
@[simp] theorem State.setRepeat_ip (p : Option RepeatPending) : (s.setRepeat p).ip = s.ip := rfl
@[simp] theorem State.setRepeat_live (p : Option RepeatPending) : (s.setRepeat p).live = s.live := rfl
@[simp] theorem State.setRepeat_triple (p : Option RepeatPending) : (s.setRepeat p).triple = s.triple := rfl
@[simp] theorem State.setRepeat_segs (p : Option RepeatPending) : (s.setRepeat p).segs = s.segs := rfl
@[simp] theorem State.setRepeat_sys (p : Option RepeatPending) : (s.setRepeat p).sys = s.sys := rfl
@[simp] theorem State.setRepeat_intFlags (p : Option RepeatPending) : (s.setRepeat p).intFlags = s.intFlags := rfl
@[simp] theorem State.setRepeat_nointr (p : Option RepeatPending) : (s.setRepeat p).nointr = s.nointr := rfl
@[simp] theorem State.setRepeat_scratch (p : Option RepeatPending) : (s.setRepeat p).scratch = s.scratch := rfl
@[simp] theorem State.setRepeat_status (p : Option RepeatPending) : (s.setRepeat p).status = s.status := rfl
@[simp] theorem State.setRepeat_handlerEntry (p : Option RepeatPending) : (s.setRepeat p).handlerEntry = s.handlerEntry := rfl
@[simp] theorem State.setRepeat_a20 (p : Option RepeatPending) : (s.setRepeat p).a20 = s.a20 := rfl
@[simp] theorem State.setRepeat_blocks (p : Option RepeatPending) : (s.setRepeat p).blocks = s.blocks := rfl
@[simp] theorem State.setRepeat_mem (p : Option RepeatPending) : (s.setRepeat p).mem = s.mem := rfl
@[simp] theorem State.setRepeat_queue (p : Option RepeatPending) : (s.setRepeat p).queue = s.queue := rfl
@[simp] theorem State.setRepeat_host (p : Option RepeatPending) : (s.setRepeat p).host = s.host := rfl
@[simp] theorem State.setRepeat_draws (p : Option RepeatPending) : (s.setRepeat p).draws = s.draws := rfl

/-! `State.undo` -/

@[simp] theorem State.undo_cfg (t : State) : (s.undo t).cfg = s.cfg := rfl
@[simp] theorem State.undo_regs (t : State) : (s.undo t).regs = s.regs := rfl
@[simp] theorem State.undo_ip (t : State) : (s.undo t).ip = s.ip := rfl
@[simp] theorem State.undo_live (t : State) : (s.undo t).live = s.live := rfl
@[simp] theorem State.undo_triple (t : State) : (s.undo t).triple = s.triple := rfl
@[simp] theorem State.undo_segs (t : State) : (s.undo t).segs = s.segs := rfl
@[simp] theorem State.undo_sys (t : State) : (s.undo t).sys = s.sys := rfl
@[simp] theorem State.undo_intFlags (t : State) : (s.undo t).intFlags = s.intFlags := rfl
@[simp] theorem State.undo_nointr (t : State) : (s.undo t).nointr = s.nointr := rfl
@[simp] theorem State.undo_scratch (t : State) : (s.undo t).scratch = s.scratch := rfl
@[simp] theorem State.undo_rep (t : State) : (s.undo t).rep = s.rep := rfl
@[simp] theorem State.undo_status (t : State) : (s.undo t).status = s.status := rfl
@[simp] theorem State.undo_handlerEntry (t : State) : (s.undo t).handlerEntry = s.handlerEntry := rfl
@[simp] theorem State.undo_a20 (t : State) : (s.undo t).a20 = s.a20 := rfl
@[simp] theorem State.undo_blocks (t : State) : (s.undo t).blocks = s.blocks := rfl
@[simp] theorem State.undo_mem (t : State) : (s.undo t).mem = s.mem := rfl
@[simp] theorem State.undo_queue (t : State) : (s.undo t).queue = s.queue := rfl
@[simp] theorem State.undo_host (t : State) : (s.undo t).host = t.host := rfl
@[simp] theorem State.undo_draws (t : State) : (s.undo t).draws = t.draws := rfl

/-! `State.latchTrap` -/

@[simp] theorem State.latchTrap_cfg (t : State) : (s.latchTrap t).cfg = t.cfg := by
  unfold State.latchTrap; split <;> rfl
@[simp] theorem State.latchTrap_regs (t : State) : (s.latchTrap t).regs = t.regs := by
  unfold State.latchTrap; split <;> rfl
@[simp] theorem State.latchTrap_ip (t : State) : (s.latchTrap t).ip = t.ip := by
  unfold State.latchTrap; split <;> rfl
@[simp] theorem State.latchTrap_live (t : State) : (s.latchTrap t).live = t.live := by
  unfold State.latchTrap; split <;> rfl
@[simp] theorem State.latchTrap_triple (t : State) : (s.latchTrap t).triple = t.triple := by
  unfold State.latchTrap; split <;> rfl
@[simp] theorem State.latchTrap_segs (t : State) : (s.latchTrap t).segs = t.segs := by
  unfold State.latchTrap; split <;> rfl
@[simp] theorem State.latchTrap_sys (t : State) : (s.latchTrap t).sys = t.sys := by
  unfold State.latchTrap; split <;> rfl
@[simp] theorem State.latchTrap_nointr (t : State) : (s.latchTrap t).nointr = t.nointr := by
  unfold State.latchTrap; split <;> rfl
@[simp] theorem State.latchTrap_scratch (t : State) : (s.latchTrap t).scratch = t.scratch := by
  unfold State.latchTrap; split <;> rfl
@[simp] theorem State.latchTrap_rep (t : State) : (s.latchTrap t).rep = t.rep := by
  unfold State.latchTrap; split <;> rfl
@[simp] theorem State.latchTrap_status (t : State) : (s.latchTrap t).status = t.status := by
  unfold State.latchTrap; split <;> rfl
@[simp] theorem State.latchTrap_handlerEntry (t : State) : (s.latchTrap t).handlerEntry = t.handlerEntry := by
  unfold State.latchTrap; split <;> rfl
@[simp] theorem State.latchTrap_a20 (t : State) : (s.latchTrap t).a20 = t.a20 := by
  unfold State.latchTrap; split <;> rfl
@[simp] theorem State.latchTrap_blocks (t : State) : (s.latchTrap t).blocks = t.blocks := by
  unfold State.latchTrap; split <;> rfl
@[simp] theorem State.latchTrap_mem (t : State) : (s.latchTrap t).mem = t.mem := by
  unfold State.latchTrap; split <;> rfl
@[simp] theorem State.latchTrap_queue (t : State) : (s.latchTrap t).queue = t.queue := by
  unfold State.latchTrap; split <;> rfl
@[simp] theorem State.latchTrap_host (t : State) : (s.latchTrap t).host = t.host := by
  unfold State.latchTrap; split <;> rfl
@[simp] theorem State.latchTrap_draws (t : State) : (s.latchTrap t).draws = t.draws := by
  unfold State.latchTrap; split <;> rfl

/-! `State.busWrite8` -/

@[simp] theorem State.busWrite8_cfg (p : Nat) (v : Byte) : (s.busWrite8 p v).cfg = s.cfg := by
  unfold State.busWrite8; split <;> rfl
@[simp] theorem State.busWrite8_regs (p : Nat) (v : Byte) : (s.busWrite8 p v).regs = s.regs := by
  unfold State.busWrite8; split <;> rfl
@[simp] theorem State.busWrite8_ip (p : Nat) (v : Byte) : (s.busWrite8 p v).ip = s.ip := by
  unfold State.busWrite8; split <;> rfl
@[simp] theorem State.busWrite8_live (p : Nat) (v : Byte) : (s.busWrite8 p v).live = s.live := by
  unfold State.busWrite8; split <;> rfl
@[simp] theorem State.busWrite8_triple (p : Nat) (v : Byte) : (s.busWrite8 p v).triple = s.triple := by
  unfold State.busWrite8; split <;> rfl
@[simp] theorem State.busWrite8_segs (p : Nat) (v : Byte) : (s.busWrite8 p v).segs = s.segs := by
  unfold State.busWrite8; split <;> rfl
@[simp] theorem State.busWrite8_sys (p : Nat) (v : Byte) : (s.busWrite8 p v).sys = s.sys := by
  unfold State.busWrite8; split <;> rfl
@[simp] theorem State.busWrite8_intFlags (p : Nat) (v : Byte) : (s.busWrite8 p v).intFlags = s.intFlags := by
  unfold State.busWrite8; split <;> rfl
@[simp] theorem State.busWrite8_nointr (p : Nat) (v : Byte) : (s.busWrite8 p v).nointr = s.nointr := by
  unfold State.busWrite8; split <;> rfl
@[simp] theorem State.busWrite8_scratch (p : Nat) (v : Byte) : (s.busWrite8 p v).scratch = s.scratch := by
  unfold State.busWrite8; split <;> rfl
@[simp] theorem State.busWrite8_rep (p : Nat) (v : Byte) : (s.busWrite8 p v).rep = s.rep := by
  unfold State.busWrite8; split <;> rfl
@[simp] theorem State.busWrite8_status (p : Nat) (v : Byte) : (s.busWrite8 p v).status = s.status := by
  unfold State.busWrite8; split <;> rfl
@[simp] theorem State.busWrite8_handlerEntry (p : Nat) (v : Byte) : (s.busWrite8 p v).handlerEntry = s.handlerEntry := by
  unfold State.busWrite8; split <;> rfl
@[simp] theorem State.busWrite8_a20 (p : Nat) (v : Byte) : (s.busWrite8 p v).a20 = s.a20 := by
  unfold State.busWrite8; split <;> rfl
@[simp] theorem State.busWrite8_blocks (p : Nat) (v : Byte) : (s.busWrite8 p v).blocks = s.blocks := by
  unfold State.busWrite8; split <;> rfl
@[simp] theorem State.busWrite8_queue (p : Nat) (v : Byte) : (s.busWrite8 p v).queue = s.queue := by
  unfold State.busWrite8; split <;> rfl
@[simp] theorem State.busWrite8_draws (p : Nat) (v : Byte) : (s.busWrite8 p v).draws = s.draws := by
  unfold State.busWrite8; split <;> rfl

/-! `State.busRead8` -/

@[simp] theorem State.busRead8_cfg (p : Nat) : (s.busRead8 p).2.cfg = s.cfg := by
  unfold State.busRead8; split <;> rfl
@[simp] theorem State.busRead8_regs (p : Nat) : (s.busRead8 p).2.regs = s.regs := by
  unfold State.busRead8; split <;> rfl
@[simp] theorem State.busRead8_ip (p : Nat) : (s.busRead8 p).2.ip = s.ip := by
  unfold State.busRead8; split <;> rfl
@[simp] theorem State.busRead8_live (p : Nat) : (s.busRead8 p).2.live = s.live := by
  unfold State.busRead8; split <;> rfl
@[simp] theorem State.busRead8_triple (p : Nat) : (s.busRead8 p).2.triple = s.triple := by
  unfold State.busRead8; split <;> rfl
@[simp] theorem State.busRead8_segs (p : Nat) : (s.busRead8 p).2.segs = s.segs := by
  unfold State.busRead8; split <;> rfl
@[simp] theorem State.busRead8_sys (p : Nat) : (s.busRead8 p).2.sys = s.sys := by
  unfold State.busRead8; split <;> rfl
@[simp] theorem State.busRead8_intFlags (p : Nat) : (s.busRead8 p).2.intFlags = s.intFlags := by
  unfold State.busRead8; split <;> rfl
@[simp] theorem State.busRead8_nointr (p : Nat) : (s.busRead8 p).2.nointr = s.nointr := by
  unfold State.busRead8; split <;> rfl
@[simp] theorem State.busRead8_scratch (p : Nat) : (s.busRead8 p).2.scratch = s.scratch := by
  unfold State.busRead8; split <;> rfl
@[simp] theorem State.busRead8_rep (p : Nat) : (s.busRead8 p).2.rep = s.rep := by
  unfold State.busRead8; split <;> rfl
@[simp] theorem State.busRead8_status (p : Nat) : (s.busRead8 p).2.status = s.status := by
  unfold State.busRead8; split <;> rfl
@[simp] theorem State.busRead8_handlerEntry (p : Nat) : (s.busRead8 p).2.handlerEntry = s.handlerEntry := by
  unfold State.busRead8; split <;> rfl
@[simp] theorem State.busRead8_a20 (p : Nat) : (s.busRead8 p).2.a20 = s.a20 := by
  unfold State.busRead8; split <;> rfl
@[simp] theorem State.busRead8_blocks (p : Nat) : (s.busRead8 p).2.blocks = s.blocks := by
  unfold State.busRead8; split <;> rfl
@[simp] theorem State.busRead8_mem (p : Nat) : (s.busRead8 p).2.mem = s.mem := by
  unfold State.busRead8; split <;> rfl
@[simp] theorem State.busRead8_queue (p : Nat) : (s.busRead8 p).2.queue = s.queue := by
  unfold State.busRead8; split <;> rfl

/-! `State.ioRead` -/

@[simp] theorem State.ioRead_cfg (p : Word) (n : Nat) : (s.ioRead p n).2.cfg = s.cfg := by
  unfold State.ioRead; split <;> rfl
@[simp] theorem State.ioRead_regs (p : Word) (n : Nat) : (s.ioRead p n).2.regs = s.regs := by
  unfold State.ioRead; split <;> rfl
@[simp] theorem State.ioRead_ip (p : Word) (n : Nat) : (s.ioRead p n).2.ip = s.ip := by
  unfold State.ioRead; split <;> rfl
@[simp] theorem State.ioRead_live (p : Word) (n : Nat) : (s.ioRead p n).2.live = s.live := by
  unfold State.ioRead; split <;> rfl
@[simp] theorem State.ioRead_triple (p : Word) (n : Nat) : (s.ioRead p n).2.triple = s.triple := by
  unfold State.ioRead; split <;> rfl
@[simp] theorem State.ioRead_segs (p : Word) (n : Nat) : (s.ioRead p n).2.segs = s.segs := by
  unfold State.ioRead; split <;> rfl
@[simp] theorem State.ioRead_sys (p : Word) (n : Nat) : (s.ioRead p n).2.sys = s.sys := by
  unfold State.ioRead; split <;> rfl
@[simp] theorem State.ioRead_intFlags (p : Word) (n : Nat) : (s.ioRead p n).2.intFlags = s.intFlags := by
  unfold State.ioRead; split <;> rfl
@[simp] theorem State.ioRead_nointr (p : Word) (n : Nat) : (s.ioRead p n).2.nointr = s.nointr := by
  unfold State.ioRead; split <;> rfl
@[simp] theorem State.ioRead_scratch (p : Word) (n : Nat) : (s.ioRead p n).2.scratch = s.scratch := by
  unfold State.ioRead; split <;> rfl
@[simp] theorem State.ioRead_rep (p : Word) (n : Nat) : (s.ioRead p n).2.rep = s.rep := by
  unfold State.ioRead; split <;> rfl
@[simp] theorem State.ioRead_status (p : Word) (n : Nat) : (s.ioRead p n).2.status = s.status := by
  unfold State.ioRead; split <;> rfl
@[simp] theorem State.ioRead_handlerEntry (p : Word) (n : Nat) : (s.ioRead p n).2.handlerEntry = s.handlerEntry := by
  unfold State.ioRead; split <;> rfl
@[simp] theorem State.ioRead_a20 (p : Word) (n : Nat) : (s.ioRead p n).2.a20 = s.a20 := by
  unfold State.ioRead; split <;> rfl
@[simp] theorem State.ioRead_blocks (p : Word) (n : Nat) : (s.ioRead p n).2.blocks = s.blocks := by
  unfold State.ioRead; split <;> rfl
@[simp] theorem State.ioRead_mem (p : Word) (n : Nat) : (s.ioRead p n).2.mem = s.mem := by
  unfold State.ioRead; split <;> rfl
@[simp] theorem State.ioRead_queue (p : Word) (n : Nat) : (s.ioRead p n).2.queue = s.queue := by
  unfold State.ioRead; split <;> rfl

/-! `State.busReadBytes` -/

@[simp] theorem State.busReadBytes_cfg (p q : Nat) : (s.busReadBytes p q).2.cfg = s.cfg := by
  simp [State.busReadBytes]
@[simp] theorem State.busReadBytes_regs (p q : Nat) : (s.busReadBytes p q).2.regs = s.regs := by
  simp [State.busReadBytes]
@[simp] theorem State.busReadBytes_ip (p q : Nat) : (s.busReadBytes p q).2.ip = s.ip := by
  simp [State.busReadBytes]
@[simp] theorem State.busReadBytes_live (p q : Nat) : (s.busReadBytes p q).2.live = s.live := by
  simp [State.busReadBytes]
@[simp] theorem State.busReadBytes_triple (p q : Nat) : (s.busReadBytes p q).2.triple = s.triple := by
  simp [State.busReadBytes]
@[simp] theorem State.busReadBytes_segs (p q : Nat) : (s.busReadBytes p q).2.segs = s.segs := by
  simp [State.busReadBytes]
@[simp] theorem State.busReadBytes_sys (p q : Nat) : (s.busReadBytes p q).2.sys = s.sys := by
  simp [State.busReadBytes]
@[simp] theorem State.busReadBytes_intFlags (p q : Nat) : (s.busReadBytes p q).2.intFlags = s.intFlags := by
  simp [State.busReadBytes]
@[simp] theorem State.busReadBytes_nointr (p q : Nat) : (s.busReadBytes p q).2.nointr = s.nointr := by
  simp [State.busReadBytes]
@[simp] theorem State.busReadBytes_scratch (p q : Nat) : (s.busReadBytes p q).2.scratch = s.scratch := by
  simp [State.busReadBytes]
@[simp] theorem State.busReadBytes_rep (p q : Nat) : (s.busReadBytes p q).2.rep = s.rep := by
  simp [State.busReadBytes]
@[simp] theorem State.busReadBytes_status (p q : Nat) : (s.busReadBytes p q).2.status = s.status := by
  simp [State.busReadBytes]
@[simp] theorem State.busReadBytes_handlerEntry (p q : Nat) : (s.busReadBytes p q).2.handlerEntry = s.handlerEntry := by
  simp [State.busReadBytes]
@[simp] theorem State.busReadBytes_a20 (p q : Nat) : (s.busReadBytes p q).2.a20 = s.a20 := by
  simp [State.busReadBytes]
@[simp] theorem State.busReadBytes_blocks (p q : Nat) : (s.busReadBytes p q).2.blocks = s.blocks := by
  simp [State.busReadBytes]
@[simp] theorem State.busReadBytes_mem (p q : Nat) : (s.busReadBytes p q).2.mem = s.mem := by
  simp [State.busReadBytes]
@[simp] theorem State.busReadBytes_queue (p q : Nat) : (s.busReadBytes p q).2.queue = s.queue := by
  simp [State.busReadBytes]

/-! `State.busWriteBytes` -/

@[simp] theorem State.busWriteBytes_cfg (p q : Nat) (v : Word) : (s.busWriteBytes p q v).cfg = s.cfg := by
  simp [State.busWriteBytes]
@[simp] theorem State.busWriteBytes_regs (p q : Nat) (v : Word) : (s.busWriteBytes p q v).regs = s.regs := by
  simp [State.busWriteBytes]
@[simp] theorem State.busWriteBytes_ip (p q : Nat) (v : Word) : (s.busWriteBytes p q v).ip = s.ip := by
  simp [State.busWriteBytes]
@[simp] theorem State.busWriteBytes_live (p q : Nat) (v : Word) : (s.busWriteBytes p q v).live = s.live := by
  simp [State.busWriteBytes]
@[simp] theorem State.busWriteBytes_triple (p q : Nat) (v : Word) : (s.busWriteBytes p q v).triple = s.triple := by
  simp [State.busWriteBytes]
@[simp] theorem State.busWriteBytes_segs (p q : Nat) (v : Word) : (s.busWriteBytes p q v).segs = s.segs := by
  simp [State.busWriteBytes]
@[simp] theorem State.busWriteBytes_sys (p q : Nat) (v : Word) : (s.busWriteBytes p q v).sys = s.sys := by
  simp [State.busWriteBytes]
@[simp] theorem State.busWriteBytes_intFlags (p q : Nat) (v : Word) : (s.busWriteBytes p q v).intFlags = s.intFlags := by
  simp [State.busWriteBytes]
@[simp] theorem State.busWriteBytes_nointr (p q : Nat) (v : Word) : (s.busWriteBytes p q v).nointr = s.nointr := by
  simp [State.busWriteBytes]
@[simp] theorem State.busWriteBytes_scratch (p q : Nat) (v : Word) : (s.busWriteBytes p q v).scratch = s.scratch := by
  simp [State.busWriteBytes]
@[simp] theorem State.busWriteBytes_rep (p q : Nat) (v : Word) : (s.busWriteBytes p q v).rep = s.rep := by
  simp [State.busWriteBytes]
@[simp] theorem State.busWriteBytes_status (p q : Nat) (v : Word) : (s.busWriteBytes p q v).status = s.status := by
  simp [State.busWriteBytes]
@[simp] theorem State.busWriteBytes_handlerEntry (p q : Nat) (v : Word) : (s.busWriteBytes p q v).handlerEntry = s.handlerEntry := by
  simp [State.busWriteBytes]
@[simp] theorem State.busWriteBytes_a20 (p q : Nat) (v : Word) : (s.busWriteBytes p q v).a20 = s.a20 := by
  simp [State.busWriteBytes]
@[simp] theorem State.busWriteBytes_blocks (p q : Nat) (v : Word) : (s.busWriteBytes p q v).blocks = s.blocks := by
  simp [State.busWriteBytes]
@[simp] theorem State.busWriteBytes_queue (p q : Nat) (v : Word) : (s.busWriteBytes p q v).queue = s.queue := by
  simp [State.busWriteBytes]
@[simp] theorem State.busWriteBytes_draws (p q : Nat) (v : Word) : (s.busWriteBytes p q v).draws = s.draws := by
  simp [State.busWriteBytes]

/-! `State.busRead16` -/

@[simp] theorem State.busRead16_cfg (p : Nat) : (s.busRead16 p).2.cfg = s.cfg := by
  unfold State.busRead16; repeat (first | split | simp)
@[simp] theorem State.busRead16_regs (p : Nat) : (s.busRead16 p).2.regs = s.regs := by
  unfold State.busRead16; repeat (first | split | simp)
@[simp] theorem State.busRead16_ip (p : Nat) : (s.busRead16 p).2.ip = s.ip := by
  unfold State.busRead16; repeat (first | split | simp)
@[simp] theorem State.busRead16_live (p : Nat) : (s.busRead16 p).2.live = s.live := by
  unfold State.busRead16; repeat (first | split | simp)
@[simp] theorem State.busRead16_triple (p : Nat) : (s.busRead16 p).2.triple = s.triple := by
  unfold State.busRead16; repeat (first | split | simp)
@[simp] theorem State.busRead16_segs (p : Nat) : (s.busRead16 p).2.segs = s.segs := by
  unfold State.busRead16; repeat (first | split | simp)
@[simp] theorem State.busRead16_sys (p : Nat) : (s.busRead16 p).2.sys = s.sys := by
  unfold State.busRead16; repeat (first | split | simp)
@[simp] theorem State.busRead16_intFlags (p : Nat) : (s.busRead16 p).2.intFlags = s.intFlags := by
  unfold State.busRead16; repeat (first | split | simp)
@[simp] theorem State.busRead16_nointr (p : Nat) : (s.busRead16 p).2.nointr = s.nointr := by
  unfold State.busRead16; repeat (first | split | simp)
@[simp] theorem State.busRead16_scratch (p : Nat) : (s.busRead16 p).2.scratch = s.scratch := by
  unfold State.busRead16; repeat (first | split | simp)
@[simp] theorem State.busRead16_rep (p : Nat) : (s.busRead16 p).2.rep = s.rep := by
  unfold State.busRead16; repeat (first | split | simp)
@[simp] theorem State.busRead16_status (p : Nat) : (s.busRead16 p).2.status = s.status := by
  unfold State.busRead16; repeat (first | split | simp)
@[simp] theorem State.busRead16_handlerEntry (p : Nat) : (s.busRead16 p).2.handlerEntry = s.handlerEntry := by
  unfold State.busRead16; repeat (first | split | simp)
@[simp] theorem State.busRead16_a20 (p : Nat) : (s.busRead16 p).2.a20 = s.a20 := by
  unfold State.busRead16; repeat (first | split | simp)
@[simp] theorem State.busRead16_blocks (p : Nat) : (s.busRead16 p).2.blocks = s.blocks := by
  unfold State.busRead16; repeat (first | split | simp)
@[simp] theorem State.busRead16_mem (p : Nat) : (s.busRead16 p).2.mem = s.mem := by
  unfold State.busRead16; repeat (first | split | simp)
@[simp] theorem State.busRead16_queue (p : Nat) : (s.busRead16 p).2.queue = s.queue := by
  unfold State.busRead16; repeat (first | split | simp)

/-! `State.busWrite16` -/

@[simp] theorem State.busWrite16_cfg (p : Nat) (v : Word) : (s.busWrite16 p v).cfg = s.cfg := by
  unfold State.busWrite16; repeat (first | split | simp)
@[simp] theorem State.busWrite16_regs (p : Nat) (v : Word) : (s.busWrite16 p v).regs = s.regs := by
  unfold State.busWrite16; repeat (first | split | simp)
@[simp] theorem State.busWrite16_ip (p : Nat) (v : Word) : (s.busWrite16 p v).ip = s.ip := by
  unfold State.busWrite16; repeat (first | split | simp)
@[simp] theorem State.busWrite16_live (p : Nat) (v : Word) : (s.busWrite16 p v).live = s.live := by
  unfold State.busWrite16; repeat (first | split | simp)
@[simp] theorem State.busWrite16_triple (p : Nat) (v : Word) : (s.busWrite16 p v).triple = s.triple := by
  unfold State.busWrite16; repeat (first | split | simp)
@[simp] theorem State.busWrite16_segs (p : Nat) (v : Word) : (s.busWrite16 p v).segs = s.segs := by
  unfold State.busWrite16; repeat (first | split | simp)
@[simp] theorem State.busWrite16_sys (p : Nat) (v : Word) : (s.busWrite16 p v).sys = s.sys := by
  unfold State.busWrite16; repeat (first | split | simp)
@[simp] theorem State.busWrite16_intFlags (p : Nat) (v : Word) : (s.busWrite16 p v).intFlags = s.intFlags := by
  unfold State.busWrite16; repeat (first | split | simp)
@[simp] theorem State.busWrite16_nointr (p : Nat) (v : Word) : (s.busWrite16 p v).nointr = s.nointr := by
  unfold State.busWrite16; repeat (first | split | simp)
@[simp] theorem State.busWrite16_scratch (p : Nat) (v : Word) : (s.busWrite16 p v).scratch = s.scratch := by
  unfold State.busWrite16; repeat (first | split | simp)
@[simp] theorem State.busWrite16_rep (p : Nat) (v : Word) : (s.busWrite16 p v).rep = s.rep := by
  unfold State.busWrite16; repeat (first | split | simp)
@[simp] theorem State.busWrite16_status (p : Nat) (v : Word) : (s.busWrite16 p v).status = s.status := by
  unfold State.busWrite16; repeat (first | split | simp)
@[simp] theorem State.busWrite16_handlerEntry (p : Nat) (v : Word) : (s.busWrite16 p v).handlerEntry = s.handlerEntry := by
  unfold State.busWrite16; repeat (first | split | simp)
@[simp] theorem State.busWrite16_a20 (p : Nat) (v : Word) : (s.busWrite16 p v).a20 = s.a20 := by
  unfold State.busWrite16; repeat (first | split | simp)
@[simp] theorem State.busWrite16_blocks (p : Nat) (v : Word) : (s.busWrite16 p v).blocks = s.blocks := by
  unfold State.busWrite16; repeat (first | split | simp)
@[simp] theorem State.busWrite16_queue (p : Nat) (v : Word) : (s.busWrite16 p v).queue = s.queue := by
  unfold State.busWrite16; repeat (first | split | simp)
@[simp] theorem State.busWrite16_draws (p : Nat) (v : Word) : (s.busWrite16 p v).draws = s.draws := by
  unfold State.busWrite16; repeat (first | split | simp)

/-! `State.segGet16` -/

@[simp] theorem State.segGet16_cfg (r : SegReg) (w : Word) : (s.segGet16 r w).2.cfg = s.cfg := by
  unfold State.segGet16; split <;> simp
@[simp] theorem State.segGet16_regs (r : SegReg) (w : Word) : (s.segGet16 r w).2.regs = s.regs := by
  unfold State.segGet16; split <;> simp
@[simp] theorem State.segGet16_ip (r : SegReg) (w : Word) : (s.segGet16 r w).2.ip = s.ip := by
  unfold State.segGet16; split <;> simp
@[simp] theorem State.segGet16_live (r : SegReg) (w : Word) : (s.segGet16 r w).2.live = s.live := by
  unfold State.segGet16; split <;> simp
@[simp] theorem State.segGet16_triple (r : SegReg) (w : Word) : (s.segGet16 r w).2.triple = s.triple := by
  unfold State.segGet16; split <;> simp
@[simp] theorem State.segGet16_segs (r : SegReg) (w : Word) : (s.segGet16 r w).2.segs = s.segs := by
  unfold State.segGet16; split <;> simp
@[simp] theorem State.segGet16_sys (r : SegReg) (w : Word) : (s.segGet16 r w).2.sys = s.sys := by
  unfold State.segGet16; split <;> simp
@[simp] theorem State.segGet16_intFlags (r : SegReg) (w : Word) : (s.segGet16 r w).2.intFlags = s.intFlags := by
  unfold State.segGet16; split <;> simp
@[simp] theorem State.segGet16_nointr (r : SegReg) (w : Word) : (s.segGet16 r w).2.nointr = s.nointr := by
  unfold State.segGet16; split <;> simp
@[simp] theorem State.segGet16_scratch (r : SegReg) (w : Word) : (s.segGet16 r w).2.scratch = s.scratch := by
  unfold State.segGet16; split <;> simp
@[simp] theorem State.segGet16_rep (r : SegReg) (w : Word) : (s.segGet16 r w).2.rep = s.rep := by
  unfold State.segGet16; split <;> simp
@[simp] theorem State.segGet16_status (r : SegReg) (w : Word) : (s.segGet16 r w).2.status = s.status := by
  unfold State.segGet16; split <;> simp
@[simp] theorem State.segGet16_handlerEntry (r : SegReg) (w : Word) : (s.segGet16 r w).2.handlerEntry = s.handlerEntry := by
  unfold State.segGet16; split <;> simp
@[simp] theorem State.segGet16_a20 (r : SegReg) (w : Word) : (s.segGet16 r w).2.a20 = s.a20 := by
  unfold State.segGet16; split <;> simp
@[simp] theorem State.segGet16_blocks (r : SegReg) (w : Word) : (s.segGet16 r w).2.blocks = s.blocks := by
  unfold State.segGet16; split <;> simp
@[simp] theorem State.segGet16_mem (r : SegReg) (w : Word) : (s.segGet16 r w).2.mem = s.mem := by
  unfold State.segGet16; split <;> simp
@[simp] theorem State.segGet16_queue (r : SegReg) (w : Word) : (s.segGet16 r w).2.queue = s.queue := by
  unfold State.segGet16; split <;> simp

/-! `State.segPut16` -/

@[simp] theorem State.segPut16_cfg (r : SegReg) (w v : Word) : (s.segPut16 r w v).cfg = s.cfg := by
  unfold State.segPut16; split <;> simp
@[simp] theorem State.segPut16_regs (r : SegReg) (w v : Word) : (s.segPut16 r w v).regs = s.regs := by
  unfold State.segPut16; split <;> simp
@[simp] theorem State.segPut16_ip (r : SegReg) (w v : Word) : (s.segPut16 r w v).ip = s.ip := by
  unfold State.segPut16; split <;> simp
@[simp] theorem State.segPut16_live (r : SegReg) (w v : Word) : (s.segPut16 r w v).live = s.live := by
  unfold State.segPut16; split <;> simp
@[simp] theorem State.segPut16_triple (r : SegReg) (w v : Word) : (s.segPut16 r w v).triple = s.triple := by
  unfold State.segPut16; split <;> simp
@[simp] theorem State.segPut16_segs (r : SegReg) (w v : Word) : (s.segPut16 r w v).segs = s.segs := by
  unfold State.segPut16; split <;> simp
@[simp] theorem State.segPut16_sys (r : SegReg) (w v : Word) : (s.segPut16 r w v).sys = s.sys := by
  unfold State.segPut16; split <;> simp
@[simp] theorem State.segPut16_intFlags (r : SegReg) (w v : Word) : (s.segPut16 r w v).intFlags = s.intFlags := by
  unfold State.segPut16; split <;> simp
@[simp] theorem State.segPut16_nointr (r : SegReg) (w v : Word) : (s.segPut16 r w v).nointr = s.nointr := by
  unfold State.segPut16; split <;> simp
@[simp] theorem State.segPut16_scratch (r : SegReg) (w v : Word) : (s.segPut16 r w v).scratch = s.scratch := by
  unfold State.segPut16; split <;> simp
@[simp] theorem State.segPut16_rep (r : SegReg) (w v : Word) : (s.segPut16 r w v).rep = s.rep := by
  unfold State.segPut16; split <;> simp
@[simp] theorem State.segPut16_status (r : SegReg) (w v : Word) : (s.segPut16 r w v).status = s.status := by
  unfold State.segPut16; split <;> simp
@[simp] theorem State.segPut16_handlerEntry (r : SegReg) (w v : Word) : (s.segPut16 r w v).handlerEntry = s.handlerEntry := by
  unfold State.segPut16; split <;> simp
@[simp] theorem State.segPut16_a20 (r : SegReg) (w v : Word) : (s.segPut16 r w v).a20 = s.a20 := by
  unfold State.segPut16; split <;> simp
@[simp] theorem State.segPut16_blocks (r : SegReg) (w v : Word) : (s.segPut16 r w v).blocks = s.blocks := by
  unfold State.segPut16; split <;> simp
@[simp] theorem State.segPut16_queue (r : SegReg) (w v : Word) : (s.segPut16 r w v).queue = s.queue := by
  unfold State.segPut16; split <;> simp
@[simp] theorem State.segPut16_draws (r : SegReg) (w v : Word) : (s.segPut16 r w v).draws = s.draws := by
  unfold State.segPut16; split <;> simp

/-! Registers and segments read after they are written -/

theorem Regs.get_set (g : Regs) (r q : Reg16) (v : Word) : (g.set r v).get q = if q = r then v else g.get q := by
  cases r <;> cases q <;> rfl

@[simp] theorem Regs.get_set_same (g : Regs) (r : Reg16) (v : Word) : (g.set r v).get r = v := by
  cases r <;> rfl

theorem SegRegs.get_set (g : SegRegs) (r q : SegReg) (c : SegCache) :
    (g.set r c).get q = if q = r then c else g.get q := by
  cases r <;> cases q <;> rfl

@[simp] theorem SegRegs.get_set_same (g : SegRegs) (r : SegReg) (c : SegCache) : (g.set r c).get r = c := by
  cases r <;> rfl

/-! Bytes of words -/

@[simp] theorem loByte_mkWord (lo hi : Byte) : loByte (mkWord lo hi) = lo := by
  ext i h
  have e := BitVec.getLsbD_append (x := hi) (y := lo) (i := i)
  simp only [loByte, mkWord, BitVec.getElem_extractLsb', Nat.zero_add]
  refine e.trans ?_
  simp [h, BitVec.getLsbD_eq_getElem]

@[simp] theorem hiByte_mkWord (lo hi : Byte) : hiByte (mkWord lo hi) = hi := by
  ext i h
  have e := BitVec.getLsbD_append (x := hi) (y := lo) (i := 8 + i)
  simp only [hiByte, mkWord, BitVec.getElem_extractLsb']
  refine e.trans ?_
  simp [BitVec.getLsbD_eq_getElem, h]

@[simp] theorem mkWord_lo_hi (w : Word) : mkWord (loByte w) (hiByte w) = w := by
  ext i h
  have e := BitVec.getElem_append (x := hiByte w) (y := loByte w) (i := i) h
  refine e.trans ?_
  simp only [loByte, hiByte, BitVec.getElem_extractLsb']
  split
  · simp [BitVec.getLsbD_eq_getElem, h]
  · rw [BitVec.getLsbD_eq_getElem (by omega)]
    congr 1
    omega

end Sys2Proof.Machine
end

