-- ==== Sys2Proof/Laws/Memory.lean ====
section
/-! SUPPORT. Memory: what a read gives after a write, and that every operation keeps the canonical form. -/

namespace Sys2Proof.Machine

theorem Memory.read_erase (m : List Host.Cell) (k j : Nat) :
    Memory.read (Memory.erase m k) j = if j = k then 0 else Memory.read m j := by
  induction m with
  | nil => simp [Memory.erase, Memory.read]
  | cons c m ih =>
    obtain ⟨a, b⟩ := c
    simp only [Memory.erase]
    split
    · rename_i h
      subst h
      rw [ih]
      by_cases e : j = a
      · simp [e]
      · simp [Memory.read, e, Ne.symm e]
    · rename_i h
      by_cases e : a = j
      · subst e; simp [Memory.read, h]
      · simp [Memory.read, e, ih]

theorem Memory.read_insert (m : List Host.Cell) (k j : Nat) (v : Byte) :
    Memory.read (Memory.insert (Memory.erase m k) k v) j = if j = k then v else Memory.read m j := by
  induction m with
  | nil => simp only [Memory.erase, Memory.insert, Memory.read, eq_comm]
  | cons c m ih =>
    obtain ⟨a, b⟩ := c
    simp only [Memory.erase]
    split
    · rename_i h
      subst h
      rw [ih]
      by_cases e : j = a
      · simp [e]
      · simp [Memory.read, e, Ne.symm e]
    · rename_i ne
      simp only [Memory.insert]
      split
      · have e := Memory.read_erase m k j
        simp only [Memory.read, e, eq_comm]
        by_cases h : k = j <;> simp [h]
      · simp only [Memory.read, ih]
        by_cases e' : a = j
        · subst e'; simp [ne]
        · simp [e']

/-- A read after a write: the byte written at its address, every other byte as before. -/
theorem Memory.read_write (m : List Host.Cell) (k j : Nat) (v : Byte) :
    Memory.read (Memory.write m k v) j = if j = k then v else Memory.read m j := by
  unfold Memory.write
  split
  · rename_i h; rw [Memory.read_erase, h]
  · exact Memory.read_insert m k j v

theorem Memory.wfFrom_mono {lo lo' : Nat} {m : List Host.Cell} (h : Memory.wfFrom lo m = true) (le : lo' ≤ lo) :
    Memory.wfFrom lo' m = true := by
  cases m with
  | nil => rfl
  | cons c m =>
    obtain ⟨a, b⟩ := c
    simp only [Memory.wfFrom, Bool.and_eq_true, decide_eq_true_eq] at h ⊢
    exact ⟨⟨by omega, h.1.2⟩, h.2⟩

theorem Memory.wfFrom_erase {lo : Nat} {m : List Host.Cell} (k : Nat) (h : Memory.wfFrom lo m = true) :
    Memory.wfFrom lo (Memory.erase m k) = true := by
  induction m generalizing lo with
  | nil => rfl
  | cons c m ih =>
    obtain ⟨a, b⟩ := c
    simp only [Memory.wfFrom, Bool.and_eq_true, decide_eq_true_eq] at h
    simp only [Memory.erase]
    split
    · exact Memory.wfFrom_mono (ih h.2) (by omega)
    · simp only [Memory.wfFrom, Bool.and_eq_true, decide_eq_true_eq]
      exact ⟨h.1, ih h.2⟩

theorem Memory.wfFrom_insert {lo : Nat} {m : List Host.Cell} {k : Nat} {v : Byte} (h : Memory.wfFrom lo m = true)
    (le : lo ≤ k) (free : ∀ c ∈ m, c.1 ≠ k) (nz : v ≠ 0) :
    Memory.wfFrom lo (Memory.insert m k v) = true := by
  induction m generalizing lo with
  | nil => simpa [Memory.insert, Memory.wfFrom, le] using nz
  | cons c m ih =>
    obtain ⟨a, b⟩ := c
    simp only [Memory.wfFrom, Bool.and_eq_true, decide_eq_true_eq] at h
    have ne : a ≠ k := free (a, b) (by simp)
    simp only [Memory.insert]
    split
    · simp only [Memory.wfFrom, Bool.and_eq_true, decide_eq_true_eq, bne_iff_ne]
      exact ⟨⟨le, nz⟩, ⟨by omega, by simpa using h.1.2⟩, h.2⟩
    · simp only [Memory.wfFrom, Bool.and_eq_true, decide_eq_true_eq]
      exact ⟨h.1, ih h.2 (by omega) fun c hc => free c (by simp [hc])⟩

theorem Memory.erase_free (m : List Host.Cell) (k : Nat) : ∀ c ∈ Memory.erase m k, c.1 ≠ k := by
  induction m with
  | nil => simp [Memory.erase]
  | cons c m ih =>
    obtain ⟨a, b⟩ := c
    simp only [Memory.erase]
    split
    · exact ih
    · simp only [List.mem_cons, forall_eq_or_imp]
      exact ⟨by assumption, ih⟩

/-- A write keeps the canonical form. -/
theorem Memory.wf_write {m : List Host.Cell} (k : Nat) (v : Byte) (h : Memory.wf m = true) :
    Memory.wf (Memory.write m k v) = true := by
  unfold Memory.wf Memory.write at *
  split
  · exact Memory.wfFrom_erase k h
  · exact Memory.wfFrom_insert (Memory.wfFrom_erase k h) (Nat.zero_le k) (Memory.erase_free m k) (by assumption)

theorem wf_busWrite8 {s : State} (p : Nat) (v : Byte) (h : Memory.wf s.mem = true) :
    Memory.wf (s.busWrite8 p v).mem = true := by
  unfold State.busWrite8
  split
  · exact Memory.wf_write _ _ h
  all_goals exact h

theorem wf_busWrite16 {s : State} (p : Nat) (v : Word) (h : Memory.wf s.mem = true) :
    Memory.wf (s.busWrite16 p v).mem = true := by
  unfold State.busWrite16
  split
  · exact wf_busWrite8 _ _ (wf_busWrite8 _ _ h)
  · split
    · exact Memory.wf_write _ _ (Memory.wf_write _ _ h)
    all_goals exact h

theorem wf_segPut16 {s : State} (r : SegReg) (off v : Word) (h : Memory.wf s.mem = true) :
    Memory.wf (s.segPut16 r off v).mem = true := by
  unfold State.segPut16
  split
  · exact wf_busWrite8 _ _ (wf_busWrite8 _ _ h)
  · exact wf_busWrite16 _ _ h

/-- Memory at reset is canonical. -/
theorem wf_reset : Memory.wf State.reset.mem = true := rfl

/-- A byte written to `ram` is read back, and no other byte changes (20_memory.md R101). -/
theorem read_busWrite8_ram {s : State} {p : Nat} (h : s.kindAt p = .ram) (v : Byte) (a : Nat) :
    Memory.read (s.busWrite8 p v).mem a = if a = p then v else Memory.read s.mem a := by
  simp only [State.busWrite8, h, Memory.read_write]

end Sys2Proof.Machine
end

