-- ==== Sys2Proof/Laws/Res.lean ====
section
/-! SUPPORT. The result type: taking a sequence of operations apart, and its checks. -/

namespace Sys2Proof.Machine

variable {α β : Type}

@[simp] theorem ok_bind (a : α) (f : α → Res β) : ((Except.ok a : Res α) >>= f) = f a := rfl

@[simp] theorem error_bind (r : Raise) (f : α → Res β) : ((Except.error r : Res α) >>= f) = .error r := rfl

@[simp] theorem pure_eq_ok (a : α) : (pure a : Res α) = .ok a := rfl

/-- A sequence completes exactly when both its parts do. -/
theorem bind_eq_ok {x : Res α} {f : α → Res β} {b : β} :
    (x >>= f) = .ok b ↔ ∃ a, x = .ok a ∧ f a = .ok b := by
  cases x <;> simp

@[simp] theorem raise_bind (s : State) (e : Exc) (f : α → Res β) :
    ((raise s e : Res α) >>= f) = (raise s e : Res β) := rfl

@[simp] theorem raiseIf_false (s : State) (e : Exc) : raiseIf false s e = .ok () := rfl

@[simp] theorem raiseIf_true (s : State) (e : Exc) : raiseIf true s e = raise s e := rfl

/-- A check passes exactly when its condition is false. -/
theorem raiseIf_eq_ok {c : Bool} {s : State} {e : Exc} {u : Unit} : raiseIf c s e = .ok u ↔ c = false := by
  cases c <;> simp [raise]

@[simp] theorem raise_ne_ok (s : State) (e : Exc) (a : α) : ¬ (raise s e : Res α) = .ok a := by
  simp [raise]

/-- An access check passes exactly when the access has no fault. -/
theorem checkAccess_eq_ok {s : State} {r : SegReg} {off : Word} {n : Nat} {w : Bool} {u : Unit} :
    s.checkAccess r off n w = .ok u ↔ s.accessFault r off n w = none := by
  unfold State.checkAccess
  split <;> simp [*]

end Sys2Proof.Machine
end

