-- ==== Sys2Proof/Laws/Ops.lean ====
section
/-! SUPPORT. What each shared operation changes, said once: `Touches s t dest stored` says that `t` differs
from `s` at most in the registers and memory bytes named, the flags, the draws, the record of calls and
the noted effective address. -/

namespace Sys2Proof.Machine

structure Touches (s t : State) (dest : List Reg16) (stored : List Nat) : Prop where
  regs         : ∀ r, r ∉ dest → t.reg r = s.reg r
  memory       : ∀ a, a ∉ stored → Memory.read t.mem a = Memory.read s.mem a
  live         : t.live = s.live
  sys          : t.sys = s.sys
  intFlags     : t.intFlags = s.intFlags
  cfg          : t.cfg = s.cfg
  a20          : t.a20 = s.a20
  blocks       : t.blocks = s.blocks
  status       : t.status = s.status
  handlerEntry : t.handlerEntry = s.handlerEntry
  ip           : t.ip = s.ip
  queue        : t.queue = s.queue
  segs         : t.segs = s.segs
  nointr       : t.nointr = s.nointr
  rep          : t.rep = s.rep
  host         : { t.host with calls := s.host.calls } = s.host
  override     : t.scratch.override = s.scratch.override
  repeats      : t.scratch.rep = s.scratch.rep

theorem Touches.refl (s : State) : Touches s s [] [] := by
  constructor <;> first | rfl | (intros; rfl)

theorem Touches.trans {s t u : State} {d d' : List Reg16} {a a' : List Nat} (h : Touches s t d a)
    (k : Touches t u d' a') : Touches s u (d ++ d') (a ++ a') where
  regs r hr := by
    simp only [List.mem_append, not_or] at hr
    rw [k.regs r hr.2, h.regs r hr.1]
  memory x hx := by
    simp only [List.mem_append, not_or] at hx
    rw [k.memory x hx.2, h.memory x hx.1]
  live := k.live.trans h.live
  sys := k.sys.trans h.sys
  intFlags := k.intFlags.trans h.intFlags
  cfg := k.cfg.trans h.cfg
  a20 := k.a20.trans h.a20
  blocks := k.blocks.trans h.blocks
  status := k.status.trans h.status
  handlerEntry := k.handlerEntry.trans h.handlerEntry
  ip := k.ip.trans h.ip
  queue := k.queue.trans h.queue
  segs := k.segs.trans h.segs
  nointr := k.nointr.trans h.nointr
  rep := k.rep.trans h.rep
  host :=
    calc ({ u.host with calls := s.host.calls } : HostSide)
        = { ({ u.host with calls := t.host.calls } : HostSide) with calls := s.host.calls } := rfl
      _ = { t.host with calls := s.host.calls } := by rw [k.host]
      _ = s.host := h.host
  override := k.override.trans h.override
  repeats := k.repeats.trans h.repeats

/-- More registers and bytes may be named than change. -/
theorem Touches.mono {s t : State} {d d' : List Reg16} {a a' : List Nat} (h : Touches s t d a) (hd : d ⊆ d')
    (ha : a ⊆ a') : Touches s t d' a' :=
  { h with
    regs := fun r hr => h.regs r fun m => hr (hd m)
    memory := fun x hx => h.memory x fun m => hx (ha m) }

/-- What completes with `Touches` has its frame. -/
theorem Touches.frame {s t : State} {d : List Reg16} {a : List Nat} (h : Touches s t d a) :
    Frame s (s.latchTrap t) d a where
  regs r hr := by simpa [State.reg] using h.regs r hr
  memory x hx := by simpa using h.memory x hx
  live := by simp [h.live]
  sys := by simp [h.sys]
  events := by
    unfold State.latchTrap State.latched
    cases e : s.tf <;> simp [h.intFlags]
  fixed := by simp [h.cfg, h.a20, h.blocks, h.status, h.handlerEntry]
  ip := by simp [h.ip]
  queue := by simp [h.queue]
  segs := by simp [h.segs]
  nointr := by simp [h.nointr]
  rep := by simp [h.rep]
  host := by simpa using h.host

/-- A change of the flags, the draws, the calls or the noted address. -/
theorem Touches.quiet {s t : State} (h : t = { s with
    triple := t.triple, draws := t.draws, host := { s.host with calls := t.host.calls },
    scratch := { s.scratch with ea := t.scratch.ea, eaWrite := t.scratch.eaWrite } }) : Touches s t [] [] := by
  rw [h]
  constructor <;> first | rfl | (intros; rfl)

theorem touches_noteEa (s : State) (w : Word) : Touches s (s.noteEa w) [] [] := .quiet rfl

theorem touches_noteWrite (s : State) (w : Word) : Touches s (s.noteWrite w) [] [] := .quiet rfl

theorem touches_setTriple (s : State) (t : FlagTriple) : Touches s (s.setTriple t) [] [] := .quiet rfl

theorem touches_drawn (s : State) : Touches s s.drawn [] [] := .quiet rfl

theorem touches_note (s : State) (e : BusEvent) : Touches s (s.note e) [] [] := .quiet rfl

theorem touches_setReg (s : State) (r : Reg16) (v : Word) : Touches s (s.setReg r v) [r] [] := by
  constructor <;> first | rfl | skip
  · intro q hq
    simp only [List.mem_singleton] at hq
    simp [State.reg, Regs.get_set, hq]
  · intros; rfl

theorem touches_setReg8 (s : State) (r : Reg8) (v : Byte) : Touches s (s.setReg8 r v) [reg8Word r] [] :=
  touches_setReg s _ _

theorem touches_busRead8 (s : State) (p : Nat) : Touches s (s.busRead8 p).2 [] [] := by
  unfold State.busRead8
  split
  · exact .refl s
  · exact .refl s
  · exact .refl s
  · exact .quiet rfl

theorem touches_busReadBytes (s : State) (p q : Nat) : Touches s (s.busReadBytes p q).2 [] [] :=
  (touches_busRead8 s p).trans (touches_busRead8 _ q)

theorem touches_busRead16 (s : State) (p : Nat) : Touches s (s.busRead16 p).2 [] [] := by
  unfold State.busRead16
  split
  · exact touches_busReadBytes s _ _
  · split
    · exact .refl s
    · exact .refl s
    · exact .refl s
    · exact .quiet rfl

theorem touches_segGet16 (s : State) (r : SegReg) (off : Word) : Touches s (s.segGet16 r off).2 [] [] := by
  unfold State.segGet16
  split
  · exact touches_busReadBytes s _ _
  · exact touches_busRead16 s _

theorem touches_busWrite8 (s : State) (p : Nat) (v : Byte) : Touches s (s.busWrite8 p v) [] [p] := by
  unfold State.busWrite8
  split
  · constructor <;> first | rfl | (intros; rfl) | skip
    intro a ha
    simp only [List.mem_singleton] at ha
    simp [Memory.read_write, ha]
  · exact (Touches.refl s).mono (by simp) (by simp)
  · exact (Touches.refl s).mono (by simp) (by simp)
  · exact (touches_note s _).mono (by simp) (by simp)

theorem touches_busWriteBytes (s : State) (p q : Nat) (v : Word) : Touches s (s.busWriteBytes p q v) [] [p, q] :=
  (touches_busWrite8 s p _).trans (touches_busWrite8 _ q _)

/-! ## What checks and addresses depend on -/

theorem Touches.protectedMode {s t : State} {d : List Reg16} {a : List Nat} (h : Touches s t d a) :
    t.protectedMode = s.protectedMode := by
  simp [State.protectedMode, State.cls, h.cfg, h.sys]

theorem Touches.seg {s t : State} {d : List Reg16} {a : List Nat} (h : Touches s t d a) (r : SegReg) :
    t.seg r = s.seg r := by simp [State.seg, h.segs]

theorem Touches.accessFault {s t : State} {d : List Reg16} {a : List Nat} (h : Touches s t d a) (r : SegReg)
    (off : Word) (n : Nat) (w : Bool) : t.accessFault r off n w = s.accessFault r off n w := by
  simp [State.accessFault, State.cls, h.cfg, h.protectedMode, h.seg]

theorem Touches.phys {s t : State} {d : List Reg16} {a : List Nat} (h : Touches s t d a) (l : BitVec 32) :
    t.phys l = s.phys l := by
  simp [State.phys, State.addrMask, State.cls, h.cfg, h.a20]

theorem Touches.segAddr {s t : State} {d : List Reg16} {a : List Nat} (h : Touches s t d a) (r : SegReg) (off : Word) :
    t.segAddr r off = s.segAddr r off := by
  simp [State.segAddr, h.phys, h.seg]

theorem Touches.kindAt {s t : State} {d : List Reg16} {a : List Nat} (h : Touches s t d a) (p : Nat) :
    t.kindAt p = s.kindAt p := by
  simp [State.kindAt, h.cfg, h.blocks]

theorem Touches.wordAddrs {s t : State} {d : List Reg16} {a : List Nat} (h : Touches s t d a) (r : SegReg)
    (off : Word) : t.wordAddrs r off = s.wordAddrs r off := by
  simp [State.wordAddrs, State.wrapAddr, State.lastOfBlock, State.physNext, State.cls, h.segAddr, h.phys, h.cfg, h.seg]

theorem Touches.ea {s t : State} {a : List Nat} (h : Touches s t [] a) (m : MemRef) : t.ea m = s.ea m := by
  have e : t.regs = s.regs := by
    have := h.regs
    cases ht : t.regs; cases hs : s.regs
    simp only [State.reg, ht, hs] at this
    have q := fun r => this r (by simp)
    have := q .ax; have := q .cx; have := q .dx; have := q .bx
    have := q .sp; have := q .bp; have := q .si; have := q .di
    simp_all [Regs.get]
  cases m <;> simp [State.ea, e]

theorem Touches.opSeg {s t : State} {d : List Reg16} {a : List Nat} (h : Touches s t d a) (m : MemRef) :
    t.opSeg m = s.opSeg m := by
  simp [State.opSeg, State.segOr, h.override]

/-! ## Where the bytes of a word lie -/

theorem addrMask_low (s : State) : s.addrMask.toNat % 65536 = 65535 := by
  unfold State.addrMask
  split <;> rfl

theorem phys_mod (s : State) (l : BitVec 32) : s.phys l % 65536 = l.toNat % 65536 := by
  have e := Nat.and_mod_two_pow (a := l.toNat) (b := s.addrMask.toNat) (n := 16)
  rw [show (2 : Nat) ^ 16 = 65536 from rfl, addrMask_low] at e
  rw [State.phys, BitVec.toNat_and, e, show (65535 : Nat) = 2 ^ 16 - 1 from rfl, Nat.and_two_pow_sub_one_eq_mod]
  omega

theorem linear_toNat (c : SegCache) (off : Word) : (c.linear off).toNat = c.base.toNat + off.toNat := by
  have := c.base.isLt
  have := off.isLt
  simp only [SegCache.linear, BitVec.toNat_add, BitVec.toNat_setWidth]
  omega

theorem segAddr_mod (s : State) (r : SegReg) (off : Word) :
    s.segAddr r off % 65536 = ((s.seg r).base.toNat + off.toNat) % 65536 := by
  rw [State.segAddr, phys_mod, linear_toNat]

theorem physNext_mod (s : State) (p : Nat) : s.physNext p % 65536 = (p + 1) % 65536 := by
  rw [State.physNext, phys_mod, BitVec.toNat_ofNat]
  omega

/-- The second byte of a word lies one past the first, modulo 2^16. -/
theorem wordAddrs_mod (s : State) (r : SegReg) (off : Word) :
    (s.wordAddrs r off).2 % 65536 = ((s.seg r).base.toNat + off.toNat + 1) % 65536 := by
  unfold State.wordAddrs
  have a := segAddr_mod s r off
  dsimp only
  split
  · rename_i h
    subst h
    unfold State.wrapAddr
    have b := (s.seg r).base.isLt
    split
    · rw [segAddr_mod]; simp; omega
    all_goals
      rw [phys_mod, BitVec.toNat_add, BitVec.toNat_setWidth]
      simp
      omega
  · split
    · rw [physNext_mod]; omega
    · omega

theorem wordAddrs_ne (s : State) (r : SegReg) (off : Word) : (s.wordAddrs r off).1 ≠ (s.wordAddrs r off).2 := by
  intro e
  have a := segAddr_mod s r off
  have b := wordAddrs_mod s r off
  rw [← e] at b
  have : (s.wordAddrs r off).1 = s.segAddr r off := rfl
  omega

/-! ## Storing a word -/

theorem kindAt_succ {s : State} {p : Nat} (h : s.lastOfBlock p = false) : s.kindAt (p + 1) = s.kindAt p := by
  have e : (p + 1) >>> s.cfg.blockShift = p >>> s.cfg.blockShift := by
    simp only [State.lastOfBlock, beq_eq_false_iff_ne, ne_eq] at h
    rw [Nat.shiftRight_eq_div_pow, Nat.shiftRight_eq_div_pow]
    have pos : 0 < 2 ^ s.cfg.blockShift := Nat.two_pow_pos _
    generalize 2 ^ s.cfg.blockShift = b at *
    have m := Nat.mod_lt p pos
    have d := Nat.div_add_mod p b
    rw [Nat.div_eq_iff pos]
    have c : b * (p / b) = p / b * b := Nat.mul_comm _ _
    omega
  simp [State.kindAt, e]

theorem holdsByte_busWrite8 (s : State) (p : Nat) (v : Byte) : s.holdsByte (s.busWrite8 p v) p v := by
  intro h
  simp [State.busWrite8, h, Memory.read_write]

theorem bytes_of_busWriteBytes {s : State} {p q : Nat} (ne : p ≠ q) (v : Word) :
    s.holdsByte (s.busWriteBytes p q v) p (loByte v) ∧ s.holdsByte (s.busWriteBytes p q v) q (hiByte v) := by
  constructor
  · intro h
    have e := (touches_busWrite8 (s.busWrite8 p (loByte v)) q (hiByte v)).memory p (by simpa using ne)
    rw [State.busWriteBytes, e]
    exact holdsByte_busWrite8 s p _ h
  · intro h
    exact holdsByte_busWrite8 _ q _ (by rw [(touches_busWrite8 s p _).kindAt]; exact h)

/-- What storing a word at an offset of a segment does. -/
theorem segPut16_spec (s : State) (r : SegReg) (off v : Word) :
    Touches s (s.segPut16 r off v) [] (s.storedWord r off) ∧ s.holdsWord (s.segPut16 r off v) r off v := by
  have ne := wordAddrs_ne s r off
  unfold State.segPut16 State.storedWord State.holdsWord
  unfold State.wordAddrs at *
  dsimp only at *
  split
  · rename_i h
    simp only [h, if_true] at *
    exact ⟨touches_busWriteBytes s _ _ v, bytes_of_busWriteBytes ne v⟩
  · rename_i h
    simp only [h, if_false] at *
    unfold State.busWrite16
    split
    · rename_i l
      simp only [l, if_true] at *
      exact ⟨touches_busWriteBytes s _ _ v, bytes_of_busWriteBytes ne v⟩
    · rename_i l
      simp only [Bool.not_eq_true] at l
      have k := kindAt_succ l
      simp only [l, Bool.false_eq_true, if_false] at *
      split
      · rename_i e
        refine ⟨?_, ?_, ?_⟩
        · constructor <;> first | rfl | (intros; rfl) | skip
          intro a ha
          simp only [List.mem_cons, List.not_mem_nil, or_false, not_or] at ha
          simp [Memory.read_write, ha]
        · intro _; simp [Memory.read_write]
        · intro _; simp [Memory.read_write]
      · rename_i e
        exact ⟨(Touches.refl s).mono (by simp) (by simp), by intro x; simp [e] at x, by intro x; simp [k, e] at x⟩
      · rename_i e
        exact ⟨(Touches.refl s).mono (by simp) (by simp), by intro x; simp [e] at x, by intro x; simp [k, e] at x⟩
      · rename_i e
        exact ⟨(touches_note s _).mono (by simp) (by simp), by intro x; simp [e] at x, by intro x; simp [k, e] at x⟩

/-! ## The E operand -/

theorem touches_afterEw (s : State) (e : RM Reg16) : Touches s (s.afterEw e) [] [] := by
  cases e with
  | reg r => exact .refl s
  | mem m => exact (touches_noteEa s _).trans (touches_segGet16 _ _ _)

theorem noteEa_busRead8 (s : State) (w : Word) (p : Nat) : ((s.noteEa w).busRead8 p).1 = (s.busRead8 p).1 := by
  unfold State.busRead8
  rw [(touches_noteEa s w).kindAt]
  split <;> rfl

theorem noteEa_segGet16 (s : State) (w : Word) (r : SegReg) (off : Word) :
    ((s.noteEa w).segGet16 r off).1 = (s.segGet16 r off).1 := by
  have k := (touches_noteEa s w).kindAt
  have l : ∀ p, (s.noteEa w).lastOfBlock p = s.lastOfBlock p := fun _ => rfl
  have n : ∀ p, (s.noteEa w).physNext p = s.physNext p := fun _ => rfl
  have two : ∀ p q, ((s.noteEa w).busReadBytes p q).1 = (s.busReadBytes p q).1 := by
    intro p q
    have e : ((s.noteEa w).busRead8 p).2 = ((s.busRead8 p).2).noteEa w := by
      unfold State.busRead8
      rw [k]
      split <;> rfl
    simp only [State.busReadBytes, noteEa_busRead8, e]
  have one : ∀ p, ((s.noteEa w).busRead16 p).1 = (s.busRead16 p).1 := by
    intro p
    unfold State.busRead16
    rw [l, n, k]
    split
    · exact two _ _
    · split <;> rfl
  unfold State.segGet16
  split
  · exact two _ _
  · exact one _

/-- Reading a byte E operand that can be read. -/
theorem readEb_ok {s : State} {e : RM Reg8} (h : s.canReadEb e) :
    ∃ t, s.readEb e = .ok (s.valueEb e, t) ∧ t.triple = s.triple ∧ Touches s t [] [] := by
  cases e with
  | reg r => exact ⟨s, rfl, rfl, .refl s⟩
  | mem m =>
    refine ⟨((s.noteEa (s.ea m)).busRead8 (s.segAddr (s.opSeg m) (s.ea m))).2, ?_, ?_,
      (touches_noteEa s (s.ea m)).trans (touches_busRead8 _ _)⟩
    · have c : (s.noteEa (s.ea m)).checkAccess (s.opSeg m) (s.ea m) 0 false = .ok () := by
        rw [checkAccess_eq_ok, (touches_noteEa s _).accessFault]
        exact h
      simp only [State.readEb, State.segRead8, c, ok_bind, State.valueEb, pure_eq_ok]
      rw [← noteEa_busRead8 s (s.ea m), (touches_noteEa s _).segAddr]
    · simp

/-- Reading a word E operand that can be read. -/
theorem readEw_ok {s : State} {e : RM Reg16} (h : s.canReadEw e) : s.readEw e = .ok (s.valueEw e, s.afterEw e) := by
  cases e with
  | reg r => rfl
  | mem m =>
    have c : (s.noteEa (s.ea m)).checkAccess (s.opSeg m) (s.ea m) 1 false = .ok () := by
      rw [checkAccess_eq_ok, (touches_noteEa s _).accessFault]
      exact h
    simp only [State.readEw, State.segRead16, c, ok_bind, State.valueEw, State.afterEw, pure_eq_ok]
    rw [← noteEa_segGet16 s (s.ea m)]

@[simp] theorem afterEw_triple (s : State) (e : RM Reg16) : (s.afterEw e).triple = s.triple := by
  cases e <;> simp [State.afterEw]

@[simp] theorem reg_setReg_same (s : State) (r : Reg16) (v : Word) : (s.setReg r v).reg r = v := by
  simp [State.reg]

@[simp] theorem reg8_setReg8_same (s : State) (r : Reg8) (v : Byte) : (s.setReg8 r v).reg8 r = v := by
  cases r <;> simp [State.reg8, State.setReg8, reg8High, reg8Word]

/-- A write of a byte register leaves the others (10 R22). -/
theorem reg8_setReg8_ne (s : State) {r q : Reg8} (h : q ≠ r) (v : Byte) : (s.setReg8 r v).reg8 q = s.reg8 q := by
  cases r <;> cases q <;>
    first
    | exact absurd rfl h
    | simp [State.reg8, State.setReg8, reg8High, reg8Word, State.reg, Regs.get_set]

/-- The byte registers of two states with the same word registers. -/
theorem Touches.reg8 {s t : State} {a : List Nat} (h : Touches s t [] a) (r : Reg8) : t.reg8 r = s.reg8 r := by
  simp [State.reg8, h.regs]

/-- Writing a byte E operand that can be written. -/
theorem writeEb_ok {s : State} {e : RM Reg8} (h : s.canWriteEb e) (v : Byte) :
    ∃ t, s.writeEb e v = .ok t ∧ t.triple = s.triple ∧ Touches s t ((destEb e).map reg8Word) (s.storedEb e) ∧
      s.holdsEb t v e ∧ ∀ r, r ∉ destEb e → t.reg8 r = s.reg8 r := by
  cases e with
  | reg r =>
    refine ⟨_, rfl, rfl, touches_setReg8 s r v, reg8_setReg8_same s r v, fun q hq => ?_⟩
    simp only [destEb, List.mem_singleton] at hq
    exact reg8_setReg8_ne s hq v
  | mem m =>
    have n := (touches_noteEa s (s.ea m)).trans (touches_noteWrite _ (s.ea m))
    have c : ((s.noteEa (s.ea m)).noteWrite (s.ea m)).checkAccess (s.opSeg m) (s.ea m) 0 true = .ok () := by
      rw [checkAccess_eq_ok, n.accessFault]
      exact h
    have k := n.trans (touches_busWrite8 _ (s.segAddr (s.opSeg m) (s.ea m)) v)
    refine ⟨_, ?_, ?_, k, ?_, fun q _ => k.reg8 q⟩
    · simp only [State.writeEb, State.segWrite8, c, ok_bind, pure_eq_ok]
      rw [n.segAddr]
    · simp
    · intro ram
      exact holdsByte_busWrite8 _ _ v (by rw [n.kindAt]; exact ram)

/-- Writing a word E operand that can be written. -/
theorem writeEw_ok {s : State} {e : RM Reg16} (h : s.canWriteEw e) (v : Word) :
    ∃ t, s.writeEw e v = .ok t ∧ t.triple = s.triple ∧ Touches s t (destEw e) (s.storedEw e) ∧ s.holdsEw t v e := by
  cases e with
  | reg r => exact ⟨_, rfl, rfl, touches_setReg s r v, reg_setReg_same s r v⟩
  | mem m =>
    have n := (touches_noteEa s (s.ea m)).trans (touches_noteWrite _ (s.ea m))
    have c : ((s.noteEa (s.ea m)).noteWrite (s.ea m)).checkAccess (s.opSeg m) (s.ea m) 1 true = .ok () := by
      rw [checkAccess_eq_ok, n.accessFault]
      exact h
    have p := segPut16_spec ((s.noteEa (s.ea m)).noteWrite (s.ea m)) (s.opSeg m) (s.ea m) v
    refine ⟨((s.noteEa (s.ea m)).noteWrite (s.ea m)).segPut16 (s.opSeg m) (s.ea m) v, ?_, ?_, ?_, ?_⟩
    · simp only [State.writeEw, State.segWrite16, c, ok_bind, pure_eq_ok]
    · simp
    · have q := n.trans p.1
      simpa only [State.storedEw, State.storedWord, destEw, n.wordAddrs, List.nil_append] using q
    · have q := p.2
      simpa only [State.holdsEw, State.holdsWord, State.holdsByte, n.wordAddrs, n.kindAt] using q

/-! ## The stack -/

/-- A push that its access check allows. -/
theorem push16_ok {s : State} (h : s.accessFault .ss (s.regs.sp - 2) 1 true = none) (v : Word) :
    ∃ t, s.push16 v = .ok t ∧ t.triple = s.triple ∧ t.regs.sp = s.regs.sp - 2 ∧
      Touches s t [.sp] (s.storedWord .ss (s.regs.sp - 2)) ∧ s.holdsWord t .ss (s.regs.sp - 2) v := by
  have c := checkAccess_eq_ok (s := s) (u := ()) |>.mpr h
  have p := segPut16_spec s .ss (s.regs.sp - 2) v
  refine ⟨_, ?_, ?_, ?_, (p.1.trans (touches_setReg _ .sp (s.regs.sp - 2))).mono (by simp) (by simp), p.2⟩
  · simp only [State.push16, State.segWrite16, c, ok_bind, pure_eq_ok]
  · simp
  · simp [Regs.set]

/-- A pop that its access check allows. -/
theorem pop16_ok {s : State} (h : s.accessFault .ss s.regs.sp 1 false = none) :
    s.pop16 = .ok ((s.segGet16 .ss s.regs.sp).1, (s.segGet16 .ss s.regs.sp).2.setReg .sp (s.regs.sp + 2)) := by
  have c := checkAccess_eq_ok (s := s) (u := ()) |>.mpr h
  simp only [State.pop16, State.segRead16, c, ok_bind, pure_eq_ok]

/-- What a step that raises does: `exec` answers a next state, with the exception taken. -/
theorem finish_error (s : State) (r : Raise) : s.finish (.error r) = .next (s.deliverRaise r) := rfl

theorem finish_ok (s t : State) : s.finish (.ok t) = .next (s.latchTrap t) := rfl

end Sys2Proof.Machine
end

