-- ==== Sys2Proof/Laws/Flags.lean ====
section
/-! SUPPORT. The flags the records of the lazy flag set derive are the arithmetic ones (10_state.md R30 to R36). -/

namespace Sys2Proof.Machine

/-! ## Bits -/

theorem getLsbD_nat {n : Nat} (v : BitVec n) (k : Nat) : v.getLsbD k = decide (v.toNat / 2 ^ k % 2 = 1) := by
  rw [BitVec.getLsbD, Nat.testBit_eq_decide_div_mod_eq]

theorem and_bit {n : Nat} (v : BitVec n) (k : Nat) (h : k < n) : ((v &&& BitVec.twoPow n k) != 0) = v.getLsbD k := by
  rw [BitVec.and_twoPow]
  cases v.getLsbD k
  · simp
  · simp only [if_true]
    have e : (BitVec.twoPow n k).getLsbD k = true := by simp [h]
    rw [bne_iff_ne]
    intro z
    rw [z] at e
    simp at e

theorem and_low {n : Nat} (v : BitVec n) (k : Nat) (h : k < n) :
    ((v &&& (BitVec.twoPow n k - 1)) == 0) = decide (v.toNat % 2 ^ k = 0) := by
  rw [Bool.eq_iff_iff, beq_iff_eq, decide_eq_true_eq, ← BitVec.toNat_inj, BitVec.toNat_and, BitVec.toNat_sub]
  have p := Nat.pow_lt_pow_right (a := 2) (by omega) h
  have q := Nat.two_pow_pos k
  have e : (BitVec.twoPow n k).toNat = 2 ^ k := by
    rw [BitVec.toNat_twoPow, Nat.mod_eq_of_lt p]
  have o : (1 : BitVec n).toNat = 1 := by
    rw [show (1 : BitVec n) = BitVec.ofNat n 1 from rfl, BitVec.toNat_ofNat, Nat.mod_eq_of_lt]
    omega
  rw [e, o, show 2 ^ n - 1 + 2 ^ k = 2 ^ n + (2 ^ k - 1) from by omega, Nat.add_mod_left,
    Nat.mod_eq_of_lt (a := 2 ^ k - 1) (by omega), Nat.and_two_pow_sub_one_eq_mod]
  rfl

theorem parity8_eq {n : Nat} (v : BitVec n) : parity8 v = evenOnes v := by
  unfold parity8 evenOnes
  simp only [show List.range 8 = [0, 1, 2, 3, 4, 5, 6, 7] from rfl, List.countP_cons, List.countP_nil]
  cases v.getLsbD 0 <;> cases v.getLsbD 1 <;> cases v.getLsbD 2 <;> cases v.getLsbD 3 <;>
    cases v.getLsbD 4 <;> cases v.getLsbD 5 <;> cases v.getLsbD 6 <;> cases v.getLsbD 7 <;> rfl

theorem evenOnes_congr {n m : Nat} {v : BitVec n} {w : BitVec m} (h : ∀ k < 8, v.getLsbD k = w.getLsbD k) :
    evenOnes v = evenOnes w := by
  unfold evenOnes
  have e : (List.range 8).countP (fun k => v.getLsbD k) = (List.range 8).countP (fun k => w.getLsbD k) := by
    apply List.countP_congr
    intro k hk
    rw [h k (List.mem_range.mp hk)]
  rw [e]

/-! ## The derivation, bit by bit (10 R30) -/

theorem flags_byte {v p a : BitVec 17} :
    ({ value := v, paritySign := p, auxOverflow := a, size := .byte } : FlagTriple).flags =
      { cf := v.getLsbD 8, zf := decide (v.toNat % 256 = 0), sf := p.getLsbD 7, pf := evenOnes p,
        af := p.getLsbD 4 ^^ a.getLsbD 4, of := p.getLsbD 7 ^^ a.getLsbD 7 ^^ p.getLsbD 8 } := by
  have h1 := and_bit v 8 (by omega)
  have h2 := and_low v 8 (by omega)
  have h3 := and_bit p 7 (by omega)
  have h4 := and_bit (p ^^^ a) 4 (by omega)
  have h5 := and_bit (p ^^^ a ^^^ (p >>> 1)) 7 (by omega)
  simp only [FlagTriple.flags, Flags.mk.injEq]
  refine ⟨h1, parity8_eq p, ?_, h2, h3, ?_⟩
  · exact h4.trans (BitVec.getLsbD_xor ..)
  · rw [show (ResultSize.byte.bit >>> 1 : BitVec 17) = BitVec.twoPow 17 7 from rfl, h5]
    simp

theorem flags_word {v p a : BitVec 17} :
    ({ value := v, paritySign := p, auxOverflow := a, size := .word } : FlagTriple).flags =
      { cf := v.getLsbD 16, zf := decide (v.toNat % 65536 = 0), sf := p.getLsbD 15, pf := evenOnes p,
        af := p.getLsbD 4 ^^ a.getLsbD 4, of := p.getLsbD 15 ^^ a.getLsbD 15 ^^ p.getLsbD 16 } := by
  have h1 := and_bit v 16 (by omega)
  have h2 := and_low v 16 (by omega)
  have h3 := and_bit p 15 (by omega)
  have h4 := and_bit (p ^^^ a) 4 (by omega)
  have h5 := and_bit (p ^^^ a ^^^ (p >>> 1)) 15 (by omega)
  simp only [FlagTriple.flags, Flags.mk.injEq]
  refine ⟨h1, parity8_eq p, ?_, h2, h3, ?_⟩
  · exact h4.trans (BitVec.getLsbD_xor ..)
  · rw [show (ResultSize.word.bit >>> 1 : BitVec 17) = BitVec.twoPow 17 15 from rfl, h5]
    simp

/-! ## Addition and subtraction (10 R32, R33) -/

/-- Two bits and a carry: XOR of bits is the parity of a sum. -/
theorem xor_odd (a b : Nat) : (decide (a % 2 = 1) ^^ decide (b % 2 = 1)) = decide ((a + b) % 2 = 1) := by
  rcases Nat.mod_two_eq_zero_or_one a with h | h <;> rcases Nat.mod_two_eq_zero_or_one b with k | k <;>
    simp [h, k] <;> omega

theorem carryBit_toNat (c : Bool) : (carryBit c).toNat = c.toNat := by cases c <;> rfl

theorem toNat_le_one (c : Bool) : c.toNat ≤ 1 := by cases c <;> decide

theorem low_bit {m n : Nat} {s : BitVec m} {t : BitVec n} (h : t.toNat = s.toNat % 2 ^ n) {k : Nat} (hk : k < n) :
    s.getLsbD k = t.getLsbD k := by
  rw [getLsbD_nat, getLsbD_nat, h, show (2 : Nat) ^ n = 2 ^ k * 2 ^ (n - k) by rw [← Nat.pow_add, Nat.add_sub_cancel' hk.le],
    Nat.mod_mul_right_div_self, Nat.mod_mod_of_dvd _ (dvd_pow_self 2 (by omega))]

theorem bit_xor {n : Nat} {d x : BitVec n} {k : Nat} (h : k < 17) :
    ((d ^^^ x).setWidth 17).getLsbD k = (d.getLsbD k ^^ x.getLsbD k) := by
  rw [BitVec.getLsbD_setWidth, BitVec.getLsbD_xor, decide_eq_true h, Bool.true_and]

theorem addTriple_byte (d x : BitVec 8) (c : Bool) : (addTriple .byte d x c).flags = addFlags d x c := by
  have dl := d.isLt
  have xl := x.isLt
  have cl := toNat_le_one c
  have r : (d.setWidth 17 + x.setWidth 17 + carryBit c : BitVec 17).toNat = d.toNat + x.toNat + c.toNat := by
    simp only [BitVec.toNat_add, BitVec.toNat_setWidth, carryBit_toNat]; omega
  have q : (d + x + carryIn 8 c : BitVec 8).toNat = (d.toNat + x.toNat + c.toNat) % 256 := by
    simp only [BitVec.toNat_add, carryIn, BitVec.toNat_ofNat]; omega
  unfold addTriple
  rw [flags_byte]
  simp only [addFlags, Flags.mk.injEq]
  generalize (d.setWidth 17 + x.setWidth 17 + carryBit c : BitVec 17) = s at *
  generalize (d + x + carryIn 8 c : BitVec 8) = t at *
  have bit : ∀ k, k < 8 → s.getLsbD k = t.getLsbD k := fun k hk => low_bit (n := 8) (by rw [r, q]; omega) hk
  refine ⟨?_, evenOnes_congr fun k hk => bit k (by omega), ?_, ?_, ?_, ?_⟩
  · rw [getLsbD_nat, r]; apply decide_eq_decide.mpr; omega
  · rw [bit_xor (by omega), getLsbD_nat, getLsbD_nat, getLsbD_nat, r, xor_odd, xor_odd]
    apply decide_eq_decide.mpr; omega
  · rw [Bool.eq_iff_iff, decide_eq_true_eq, beq_iff_eq, ← BitVec.toNat_inj, r, q]; rfl
  · rw [bit 7 (by omega), BitVec.msb_eq_getLsbD_last]
  · rw [bit_xor (by omega), getLsbD_nat, getLsbD_nat, getLsbD_nat, getLsbD_nat, r, xor_odd, xor_odd, xor_odd]
    rw [Bool.eq_iff_iff, decide_eq_true_eq, bne_iff_ne, BitVec.toInt_eq_toNat_cond, BitVec.toInt_eq_toNat_cond,
      BitVec.toInt_eq_toNat_cond, q]
    split <;> split <;> split <;> omega

theorem addTriple_word (d x : BitVec 16) (c : Bool) : (addTriple .word d x c).flags = addFlags d x c := by
  have dl := d.isLt
  have xl := x.isLt
  have cl := toNat_le_one c
  have r : (d.setWidth 17 + x.setWidth 17 + carryBit c : BitVec 17).toNat = d.toNat + x.toNat + c.toNat := by
    simp only [BitVec.toNat_add, BitVec.toNat_setWidth, carryBit_toNat]; omega
  have q : (d + x + carryIn 16 c : BitVec 16).toNat = (d.toNat + x.toNat + c.toNat) % 65536 := by
    simp only [BitVec.toNat_add, carryIn, BitVec.toNat_ofNat]; omega
  unfold addTriple
  rw [flags_word]
  simp only [addFlags, Flags.mk.injEq]
  generalize (d.setWidth 17 + x.setWidth 17 + carryBit c : BitVec 17) = s at *
  generalize (d + x + carryIn 16 c : BitVec 16) = t at *
  have bit : ∀ k, k < 16 → s.getLsbD k = t.getLsbD k := fun k hk => low_bit (n := 16) (by rw [r, q]; omega) hk
  refine ⟨?_, evenOnes_congr fun k hk => bit k (by omega), ?_, ?_, ?_, ?_⟩
  · rw [getLsbD_nat, r]; apply decide_eq_decide.mpr; omega
  · rw [bit_xor (by omega), getLsbD_nat, getLsbD_nat, getLsbD_nat, r, xor_odd, xor_odd]
    apply decide_eq_decide.mpr; omega
  · rw [Bool.eq_iff_iff, decide_eq_true_eq, beq_iff_eq, ← BitVec.toNat_inj, r, q]; rfl
  · rw [bit 15 (by omega), BitVec.msb_eq_getLsbD_last]
  · rw [bit_xor (by omega), getLsbD_nat, getLsbD_nat, getLsbD_nat, getLsbD_nat, r, xor_odd, xor_odd, xor_odd]
    rw [Bool.eq_iff_iff, decide_eq_true_eq, bne_iff_ne, BitVec.toInt_eq_toNat_cond, BitVec.toInt_eq_toNat_cond,
      BitVec.toInt_eq_toNat_cond, q]
    split <;> split <;> split <;> omega

theorem subTriple_byte (d x : BitVec 8) (c : Bool) : (subTriple .byte d x c).flags = subFlags d x c := by
  have dl := d.isLt
  have xl := x.isLt
  have cl := toNat_le_one c
  have r : ((d.setWidth 17 - x.setWidth 17 - carryBit c) &&& ResultSize.mask .byte : BitVec 17).toNat =
      (512 + d.toNat - x.toNat - c.toNat) % 512 := by
    rw [BitVec.toNat_and, show (ResultSize.mask .byte).toNat = 2 ^ 9 - 1 from rfl, Nat.and_two_pow_sub_one_eq_mod]
    simp only [BitVec.toNat_sub, BitVec.toNat_setWidth, carryBit_toNat]; omega
  have q : (d - x - carryIn 8 c : BitVec 8).toNat = (256 + d.toNat + 256 - x.toNat - c.toNat) % 256 := by
    simp only [BitVec.toNat_sub, carryIn, BitVec.toNat_ofNat]; omega
  unfold subTriple
  rw [flags_byte]
  simp only [subFlags, Flags.mk.injEq]
  generalize ((d.setWidth 17 - x.setWidth 17 - carryBit c) &&& ResultSize.mask .byte : BitVec 17) = s at *
  generalize (d - x - carryIn 8 c : BitVec 8) = t at *
  have bit : ∀ k, k < 8 → s.getLsbD k = t.getLsbD k := fun k hk => low_bit (n := 8) (by rw [r, q]; omega) hk
  refine ⟨?_, evenOnes_congr fun k hk => bit k (by omega), ?_, ?_, ?_, ?_⟩
  · rw [getLsbD_nat, r]; apply decide_eq_decide.mpr; omega
  · rw [bit_xor (by omega), getLsbD_nat, getLsbD_nat, getLsbD_nat, r, xor_odd, xor_odd]
    apply decide_eq_decide.mpr; omega
  · rw [Bool.eq_iff_iff, decide_eq_true_eq, beq_iff_eq, ← BitVec.toNat_inj, r, q]
    simp only [BitVec.ofNat_eq_ofNat, BitVec.toNat_ofNat]; omega
  · rw [bit 7 (by omega), BitVec.msb_eq_getLsbD_last]
  · rw [bit_xor (by omega), getLsbD_nat, getLsbD_nat, getLsbD_nat, getLsbD_nat, r, xor_odd, xor_odd, xor_odd]
    rw [Bool.eq_iff_iff, decide_eq_true_eq, bne_iff_ne, BitVec.toInt_eq_toNat_cond, BitVec.toInt_eq_toNat_cond,
      BitVec.toInt_eq_toNat_cond, q]
    split <;> split <;> split <;> omega

theorem subTriple_word (d x : BitVec 16) (c : Bool) : (subTriple .word d x c).flags = subFlags d x c := by
  have dl := d.isLt
  have xl := x.isLt
  have cl := toNat_le_one c
  have r : ((d.setWidth 17 - x.setWidth 17 - carryBit c) &&& ResultSize.mask .word : BitVec 17).toNat =
      (131072 + d.toNat - x.toNat - c.toNat) % 131072 := by
    rw [BitVec.toNat_and, show (ResultSize.mask .word).toNat = 2 ^ 17 - 1 from rfl, Nat.and_two_pow_sub_one_eq_mod]
    simp only [BitVec.toNat_sub, BitVec.toNat_setWidth, carryBit_toNat]; omega
  have q : (d - x - carryIn 16 c : BitVec 16).toNat = (65536 + d.toNat + 65536 - x.toNat - c.toNat) % 65536 := by
    simp only [BitVec.toNat_sub, carryIn, BitVec.toNat_ofNat]; omega
  unfold subTriple
  rw [flags_word]
  simp only [subFlags, Flags.mk.injEq]
  generalize ((d.setWidth 17 - x.setWidth 17 - carryBit c) &&& ResultSize.mask .word : BitVec 17) = s at *
  generalize (d - x - carryIn 16 c : BitVec 16) = t at *
  have bit : ∀ k, k < 16 → s.getLsbD k = t.getLsbD k := fun k hk => low_bit (n := 16) (by rw [r, q]; omega) hk
  refine ⟨?_, evenOnes_congr fun k hk => bit k (by omega), ?_, ?_, ?_, ?_⟩
  · rw [getLsbD_nat, r]; apply decide_eq_decide.mpr; omega
  · rw [bit_xor (by omega), getLsbD_nat, getLsbD_nat, getLsbD_nat, r, xor_odd, xor_odd]
    apply decide_eq_decide.mpr; omega
  · rw [Bool.eq_iff_iff, decide_eq_true_eq, beq_iff_eq, ← BitVec.toNat_inj, r, q]
    simp only [BitVec.ofNat_eq_ofNat, BitVec.toNat_ofNat]; omega
  · rw [bit 15 (by omega), BitVec.msb_eq_getLsbD_last]
  · rw [bit_xor (by omega), getLsbD_nat, getLsbD_nat, getLsbD_nat, getLsbD_nat, r, xor_odd, xor_odd, xor_odd]
    rw [Bool.eq_iff_iff, decide_eq_true_eq, bne_iff_ne, BitVec.toInt_eq_toNat_cond, BitVec.toInt_eq_toNat_cond,
      BitVec.toInt_eq_toNat_cond, q]
    split <;> split <;> split <;> omega

end Sys2Proof.Machine
end

