-- ==== Sys2Proof/Laws/PerInstr.lean ====
section
/-! SUPPORT. One lemma per instruction about its encoding: it is one to six bytes long (30_encoding.md R200). -/

namespace Sys2Proof.Laws.EncodingLength

/-- The encoding of an instruction is one to six bytes long (30 R200). -/
def Statement (i : Instr) : Prop := 1 ≤ (encode i).length ∧ (encode i).length ≤ 6

theorem encodeRM_length (k : BitVec 3) (e : RM (BitVec 3)) :
    1 ≤ (encodeRM k e).length ∧ (encodeRM k e).length ≤ 3 := by
  rcases e with r | ⟨b | d | ⟨b, d⟩ | ⟨b, d⟩⟩ <;> simp [encodeRM, wordBytes]

/-- No ModRM byte. -/
theorem of_list (bytes : List Byte) (h : (decide (1 ≤ bytes.length) && decide (bytes.length ≤ 6)) = true) :
    1 ≤ bytes.length ∧ bytes.length ≤ 6 := by simpa using h

/-- One opcode byte, a ModRM operand and at most two bytes after it. -/
theorem of_modrm (op : Byte) (k : BitVec 3) (e : RM (BitVec 3)) {imm : List Byte} (h : decide (imm.length ≤ 2) = true) :
    1 ≤ (op :: (encodeRM k e ++ imm)).length ∧ (op :: (encodeRM k e ++ imm)).length ≤ 6 := by
  have := encodeRM_length k e
  have := of_decide_eq_true h
  simp only [List.length_cons, List.length_append]
  omega

/-- One opcode byte and a ModRM operand. -/
theorem of_plain (op : Byte) (k : BitVec 3) (e : RM (BitVec 3)) :
    1 ≤ (op :: encodeRM k e).length ∧ (op :: encodeRM k e).length ≤ 6 := by
  have := encodeRM_length k e
  simp only [List.length_cons]
  omega

/-- Two opcode bytes and a ModRM operand. -/
theorem of_ext (a b : Byte) (k : BitVec 3) (e : RM (BitVec 3)) :
    1 ≤ (a :: b :: encodeRM k e).length ∧ (a :: b :: encodeRM k e).length ≤ 6 := by
  have := encodeRM_length k e
  simp only [List.length_cons]
  omega

theorem addEbGb (e : RM Reg8) (g : Reg8) : Statement (.addEbGb e g) := of_plain _ _ _
theorem addEwGw (e : RM Reg16) (g : Reg16) : Statement (.addEwGw e g) := of_plain _ _ _
theorem addGbEb (e : RM Reg8) (g : Reg8) : Statement (.addGbEb e g) := of_plain _ _ _
theorem addGwEw (e : RM Reg16) (g : Reg16) : Statement (.addGwEw e g) := of_plain _ _ _
theorem addAlIb (ib : Byte) : Statement (.addAlIb ib) := of_list _ rfl
theorem addAxIw (iw : Word) : Statement (.addAxIw iw) := of_list _ rfl
theorem addEbIb (op82 : Bool) (e : RM Reg8) (ib : Byte) : Statement (.addEbIb op82 e ib) := of_modrm _ _ _ rfl
theorem addEwIw (e : RM Reg16) (iw : Word) : Statement (.addEwIw e iw) := of_modrm _ _ _ rfl
theorem addEwIbs (e : RM Reg16) (ib : Byte) : Statement (.addEwIbs e ib) := of_modrm _ _ _ rfl
theorem orEbGb (e : RM Reg8) (g : Reg8) : Statement (.orEbGb e g) := of_plain _ _ _
theorem orEwGw (e : RM Reg16) (g : Reg16) : Statement (.orEwGw e g) := of_plain _ _ _
theorem orGbEb (e : RM Reg8) (g : Reg8) : Statement (.orGbEb e g) := of_plain _ _ _
theorem orGwEw (e : RM Reg16) (g : Reg16) : Statement (.orGwEw e g) := of_plain _ _ _
theorem orAlIb (ib : Byte) : Statement (.orAlIb ib) := of_list _ rfl
theorem orAxIw (iw : Word) : Statement (.orAxIw iw) := of_list _ rfl
theorem orEbIb (op82 : Bool) (e : RM Reg8) (ib : Byte) : Statement (.orEbIb op82 e ib) := of_modrm _ _ _ rfl
theorem orEwIw (e : RM Reg16) (iw : Word) : Statement (.orEwIw e iw) := of_modrm _ _ _ rfl
theorem orEwIbs (e : RM Reg16) (ib : Byte) : Statement (.orEwIbs e ib) := of_modrm _ _ _ rfl
theorem adcEbGb (e : RM Reg8) (g : Reg8) : Statement (.adcEbGb e g) := of_plain _ _ _
theorem adcEwGw (e : RM Reg16) (g : Reg16) : Statement (.adcEwGw e g) := of_plain _ _ _
theorem adcGbEb (e : RM Reg8) (g : Reg8) : Statement (.adcGbEb e g) := of_plain _ _ _
theorem adcGwEw (e : RM Reg16) (g : Reg16) : Statement (.adcGwEw e g) := of_plain _ _ _
theorem adcAlIb (ib : Byte) : Statement (.adcAlIb ib) := of_list _ rfl
theorem adcAxIw (iw : Word) : Statement (.adcAxIw iw) := of_list _ rfl
theorem adcEbIb (op82 : Bool) (e : RM Reg8) (ib : Byte) : Statement (.adcEbIb op82 e ib) := of_modrm _ _ _ rfl
theorem adcEwIw (e : RM Reg16) (iw : Word) : Statement (.adcEwIw e iw) := of_modrm _ _ _ rfl
theorem adcEwIbs (e : RM Reg16) (ib : Byte) : Statement (.adcEwIbs e ib) := of_modrm _ _ _ rfl
theorem sbbEbGb (e : RM Reg8) (g : Reg8) : Statement (.sbbEbGb e g) := of_plain _ _ _
theorem sbbEwGw (e : RM Reg16) (g : Reg16) : Statement (.sbbEwGw e g) := of_plain _ _ _
theorem sbbGbEb (e : RM Reg8) (g : Reg8) : Statement (.sbbGbEb e g) := of_plain _ _ _
theorem sbbGwEw (e : RM Reg16) (g : Reg16) : Statement (.sbbGwEw e g) := of_plain _ _ _
theorem sbbAlIb (ib : Byte) : Statement (.sbbAlIb ib) := of_list _ rfl
theorem sbbAxIw (iw : Word) : Statement (.sbbAxIw iw) := of_list _ rfl
theorem sbbEbIb (op82 : Bool) (e : RM Reg8) (ib : Byte) : Statement (.sbbEbIb op82 e ib) := of_modrm _ _ _ rfl
theorem sbbEwIw (e : RM Reg16) (iw : Word) : Statement (.sbbEwIw e iw) := of_modrm _ _ _ rfl
theorem sbbEwIbs (e : RM Reg16) (ib : Byte) : Statement (.sbbEwIbs e ib) := of_modrm _ _ _ rfl
theorem andEbGb (e : RM Reg8) (g : Reg8) : Statement (.andEbGb e g) := of_plain _ _ _
theorem andEwGw (e : RM Reg16) (g : Reg16) : Statement (.andEwGw e g) := of_plain _ _ _
theorem andGbEb (e : RM Reg8) (g : Reg8) : Statement (.andGbEb e g) := of_plain _ _ _
theorem andGwEw (e : RM Reg16) (g : Reg16) : Statement (.andGwEw e g) := of_plain _ _ _
theorem andAlIb (ib : Byte) : Statement (.andAlIb ib) := of_list _ rfl
theorem andAxIw (iw : Word) : Statement (.andAxIw iw) := of_list _ rfl
theorem andEbIb (op82 : Bool) (e : RM Reg8) (ib : Byte) : Statement (.andEbIb op82 e ib) := of_modrm _ _ _ rfl
theorem andEwIw (e : RM Reg16) (iw : Word) : Statement (.andEwIw e iw) := of_modrm _ _ _ rfl
theorem andEwIbs (e : RM Reg16) (ib : Byte) : Statement (.andEwIbs e ib) := of_modrm _ _ _ rfl
theorem subEbGb (e : RM Reg8) (g : Reg8) : Statement (.subEbGb e g) := of_plain _ _ _
theorem subEwGw (e : RM Reg16) (g : Reg16) : Statement (.subEwGw e g) := of_plain _ _ _
theorem subGbEb (e : RM Reg8) (g : Reg8) : Statement (.subGbEb e g) := of_plain _ _ _
theorem subGwEw (e : RM Reg16) (g : Reg16) : Statement (.subGwEw e g) := of_plain _ _ _
theorem subAlIb (ib : Byte) : Statement (.subAlIb ib) := of_list _ rfl
theorem subAxIw (iw : Word) : Statement (.subAxIw iw) := of_list _ rfl
theorem subEbIb (op82 : Bool) (e : RM Reg8) (ib : Byte) : Statement (.subEbIb op82 e ib) := of_modrm _ _ _ rfl
theorem subEwIw (e : RM Reg16) (iw : Word) : Statement (.subEwIw e iw) := of_modrm _ _ _ rfl
theorem subEwIbs (e : RM Reg16) (ib : Byte) : Statement (.subEwIbs e ib) := of_modrm _ _ _ rfl
theorem xorEbGb (e : RM Reg8) (g : Reg8) : Statement (.xorEbGb e g) := of_plain _ _ _
theorem xorEwGw (e : RM Reg16) (g : Reg16) : Statement (.xorEwGw e g) := of_plain _ _ _
theorem xorGbEb (e : RM Reg8) (g : Reg8) : Statement (.xorGbEb e g) := of_plain _ _ _
theorem xorGwEw (e : RM Reg16) (g : Reg16) : Statement (.xorGwEw e g) := of_plain _ _ _
theorem xorAlIb (ib : Byte) : Statement (.xorAlIb ib) := of_list _ rfl
theorem xorAxIw (iw : Word) : Statement (.xorAxIw iw) := of_list _ rfl
theorem xorEbIb (op82 : Bool) (e : RM Reg8) (ib : Byte) : Statement (.xorEbIb op82 e ib) := of_modrm _ _ _ rfl
theorem xorEwIw (e : RM Reg16) (iw : Word) : Statement (.xorEwIw e iw) := of_modrm _ _ _ rfl
theorem xorEwIbs (e : RM Reg16) (ib : Byte) : Statement (.xorEwIbs e ib) := of_modrm _ _ _ rfl
theorem cmpEbGb (e : RM Reg8) (g : Reg8) : Statement (.cmpEbGb e g) := of_plain _ _ _
theorem cmpEwGw (e : RM Reg16) (g : Reg16) : Statement (.cmpEwGw e g) := of_plain _ _ _
theorem cmpGbEb (e : RM Reg8) (g : Reg8) : Statement (.cmpGbEb e g) := of_plain _ _ _
theorem cmpGwEw (e : RM Reg16) (g : Reg16) : Statement (.cmpGwEw e g) := of_plain _ _ _
theorem cmpAlIb (ib : Byte) : Statement (.cmpAlIb ib) := of_list _ rfl
theorem cmpAxIw (iw : Word) : Statement (.cmpAxIw iw) := of_list _ rfl
theorem cmpEbIb (op82 : Bool) (e : RM Reg8) (ib : Byte) : Statement (.cmpEbIb op82 e ib) := of_modrm _ _ _ rfl
theorem cmpEwIw (e : RM Reg16) (iw : Word) : Statement (.cmpEwIw e iw) := of_modrm _ _ _ rfl
theorem cmpEwIbs (e : RM Reg16) (ib : Byte) : Statement (.cmpEwIbs e ib) := of_modrm _ _ _ rfl
theorem incR16 (r : Reg16) : Statement (.incR16 r) := of_list _ rfl
theorem decR16 (r : Reg16) : Statement (.decR16 r) := of_list _ rfl
theorem pushR16 (r : Reg16) : Statement (.pushR16 r) := of_list _ rfl
theorem popR16 (r : Reg16) : Statement (.popR16 r) := of_list _ rfl
theorem boundGwMa (m : MemRef) (g : Reg16) : Statement (.boundGwMa m g) := of_plain _ _ _
theorem arplEwGw (e : RM Reg16) (g : Reg16) : Statement (.arplEwGw e g) := of_plain _ _ _
theorem pushIw (iw : Word) : Statement (.pushIw iw) := of_list _ rfl
theorem imulGwEwIw (e : RM Reg16) (g : Reg16) (iw : Word) : Statement (.imulGwEwIw e g iw) := of_modrm _ _ _ rfl
theorem pushIbs (ib : Byte) : Statement (.pushIbs ib) := of_list _ rfl
theorem imulGwEwIbs (e : RM Reg16) (g : Reg16) (ib : Byte) : Statement (.imulGwEwIbs e g ib) := of_modrm _ _ _ rfl
theorem joJb (ib : Byte) : Statement (.joJb ib) := of_list _ rfl
theorem jnoJb (ib : Byte) : Statement (.jnoJb ib) := of_list _ rfl
theorem jbJb (ib : Byte) : Statement (.jbJb ib) := of_list _ rfl
theorem jnbJb (ib : Byte) : Statement (.jnbJb ib) := of_list _ rfl
theorem jzJb (ib : Byte) : Statement (.jzJb ib) := of_list _ rfl
theorem jnzJb (ib : Byte) : Statement (.jnzJb ib) := of_list _ rfl
theorem jbeJb (ib : Byte) : Statement (.jbeJb ib) := of_list _ rfl
theorem jaJb (ib : Byte) : Statement (.jaJb ib) := of_list _ rfl
theorem jsJb (ib : Byte) : Statement (.jsJb ib) := of_list _ rfl
theorem jnsJb (ib : Byte) : Statement (.jnsJb ib) := of_list _ rfl
theorem jpJb (ib : Byte) : Statement (.jpJb ib) := of_list _ rfl
theorem jnpJb (ib : Byte) : Statement (.jnpJb ib) := of_list _ rfl
theorem jlJb (ib : Byte) : Statement (.jlJb ib) := of_list _ rfl
theorem jgeJb (ib : Byte) : Statement (.jgeJb ib) := of_list _ rfl
theorem jleJb (ib : Byte) : Statement (.jleJb ib) := of_list _ rfl
theorem jgJb (ib : Byte) : Statement (.jgJb ib) := of_list _ rfl
theorem joJb60 (ib : Byte) : Statement (.joJb60 ib) := of_list _ rfl
theorem jnoJb61 (ib : Byte) : Statement (.jnoJb61 ib) := of_list _ rfl
theorem jbJb62 (ib : Byte) : Statement (.jbJb62 ib) := of_list _ rfl
theorem jnbJb63 (ib : Byte) : Statement (.jnbJb63 ib) := of_list _ rfl
theorem jzJb64 (ib : Byte) : Statement (.jzJb64 ib) := of_list _ rfl
theorem jnzJb65 (ib : Byte) : Statement (.jnzJb65 ib) := of_list _ rfl
theorem jbeJb66 (ib : Byte) : Statement (.jbeJb66 ib) := of_list _ rfl
theorem jaJb67 (ib : Byte) : Statement (.jaJb67 ib) := of_list _ rfl
theorem jsJb68 (ib : Byte) : Statement (.jsJb68 ib) := of_list _ rfl
theorem jnsJb69 (ib : Byte) : Statement (.jnsJb69 ib) := of_list _ rfl
theorem jpJb6A (ib : Byte) : Statement (.jpJb6A ib) := of_list _ rfl
theorem jnpJb6B (ib : Byte) : Statement (.jnpJb6B ib) := of_list _ rfl
theorem jlJb6C (ib : Byte) : Statement (.jlJb6C ib) := of_list _ rfl
theorem jgeJb6D (ib : Byte) : Statement (.jgeJb6D ib) := of_list _ rfl
theorem jleJb6E (ib : Byte) : Statement (.jleJb6E ib) := of_list _ rfl
theorem jgJb6F (ib : Byte) : Statement (.jgJb6F ib) := of_list _ rfl
theorem testEbGb (e : RM Reg8) (g : Reg8) : Statement (.testEbGb e g) := of_plain _ _ _
theorem testEwGw (e : RM Reg16) (g : Reg16) : Statement (.testEwGw e g) := of_plain _ _ _
theorem xchgEbGb (e : RM Reg8) (g : Reg8) : Statement (.xchgEbGb e g) := of_plain _ _ _
theorem xchgEwGw (e : RM Reg16) (g : Reg16) : Statement (.xchgEwGw e g) := of_plain _ _ _
theorem movEbGb (e : RM Reg8) (g : Reg8) : Statement (.movEbGb e g) := of_plain _ _ _
theorem movEwGw (e : RM Reg16) (g : Reg16) : Statement (.movEwGw e g) := of_plain _ _ _
theorem movGbEb (e : RM Reg8) (g : Reg8) : Statement (.movGbEb e g) := of_plain _ _ _
theorem movGwEw (e : RM Reg16) (g : Reg16) : Statement (.movGwEw e g) := of_plain _ _ _
theorem movEwSw (e : RM Reg16) (sr : SegReg) : Statement (.movEwSw e sr) := of_plain _ _ _
theorem movEwSwHigh (e : RM Reg16) (sr : SegReg) : Statement (.movEwSwHigh e sr) := of_plain _ _ _
theorem leaGwM (m : MemRef) (g : Reg16) : Statement (.leaGwM m g) := of_plain _ _ _
theorem movSwEw (e : RM Reg16) (sr : SegReg) : Statement (.movSwEw e sr) := of_plain _ _ _
theorem movCsEw (e : RM Reg16) : Statement (.movCsEw e) := of_plain _ _ _
theorem movSwEwHigh (e : RM Reg16) (sr : SegReg) : Statement (.movSwEwHigh e sr) := of_plain _ _ _
theorem popEw (e : RM Reg16) : Statement (.popEw e) := of_plain _ _ _
theorem callAp (off : Word) (sel : Word) : Statement (.callAp off sel) := of_list _ rfl
theorem movAlOb (off : Word) : Statement (.movAlOb off) := of_list _ rfl
theorem movAxOw (off : Word) : Statement (.movAxOw off) := of_list _ rfl
theorem movObAl (off : Word) : Statement (.movObAl off) := of_list _ rfl
theorem movOwAx (off : Word) : Statement (.movOwAx off) := of_list _ rfl
theorem testAlIb (ib : Byte) : Statement (.testAlIb ib) := of_list _ rfl
theorem testAxIw (iw : Word) : Statement (.testAxIw iw) := of_list _ rfl
theorem movR8Ib (r : Reg8) (ib : Byte) : Statement (.movR8Ib r ib) := of_list _ rfl
theorem movR16Iw (r : Reg16) (iw : Word) : Statement (.movR16Iw r iw) := of_list _ rfl
theorem rolEbIb (e : RM Reg8) (ib : Byte) : Statement (.rolEbIb e ib) := of_modrm _ _ _ rfl
theorem rorEbIb (e : RM Reg8) (ib : Byte) : Statement (.rorEbIb e ib) := of_modrm _ _ _ rfl
theorem rclEbIb (e : RM Reg8) (ib : Byte) : Statement (.rclEbIb e ib) := of_modrm _ _ _ rfl
theorem rcrEbIb (e : RM Reg8) (ib : Byte) : Statement (.rcrEbIb e ib) := of_modrm _ _ _ rfl
theorem shlEbIb (e : RM Reg8) (ib : Byte) : Statement (.shlEbIb e ib) := of_modrm _ _ _ rfl
theorem shrEbIb (e : RM Reg8) (ib : Byte) : Statement (.shrEbIb e ib) := of_modrm _ _ _ rfl
theorem sarEbIb (e : RM Reg8) (ib : Byte) : Statement (.sarEbIb e ib) := of_modrm _ _ _ rfl
theorem rolEwIb (e : RM Reg16) (ib : Byte) : Statement (.rolEwIb e ib) := of_modrm _ _ _ rfl
theorem rorEwIb (e : RM Reg16) (ib : Byte) : Statement (.rorEwIb e ib) := of_modrm _ _ _ rfl
theorem rclEwIb (e : RM Reg16) (ib : Byte) : Statement (.rclEwIb e ib) := of_modrm _ _ _ rfl
theorem rcrEwIb (e : RM Reg16) (ib : Byte) : Statement (.rcrEwIb e ib) := of_modrm _ _ _ rfl
theorem shlEwIb (e : RM Reg16) (ib : Byte) : Statement (.shlEwIb e ib) := of_modrm _ _ _ rfl
theorem shrEwIb (e : RM Reg16) (ib : Byte) : Statement (.shrEwIb e ib) := of_modrm _ _ _ rfl
theorem sarEwIb (e : RM Reg16) (ib : Byte) : Statement (.sarEwIb e ib) := of_modrm _ _ _ rfl
theorem rolEb1 (e : RM Reg8) : Statement (.rolEb1 e) := of_plain _ _ _
theorem rorEb1 (e : RM Reg8) : Statement (.rorEb1 e) := of_plain _ _ _
theorem rclEb1 (e : RM Reg8) : Statement (.rclEb1 e) := of_plain _ _ _
theorem rcrEb1 (e : RM Reg8) : Statement (.rcrEb1 e) := of_plain _ _ _
theorem shlEb1 (e : RM Reg8) : Statement (.shlEb1 e) := of_plain _ _ _
theorem shrEb1 (e : RM Reg8) : Statement (.shrEb1 e) := of_plain _ _ _
theorem sarEb1 (e : RM Reg8) : Statement (.sarEb1 e) := of_plain _ _ _
theorem rolEw1 (e : RM Reg16) : Statement (.rolEw1 e) := of_plain _ _ _
theorem rorEw1 (e : RM Reg16) : Statement (.rorEw1 e) := of_plain _ _ _
theorem rclEw1 (e : RM Reg16) : Statement (.rclEw1 e) := of_plain _ _ _
theorem rcrEw1 (e : RM Reg16) : Statement (.rcrEw1 e) := of_plain _ _ _
theorem shlEw1 (e : RM Reg16) : Statement (.shlEw1 e) := of_plain _ _ _
theorem shrEw1 (e : RM Reg16) : Statement (.shrEw1 e) := of_plain _ _ _
theorem sarEw1 (e : RM Reg16) : Statement (.sarEw1 e) := of_plain _ _ _
theorem rolEbCl (e : RM Reg8) : Statement (.rolEbCl e) := of_plain _ _ _
theorem rorEbCl (e : RM Reg8) : Statement (.rorEbCl e) := of_plain _ _ _
theorem rclEbCl (e : RM Reg8) : Statement (.rclEbCl e) := of_plain _ _ _
theorem rcrEbCl (e : RM Reg8) : Statement (.rcrEbCl e) := of_plain _ _ _
theorem shlEbCl (e : RM Reg8) : Statement (.shlEbCl e) := of_plain _ _ _
theorem shrEbCl (e : RM Reg8) : Statement (.shrEbCl e) := of_plain _ _ _
theorem sarEbCl (e : RM Reg8) : Statement (.sarEbCl e) := of_plain _ _ _
theorem rolEwCl (e : RM Reg16) : Statement (.rolEwCl e) := of_plain _ _ _
theorem rorEwCl (e : RM Reg16) : Statement (.rorEwCl e) := of_plain _ _ _
theorem rclEwCl (e : RM Reg16) : Statement (.rclEwCl e) := of_plain _ _ _
theorem rcrEwCl (e : RM Reg16) : Statement (.rcrEwCl e) := of_plain _ _ _
theorem shlEwCl (e : RM Reg16) : Statement (.shlEwCl e) := of_plain _ _ _
theorem shrEwCl (e : RM Reg16) : Statement (.shrEwCl e) := of_plain _ _ _
theorem sarEwCl (e : RM Reg16) : Statement (.sarEwCl e) := of_plain _ _ _
theorem retIwC0 (iw : Word) : Statement (.retIwC0 iw) := of_list _ rfl
theorem retIw (iw : Word) : Statement (.retIw iw) := of_list _ rfl
theorem lesGwMp (m : MemRef) (g : Reg16) : Statement (.lesGwMp m g) := of_plain _ _ _
theorem ldsGwMp (m : MemRef) (g : Reg16) : Statement (.ldsGwMp m g) := of_plain _ _ _
theorem movEbIb (e : RM Reg8) (ib : Byte) : Statement (.movEbIb e ib) := of_modrm _ _ _ rfl
theorem movEwIw (e : RM Reg16) (iw : Word) : Statement (.movEwIw e iw) := of_modrm _ _ _ rfl
theorem enterIwIb (iw : Word) (lev : Byte) : Statement (.enterIwIb iw lev) := of_list _ rfl
theorem retfIwC8 (iw : Word) : Statement (.retfIwC8 iw) := of_list _ rfl
theorem retfIw (iw : Word) : Statement (.retfIw iw) := of_list _ rfl
theorem intIb (ib : Byte) : Statement (.intIb ib) := of_list _ rfl
theorem aamIb (ib : Byte) : Statement (.aamIb ib) := of_list _ rfl
theorem aadIb (ib : Byte) : Statement (.aadIb ib) := of_list _ rfl
theorem esc (n : BitVec 3) (k : BitVec 3) (e : RM Reg16) : Statement (.esc n k e) := of_plain _ _ _
theorem loopnzJb (ib : Byte) : Statement (.loopnzJb ib) := of_list _ rfl
theorem loopzJb (ib : Byte) : Statement (.loopzJb ib) := of_list _ rfl
theorem loopJb (ib : Byte) : Statement (.loopJb ib) := of_list _ rfl
theorem jcxzJb (ib : Byte) : Statement (.jcxzJb ib) := of_list _ rfl
theorem inAlIb (ib : Byte) : Statement (.inAlIb ib) := of_list _ rfl
theorem inAxIb (ib : Byte) : Statement (.inAxIb ib) := of_list _ rfl
theorem outIbAl (ib : Byte) : Statement (.outIbAl ib) := of_list _ rfl
theorem outIbAx (ib : Byte) : Statement (.outIbAx ib) := of_list _ rfl
theorem callJw (iw : Word) : Statement (.callJw iw) := of_list _ rfl
theorem jmpJw (iw : Word) : Statement (.jmpJw iw) := of_list _ rfl
theorem jmpAp (off : Word) (sel : Word) : Statement (.jmpAp off sel) := of_list _ rfl
theorem jmpJb (ib : Byte) : Statement (.jmpJb ib) := of_list _ rfl
theorem testEbIb (e : RM Reg8) (ib : Byte) : Statement (.testEbIb e ib) := of_modrm _ _ _ rfl
theorem testEbIb1 (e : RM Reg8) (ib : Byte) : Statement (.testEbIb1 e ib) := of_modrm _ _ _ rfl
theorem notEb (e : RM Reg8) : Statement (.notEb e) := of_plain _ _ _
theorem negEb (e : RM Reg8) : Statement (.negEb e) := of_plain _ _ _
theorem mulEb (e : RM Reg8) : Statement (.mulEb e) := of_plain _ _ _
theorem imulEb (e : RM Reg8) : Statement (.imulEb e) := of_plain _ _ _
theorem divEb (e : RM Reg8) : Statement (.divEb e) := of_plain _ _ _
theorem idivEb (e : RM Reg8) : Statement (.idivEb e) := of_plain _ _ _
theorem testEwIw (e : RM Reg16) (iw : Word) : Statement (.testEwIw e iw) := of_modrm _ _ _ rfl
theorem testEwIw1 (e : RM Reg16) (iw : Word) : Statement (.testEwIw1 e iw) := of_modrm _ _ _ rfl
theorem notEw (e : RM Reg16) : Statement (.notEw e) := of_plain _ _ _
theorem negEw (e : RM Reg16) : Statement (.negEw e) := of_plain _ _ _
theorem mulEw (e : RM Reg16) : Statement (.mulEw e) := of_plain _ _ _
theorem imulEw (e : RM Reg16) : Statement (.imulEw e) := of_plain _ _ _
theorem divEw (e : RM Reg16) : Statement (.divEw e) := of_plain _ _ _
theorem idivEw (e : RM Reg16) : Statement (.idivEw e) := of_plain _ _ _
theorem incEb (e : RM Reg8) : Statement (.incEb e) := of_plain _ _ _
theorem decEb (e : RM Reg8) : Statement (.decEb e) := of_plain _ _ _
theorem incEw (e : RM Reg16) : Statement (.incEw e) := of_plain _ _ _
theorem decEw (e : RM Reg16) : Statement (.decEw e) := of_plain _ _ _
theorem callEw (e : RM Reg16) : Statement (.callEw e) := of_plain _ _ _
theorem callMp (m : MemRef) : Statement (.callMp m) := of_plain _ _ _
theorem jmpEw (e : RM Reg16) : Statement (.jmpEw e) := of_plain _ _ _
theorem jmpMp (m : MemRef) : Statement (.jmpMp m) := of_plain _ _ _
theorem pushEw (e : RM Reg16) : Statement (.pushEw e) := of_plain _ _ _
theorem sldtEw (e : RM Reg16) : Statement (.sldtEw e) := of_ext _ _ _ _
theorem strEw (e : RM Reg16) : Statement (.strEw e) := of_ext _ _ _ _
theorem lldtEw (e : RM Reg16) : Statement (.lldtEw e) := of_ext _ _ _ _
theorem ltrEw (e : RM Reg16) : Statement (.ltrEw e) := of_ext _ _ _ _
theorem verrEw (e : RM Reg16) : Statement (.verrEw e) := of_ext _ _ _ _
theorem verwEw (e : RM Reg16) : Statement (.verwEw e) := of_ext _ _ _ _
theorem sgdtMs (m : MemRef) : Statement (.sgdtMs m) := of_ext _ _ _ _
theorem sidtMs (m : MemRef) : Statement (.sidtMs m) := of_ext _ _ _ _
theorem lgdtMs (m : MemRef) : Statement (.lgdtMs m) := of_ext _ _ _ _
theorem lidtMs (m : MemRef) : Statement (.lidtMs m) := of_ext _ _ _ _
theorem smswEw (e : RM Reg16) : Statement (.smswEw e) := of_ext _ _ _ _
theorem lmswEw (e : RM Reg16) : Statement (.lmswEw e) := of_ext _ _ _ _
theorem larGwEw (e : RM Reg16) (g : Reg16) : Statement (.larGwEw e g) := of_ext _ _ _ _
theorem lslGwEw (e : RM Reg16) (g : Reg16) : Statement (.lslGwEw e g) := of_ext _ _ _ _
theorem pushEs : Statement .pushEs := of_list _ rfl
theorem popEs : Statement .popEs := of_list _ rfl
theorem pushCs : Statement .pushCs := of_list _ rfl
theorem pushSs : Statement .pushSs := of_list _ rfl
theorem popSs : Statement .popSs := of_list _ rfl
theorem pushDs : Statement .pushDs := of_list _ rfl
theorem popDs : Statement .popDs := of_list _ rfl
theorem popCs : Statement .popCs := of_list _ rfl
theorem invalidOpcode : Statement .invalidOpcode := of_list _ rfl
theorem prefixEs : Statement .prefixEs := of_list _ rfl
theorem prefixCs : Statement .prefixCs := of_list _ rfl
theorem prefixSs : Statement .prefixSs := of_list _ rfl
theorem prefixDs : Statement .prefixDs := of_list _ rfl
theorem prefixLock : Statement .prefixLock := of_list _ rfl
theorem prefixLockF1 : Statement .prefixLockF1 := of_list _ rfl
theorem prefixRepne : Statement .prefixRepne := of_list _ rfl
theorem prefixRep : Statement .prefixRep := of_list _ rfl
theorem daa : Statement .daa := of_list _ rfl
theorem das : Statement .das := of_list _ rfl
theorem aaa : Statement .aaa := of_list _ rfl
theorem aas : Statement .aas := of_list _ rfl
theorem pushSp : Statement .pushSp := of_list _ rfl
theorem pusha : Statement .pusha := of_list _ rfl
theorem popa : Statement .popa := of_list _ rfl
theorem insb : Statement .insb := of_list _ rfl
theorem insw : Statement .insw := of_list _ rfl
theorem outsb : Statement .outsb := of_list _ rfl
theorem outsw : Statement .outsw := of_list _ rfl
theorem reservedC86 : Statement .reservedC86 := of_list _ rfl
theorem nop : Statement .nop := of_list _ rfl
theorem xchgAxCx : Statement .xchgAxCx := of_list _ rfl
theorem xchgAxDx : Statement .xchgAxDx := of_list _ rfl
theorem xchgAxBx : Statement .xchgAxBx := of_list _ rfl
theorem xchgAxSp : Statement .xchgAxSp := of_list _ rfl
theorem xchgAxBp : Statement .xchgAxBp := of_list _ rfl
theorem xchgAxSi : Statement .xchgAxSi := of_list _ rfl
theorem xchgAxDi : Statement .xchgAxDi := of_list _ rfl
theorem cbw : Statement .cbw := of_list _ rfl
theorem cwd : Statement .cwd := of_list _ rfl
theorem wait : Statement .wait := of_list _ rfl
theorem pushf : Statement .pushf := of_list _ rfl
theorem popf : Statement .popf := of_list _ rfl
theorem sahf : Statement .sahf := of_list _ rfl
theorem lahf : Statement .lahf := of_list _ rfl
theorem movsb : Statement .movsb := of_list _ rfl
theorem movsw : Statement .movsw := of_list _ rfl
theorem cmpsb : Statement .cmpsb := of_list _ rfl
theorem cmpsw : Statement .cmpsw := of_list _ rfl
theorem stosb : Statement .stosb := of_list _ rfl
theorem stosw : Statement .stosw := of_list _ rfl
theorem lodsb : Statement .lodsb := of_list _ rfl
theorem lodsw : Statement .lodsw := of_list _ rfl
theorem scasb : Statement .scasb := of_list _ rfl
theorem scasw : Statement .scasw := of_list _ rfl
theorem retC1 : Statement .retC1 := of_list _ rfl
theorem ret : Statement .ret := of_list _ rfl
theorem leave : Statement .leave := of_list _ rfl
theorem retfC9 : Statement .retfC9 := of_list _ rfl
theorem retf : Statement .retf := of_list _ rfl
theorem int3 : Statement .int3 := of_list _ rfl
theorem into : Statement .into := of_list _ rfl
theorem iret : Statement .iret := of_list _ rfl
theorem salc : Statement .salc := of_list _ rfl
theorem xlat : Statement .xlat := of_list _ rfl
theorem inAlDx : Statement .inAlDx := of_list _ rfl
theorem inAxDx : Statement .inAxDx := of_list _ rfl
theorem outDxAl : Statement .outDxAl := of_list _ rfl
theorem outDxAx : Statement .outDxAx := of_list _ rfl
theorem hlt : Statement .hlt := of_list _ rfl
theorem cmc : Statement .cmc := of_list _ rfl
theorem clc : Statement .clc := of_list _ rfl
theorem stc : Statement .stc := of_list _ rfl
theorem cli : Statement .cli := of_list _ rfl
theorem sti : Statement .sti := of_list _ rfl
theorem cld : Statement .cld := of_list _ rfl
theorem std : Statement .std := of_list _ rfl
theorem pushSpFF : Statement .pushSpFF := of_list _ rfl
theorem loadall : Statement .loadall := of_list _ rfl
theorem clts : Statement .clts := of_list _ rfl

end Sys2Proof.Laws.EncodingLength
end

