-- ==== Sys2Proof/Laws/Run.lean ====
section
/-! SUPPORT. What the end of a step can do after exceptions, and the prefetch queue's order. -/

namespace Sys2Proof.Machine

/-! ## The handlers of a step (60 R911) -/

theorem handlers_zero (o : Host.Outcome State Fault Refusal) :
    State.handlers 0 o =
      match o with
      | .next t => if t.entersHandler then .fault .endlessHandlers else .next t.settled
      | .fault f => .fault f
      | .refused r => .refused r := rfl

theorem handlers_succ (n : Nat) (o : Host.Outcome State Fault Refusal) :
    State.handlers (n + 1) o =
      match o with
      | .next t => if t.entersHandler then State.handlers n t.settled.dispatch else .next t.settled
      | .fault f => .fault f
      | .refused r => .refused r := rfl

@[simp] theorem handlers_fault (n : Nat) (f : Fault) : State.handlers n (.fault f) = .fault f := by
  cases n <;> rfl

@[simp] theorem handlers_refused (n : Nat) (r : Refusal) : State.handlers n (.refused r) = .refused r := by
  cases n <;> rfl

/-- An instruction that took no exception ends the step. -/
theorem handlers_done (n : Nat) {t : State} (h : t.handlerEntry = false) :
    State.handlers n (.next t) = .next t := by
  have e : t.entersHandler = false := by simp [State.entersHandler, h]
  have k : t.settled = t := by rw [State.settled, ← h]
  cases n with
  | zero => rw [handlers_zero]; simp [e, k]
  | succ n => rw [handlers_succ]; simp [e, k]

/-- An instruction that took one makes the step go on with the handler's first instruction. -/
theorem handlers_enter (n : Nat) {t : State} (h : t.entersHandler = true) :
    State.handlers (n + 1) (.next t) = State.handlers n t.settled.dispatch := by
  rw [handlers_succ]
  simp [h]

/-- No step ends inside an exception. -/
theorem handlers_settled (n : Nat) (o : Host.Outcome State Fault Refusal) {t : State}
    (h : State.handlers n o = .next t) : t.handlerEntry = false := by
  induction n generalizing o with
  | zero =>
    rw [handlers_zero] at h
    cases o with
    | next u =>
      dsimp only at h
      split at h
      · cases h
      · cases h; rfl
    | fault f => cases h
    | refused r => cases h
  | succ n ih =>
    rw [handlers_succ] at h
    cases o with
    | next u =>
      dsimp only at h
      split at h
      · exact ih _ h
      · cases h; rfl
    | fault f => cases h
    | refused r => cases h

/-- What the instructions of a step keep, the step keeps. -/
theorem handlers_keep {P : State → Prop} (settle : ∀ t, P t → P t.settled)
    (run : ∀ t u, P t → t.dispatch = .next u → P u) (n : Nat) {o : Host.Outcome State Fault Refusal}
    (first : ∀ t, o = .next t → P t) {t : State} (h : State.handlers n o = .next t) : P t := by
  induction n generalizing o with
  | zero =>
    rw [handlers_zero] at h
    cases o with
    | next u =>
      dsimp only at h
      split at h
      · cases h
      · cases h; exact settle _ (first _ rfl)
    | fault f => cases h
    | refused r => cases h
  | succ n ih =>
    rw [handlers_succ] at h
    cases o with
    | next u =>
      dsimp only at h
      split at h
      · exact ih (fun v hv => run _ _ (settle _ (first _ rfl)) hv) h
      · cases h; exact settle _ (first _ rfl)
    | fault f => cases h
    | refused r => cases h

/-- The same of a step in run status RUN. -/
theorem running_keep {P : State → Prop} (settle : ∀ t, P t → P t.settled)
    (run : ∀ t u, P t → t.dispatch = .next u → P u) (bound : ∀ t u, P t → t.boundary = .next u → P u)
    {s t : State} (hs : P s) (h : s.running = .next t) : P t :=
  handlers_keep settle run handlerFuel (fun u hu => bound _ u (settle s hs) hu) h

/-! ## The queue (10 R55) -/

/-- "tail==head iff queuedBytes==0". -/
theorem Prefetch.ok.empty_iff {q : Prefetch} {m : Model} (h : q.ok m) : q.tail = q.head ↔ q.queuedBytes = 0 := by
  have r := h.ring
  have t := h.tail
  have k := h.room
  constructor
  · intro e
    rw [← e] at r
    by_cases c : q.tail + q.queuedBytes < Prefetch.ringSize m
    · rw [Nat.mod_eq_of_lt c] at r; omega
    · rw [Nat.mod_eq_sub_mod (by omega), Nat.mod_eq_of_lt (by omega)] at r; omega
  · intro e
    rw [e, Nat.add_zero, Nat.mod_eq_of_lt t] at r
    exact r

theorem Prefetch.ok.flush {q : Prefetch} {m : Model} (h : q.ok m) (off : Word) : (q.flush off).ok m where
  slots := h.slots
  head := h.head
  tail := h.head
  queued := Nat.le_refl _
  valid := Nat.zero_le _
  room := Nat.lt_of_le_of_lt (Nat.zero_le _) h.head
  ring := by simp [Prefetch.flush, Nat.mod_eq_of_lt h.head]

theorem Prefetch.ok_emptyAt (m : Model) (off : Word) : (Prefetch.emptyAt m off).ok m := by
  constructor <;> simp [Prefetch.emptyAt, Prefetch.ringSize] <;> split <;> omega

/-- Rereading changes bytes in the queue and nothing else: no slot is added or lost. -/
theorem State.reread_only (s : State) : ∃ cells l, cells.length = s.queue.slots.length ∧
    s.reread = { s with queue := { s.queue with slots := cells, latch := l } } := by
  unfold State.reread
  split
  · exact ⟨_, _, by simp, rfl⟩
  · exact ⟨s.queue.slots, s.queue.latch, rfl, rfl⟩

/-- Under `coherent` nothing is reread. -/
theorem State.reread_coherent {s : State} (h : s.cfg.coherence = .coherent) : s.reread = s := by
  simp [State.reread, h]

/-- Under `stale` every slot is, by a draw, as it was or as memory is. -/
theorem State.reread_slot {s : State} (h : s.cfg.coherence = .stale) {k : Nat} {c : Host.Cell}
    (hk : s.queue.slots[k]? = some c) : s.reread.queue.slots[k]? = some (s.rereadCell k c) := by
  obtain ⟨l, rfl⟩ := List.getElem?_eq_some_iff.mp hk
  simp [State.reread, h, l]

theorem Prefetch.ok.reread {s : State} {m : Model} (h : s.queue.ok m) : s.reread.queue.ok m := by
  obtain ⟨cells, l, hl, e⟩ := s.reread_only
  rw [e]
  exact ⟨hl.trans h.slots, h.head, h.tail, h.queued, h.valid, h.room, h.ring⟩

theorem Prefetch.restarts_flush (q : Prefetch) (off : Word) : (q.flush off).restarts off := ⟨rfl, rfl, rfl, rfl⟩

end Sys2Proof.Machine
end

