-- ==== Sys2Proof/Tests/Slice0.lean ====
section
/-! SUPPORT. The tests: terms WellFormed refuses, words written out from the spec's encodings, single steps of
the vectors of 95_test_vectors.md, and for each statement states and operands that meet its hypotheses. -/

namespace Sys2Proof.Tests

set_option Elab.async false

open Sys2Proof Sys2Proof.Machine

/-! ## States -/

/-- A new instance of a model in real mode at 0000:0100, every segment register 0. -/
def on (m : Model) : State :=
  { State.construct (.ofModel m) with
    ip := 0x0100
    segs := { es := .real 0, cs := .real 0, ss := .real 0, ds := .real 0 } }

/-- General registers given. -/
def having (s : State) (rs : List (Reg16 × Word)) : State := rs.foldl (fun t r => t.setReg r.1 r.2) s

/-- PS given. -/
def withPs (s : State) (v : Word) : State := s.setPS v 0xFFFF

/-- Bytes at rising physical addresses. -/
def bytesAt : Nat → List Byte → State → State
  | _, [], s => s
  | p, v :: vs, s => bytesAt (p + 1) vs { s with mem := Memory.write s.mem p v }

/-- Put bytes at CS:IP, take one step, and look. -/
def runs (s : State) (code : List Byte) (look : State → Bool) : Bool :=
  match step (State.placeAll code s.ip s) with
  | .next t => look t
  | _ => false

/-- The same on every class. -/
def onAll (test : Model → Bool) : Bool := [Model.m8086, .m80186, .m80286].all test

/-- A word of physical memory. -/
def wordAt (t : State) (p : Nat) : Word := mkWord (Memory.read t.mem p) (Memory.read t.mem (p + 1))

/-- The six flags. -/
def shows (t : State) (cf pf af zf sf of : Bool) : Bool :=
  t.flags == { cf := cf, pf := pf, af := af, zf := zf, sf := sf, of := of }

/-- A segment of 64 KiB at linear 0. -/
def flat (sel : Word) (access : Byte) : SegCache where
  selector   := sel
  base       := 0
  limit      := 0xFFFF
  access     := access
  nullLoaded := false

/-- An 80286 in protected mode at a privilege level, with the GDT "G" of T45.12 at 0x0800 and, beyond it: an available
TSS (28), an LDT (30), a call gate to the code at 08 (38), a task gate to the TSS (40), code not present (48),
conforming code (50), data not present (58), a busy TSS (60), and a call gate to the conforming code (68). -/
def prot (cpl : BitVec 2) : State :=
  bytesAt 0x0808
    [0xFF, 0xFF, 0, 0, 0, 0x9B, 0, 0, 0xFF, 0xFF, 0, 0, 0, 0x93, 0, 0, 0xFF, 0xFF, 0, 0, 0, 0xFB, 0, 0,
     0xFF, 0xFF, 0, 0, 0, 0xF3, 0, 0, 0x2B, 0, 0, 0x30, 0, 0x81, 0, 0, 0x0F, 0, 0, 0x40, 0, 0x82, 0, 0,
     0, 2, 8, 0, 2, 0xE4, 0, 0, 0, 0, 0x28, 0, 0, 0xE5, 0, 0, 0xFF, 0xFF, 0, 0, 0, 0x1B, 0, 0,
     0xFF, 0xFF, 0, 0, 0, 0x9F, 0, 0, 0xFF, 0xFF, 0, 0, 0, 0x13, 0, 0, 0x2B, 0, 0, 0x30, 0, 0x83, 0, 0,
     0, 2, 0x50, 0, 0, 0xE4, 0, 0]
    { having (on .m80286) [(.sp, 0x2000)] with
      sys :=
        { msw := 0xFFF1, gdtr := { base := 0x800, limit := 0x6F }, idtr := { base := 0x1000, limit := 0x1FF }
          ldtr := { selector := 0, base := 0, limit := 0, access := 0 }
          tr := { selector := 0x60, base := 0x3000, limit := 0x2B, access := 0x83 }, cpl := cpl }
      segs :=
        if cpl = 0 then { es := flat 0x10 0x93, cs := flat 0x08 0x9B, ss := flat 0x10 0x93, ds := flat 0x10 0x93 }
        else { es := flat 0x23 0xF3, cs := flat 0x1B 0xFB, ss := flat 0x23 0xF3, ds := flat 0x23 0xF3 } }

/-! ## Terms that stand for no encoding -/

theorem test_no_mod0_bp : (Instr.addEbGb (.mem (.ind .bp)) .al).wf = false ∧ (Instr.leaGwM (.ind .bp) .ax).wf = false := by decide

theorem test_no_push_sp_twice : (Instr.pushR16 .sp).wf = false ∧ (Instr.pushEw (.reg .sp)).wf = false := by decide

theorem test_no_mov_cs : (Instr.movSwEw (.reg .ax) .cs).wf = false := by decide

theorem test_classes :
    Instr.popCs.wfOn .c186 = false ∧ (Instr.jnzJb65 0).wfOn .c286 = false ∧ Instr.pusha.wfOn .c86 = false ∧
    Instr.clts.wfOn .c186 = false ∧ Instr.popCs.wfOn .c86 = true ∧ Instr.pusha.wfOn .c186 = true ∧
    Instr.clts.wfOn .c286 = true := by decide

theorem test_defined_bytes :
    (OpForm.byte 0x90).undefinedOn .c286 = false ∧ (OpForm.byte 0xF1).undefinedOn .c86 = false ∧
    (OpForm.modrm 0xFE 1 (.reg 0)).undefinedOn .c286 = false ∧ (OpForm.modrm 0x8D 0 (.mem (.ind .bp))).undefinedOn .c286 = false ∧
    (OpForm.extModrm 0x01 4 (.reg 0)).undefinedOn .c286 = false ∧ (OpForm.ext 0x04).undefinedOn .c186 = false ∧
    (OpForm.byte 0xF1).refusedOnC86 = false ∧ (OpForm.modrm 0xC0 6 (.reg 0)).refusedOnC86 = false := by decide

/-! ## Words written out from the encodings of 30_encoding.md, one for each row of the opcode table -/

/-- Whether the bytes decode, all of them, to the instruction. -/
def reads (cls : CpuClass) (bytes : List Byte) (i : Instr) : Bool :=
  match decode cls bytes with
  | .ok (j, []) => j == i
  | _ => false

/-- Whether every row of a list decodes as it says. -/
def allRead (rows : List (CpuClass × List Byte × Instr)) : Bool := rows.all fun r => reads r.1 r.2.1 r.2.2

theorem test_decode_arithmetic_a : allRead [
    (.c286, [0x00, 0xD7], .addEbGb (.reg .bh) .dl),
    (.c286, [0x01, 0x91, 0x00, 0x10], .addEwGw (.mem (.disp16 .bxdi 0x1000)) .dx),
    (.c286, [0x02, 0xD7], .addGbEb (.reg .bh) .dl),
    (.c286, [0x03, 0x91, 0x00, 0x10], .addGwEw (.mem (.disp16 .bxdi 0x1000)) .dx),
    (.c286, [0x04, 0x9A], .addAlIb 0x9A),
    (.c286, [0x05, 0x78, 0x56], .addAxIw 0x5678),
    (.c286, [0x80, 0xC7, 0x9A], .addEbIb false (.reg .bh) 0x9A),
    (.c286, [0x81, 0x81, 0x00, 0x10, 0x78, 0x56], .addEwIw (.mem (.disp16 .bxdi 0x1000)) 0x5678),
    (.c286, [0x82, 0xC7, 0x9A], .addEbIb true (.reg .bh) 0x9A),
    (.c286, [0x83, 0x81, 0x00, 0x10, 0x9A], .addEwIbs (.mem (.disp16 .bxdi 0x1000)) 0x9A),
    (.c286, [0x10, 0xD7], .adcEbGb (.reg .bh) .dl),
    (.c286, [0x11, 0x91, 0x00, 0x10], .adcEwGw (.mem (.disp16 .bxdi 0x1000)) .dx),
    (.c286, [0x12, 0xD7], .adcGbEb (.reg .bh) .dl),
    (.c286, [0x13, 0x91, 0x00, 0x10], .adcGwEw (.mem (.disp16 .bxdi 0x1000)) .dx),
    (.c286, [0x14, 0x9A], .adcAlIb 0x9A),
    (.c286, [0x15, 0x78, 0x56], .adcAxIw 0x5678),
    (.c286, [0x80, 0xD7, 0x9A], .adcEbIb false (.reg .bh) 0x9A),
    (.c286, [0x81, 0x91, 0x00, 0x10, 0x78, 0x56], .adcEwIw (.mem (.disp16 .bxdi 0x1000)) 0x5678),
    (.c286, [0x82, 0xD7, 0x9A], .adcEbIb true (.reg .bh) 0x9A),
    (.c286, [0x83, 0x91, 0x00, 0x10, 0x9A], .adcEwIbs (.mem (.disp16 .bxdi 0x1000)) 0x9A),
    (.c286, [0x18, 0xD7], .sbbEbGb (.reg .bh) .dl),
    (.c286, [0x19, 0x91, 0x00, 0x10], .sbbEwGw (.mem (.disp16 .bxdi 0x1000)) .dx),
    (.c286, [0x1A, 0xD7], .sbbGbEb (.reg .bh) .dl),
    (.c286, [0x1B, 0x91, 0x00, 0x10], .sbbGwEw (.mem (.disp16 .bxdi 0x1000)) .dx)] = true := by decide

theorem test_decode_arithmetic_b : allRead [
    (.c286, [0x1C, 0x9A], .sbbAlIb 0x9A),
    (.c286, [0x1D, 0x78, 0x56], .sbbAxIw 0x5678),
    (.c286, [0x80, 0xDF, 0x9A], .sbbEbIb false (.reg .bh) 0x9A),
    (.c286, [0x81, 0x99, 0x00, 0x10, 0x78, 0x56], .sbbEwIw (.mem (.disp16 .bxdi 0x1000)) 0x5678),
    (.c286, [0x82, 0xDF, 0x9A], .sbbEbIb true (.reg .bh) 0x9A),
    (.c286, [0x83, 0x99, 0x00, 0x10, 0x9A], .sbbEwIbs (.mem (.disp16 .bxdi 0x1000)) 0x9A),
    (.c286, [0x28, 0xD7], .subEbGb (.reg .bh) .dl),
    (.c286, [0x29, 0x91, 0x00, 0x10], .subEwGw (.mem (.disp16 .bxdi 0x1000)) .dx),
    (.c286, [0x2A, 0xD7], .subGbEb (.reg .bh) .dl),
    (.c286, [0x2B, 0x91, 0x00, 0x10], .subGwEw (.mem (.disp16 .bxdi 0x1000)) .dx),
    (.c286, [0x2C, 0x9A], .subAlIb 0x9A),
    (.c286, [0x2D, 0x78, 0x56], .subAxIw 0x5678),
    (.c286, [0x80, 0xEF, 0x9A], .subEbIb false (.reg .bh) 0x9A),
    (.c286, [0x81, 0xA9, 0x00, 0x10, 0x78, 0x56], .subEwIw (.mem (.disp16 .bxdi 0x1000)) 0x5678),
    (.c286, [0x82, 0xEF, 0x9A], .subEbIb true (.reg .bh) 0x9A),
    (.c286, [0x83, 0xA9, 0x00, 0x10, 0x9A], .subEwIbs (.mem (.disp16 .bxdi 0x1000)) 0x9A),
    (.c286, [0x38, 0xD7], .cmpEbGb (.reg .bh) .dl),
    (.c286, [0x39, 0x91, 0x00, 0x10], .cmpEwGw (.mem (.disp16 .bxdi 0x1000)) .dx),
    (.c286, [0x3A, 0xD7], .cmpGbEb (.reg .bh) .dl),
    (.c286, [0x3B, 0x91, 0x00, 0x10], .cmpGwEw (.mem (.disp16 .bxdi 0x1000)) .dx),
    (.c286, [0x3C, 0x9A], .cmpAlIb 0x9A),
    (.c286, [0x3D, 0x78, 0x56], .cmpAxIw 0x5678),
    (.c286, [0x80, 0xFF, 0x9A], .cmpEbIb false (.reg .bh) 0x9A),
    (.c286, [0x81, 0xB9, 0x00, 0x10, 0x78, 0x56], .cmpEwIw (.mem (.disp16 .bxdi 0x1000)) 0x5678)] = true := by decide

theorem test_decode_arithmetic_c : allRead [
    (.c286, [0x82, 0xFF, 0x9A], .cmpEbIb true (.reg .bh) 0x9A),
    (.c286, [0x83, 0xB9, 0x00, 0x10, 0x9A], .cmpEwIbs (.mem (.disp16 .bxdi 0x1000)) 0x9A),
    (.c286, [0x27], .daa),
    (.c286, [0x2F], .das),
    (.c286, [0x37], .aaa),
    (.c286, [0x3F], .aas),
    (.c286, [0x43], .incR16 .bx),
    (.c286, [0x4B], .decR16 .bx),
    (.c286, [0x69, 0x91, 0x00, 0x10, 0x78, 0x56], .imulGwEwIw (.mem (.disp16 .bxdi 0x1000)) .dx 0x5678),
    (.c286, [0x6B, 0x91, 0x00, 0x10, 0x9A], .imulGwEwIbs (.mem (.disp16 .bxdi 0x1000)) .dx 0x9A),
    (.c286, [0xD4, 0x9A], .aamIb 0x9A),
    (.c286, [0xD5, 0x9A], .aadIb 0x9A),
    (.c286, [0xD6], .salc),
    (.c286, [0xF6, 0xDF], .negEb (.reg .bh)),
    (.c286, [0xF6, 0xE7], .mulEb (.reg .bh)),
    (.c286, [0xF6, 0xEF], .imulEb (.reg .bh)),
    (.c286, [0xF6, 0xF7], .divEb (.reg .bh)),
    (.c286, [0xF6, 0xFF], .idivEb (.reg .bh)),
    (.c286, [0xF7, 0x99, 0x00, 0x10], .negEw (.mem (.disp16 .bxdi 0x1000))),
    (.c286, [0xF7, 0xA1, 0x00, 0x10], .mulEw (.mem (.disp16 .bxdi 0x1000))),
    (.c286, [0xF7, 0xA9, 0x00, 0x10], .imulEw (.mem (.disp16 .bxdi 0x1000))),
    (.c286, [0xF7, 0xB1, 0x00, 0x10], .divEw (.mem (.disp16 .bxdi 0x1000))),
    (.c286, [0xF7, 0xB9, 0x00, 0x10], .idivEw (.mem (.disp16 .bxdi 0x1000))),
    (.c286, [0xFE, 0xC7], .incEb (.reg .bh))] = true := by decide

theorem test_decode_arithmetic_d : allRead [
    (.c286, [0xFE, 0xCF], .decEb (.reg .bh)),
    (.c286, [0xFF, 0x81, 0x00, 0x10], .incEw (.mem (.disp16 .bxdi 0x1000))),
    (.c286, [0xFF, 0x89, 0x00, 0x10], .decEw (.mem (.disp16 .bxdi 0x1000)))] = true := by decide

theorem test_decode_logic_a : allRead [
    (.c286, [0x08, 0xD7], .orEbGb (.reg .bh) .dl),
    (.c286, [0x09, 0x91, 0x00, 0x10], .orEwGw (.mem (.disp16 .bxdi 0x1000)) .dx),
    (.c286, [0x0A, 0xD7], .orGbEb (.reg .bh) .dl),
    (.c286, [0x0B, 0x91, 0x00, 0x10], .orGwEw (.mem (.disp16 .bxdi 0x1000)) .dx),
    (.c286, [0x0C, 0x9A], .orAlIb 0x9A),
    (.c286, [0x0D, 0x78, 0x56], .orAxIw 0x5678),
    (.c286, [0x80, 0xCF, 0x9A], .orEbIb false (.reg .bh) 0x9A),
    (.c286, [0x81, 0x89, 0x00, 0x10, 0x78, 0x56], .orEwIw (.mem (.disp16 .bxdi 0x1000)) 0x5678),
    (.c286, [0x82, 0xCF, 0x9A], .orEbIb true (.reg .bh) 0x9A),
    (.c286, [0x83, 0x89, 0x00, 0x10, 0x9A], .orEwIbs (.mem (.disp16 .bxdi 0x1000)) 0x9A),
    (.c286, [0x20, 0xD7], .andEbGb (.reg .bh) .dl),
    (.c286, [0x21, 0x91, 0x00, 0x10], .andEwGw (.mem (.disp16 .bxdi 0x1000)) .dx),
    (.c286, [0x22, 0xD7], .andGbEb (.reg .bh) .dl),
    (.c286, [0x23, 0x91, 0x00, 0x10], .andGwEw (.mem (.disp16 .bxdi 0x1000)) .dx),
    (.c286, [0x24, 0x9A], .andAlIb 0x9A),
    (.c286, [0x25, 0x78, 0x56], .andAxIw 0x5678),
    (.c286, [0x80, 0xE7, 0x9A], .andEbIb false (.reg .bh) 0x9A),
    (.c286, [0x81, 0xA1, 0x00, 0x10, 0x78, 0x56], .andEwIw (.mem (.disp16 .bxdi 0x1000)) 0x5678),
    (.c286, [0x82, 0xE7, 0x9A], .andEbIb true (.reg .bh) 0x9A),
    (.c286, [0x83, 0xA1, 0x00, 0x10, 0x9A], .andEwIbs (.mem (.disp16 .bxdi 0x1000)) 0x9A),
    (.c286, [0x30, 0xD7], .xorEbGb (.reg .bh) .dl),
    (.c286, [0x31, 0x91, 0x00, 0x10], .xorEwGw (.mem (.disp16 .bxdi 0x1000)) .dx),
    (.c286, [0x32, 0xD7], .xorGbEb (.reg .bh) .dl),
    (.c286, [0x33, 0x91, 0x00, 0x10], .xorGwEw (.mem (.disp16 .bxdi 0x1000)) .dx)] = true := by decide

theorem test_decode_logic_b : allRead [
    (.c286, [0x34, 0x9A], .xorAlIb 0x9A),
    (.c286, [0x35, 0x78, 0x56], .xorAxIw 0x5678),
    (.c286, [0x80, 0xF7, 0x9A], .xorEbIb false (.reg .bh) 0x9A),
    (.c286, [0x81, 0xB1, 0x00, 0x10, 0x78, 0x56], .xorEwIw (.mem (.disp16 .bxdi 0x1000)) 0x5678),
    (.c286, [0x82, 0xF7, 0x9A], .xorEbIb true (.reg .bh) 0x9A),
    (.c286, [0x83, 0xB1, 0x00, 0x10, 0x9A], .xorEwIbs (.mem (.disp16 .bxdi 0x1000)) 0x9A),
    (.c286, [0x84, 0xD7], .testEbGb (.reg .bh) .dl),
    (.c286, [0x85, 0x91, 0x00, 0x10], .testEwGw (.mem (.disp16 .bxdi 0x1000)) .dx),
    (.c286, [0xA8, 0x9A], .testAlIb 0x9A),
    (.c286, [0xA9, 0x78, 0x56], .testAxIw 0x5678),
    (.c286, [0xF6, 0xC7, 0x9A], .testEbIb (.reg .bh) 0x9A),
    (.c86, [0xF6, 0xCF, 0x9A], .testEbIb1 (.reg .bh) 0x9A),
    (.c286, [0xF6, 0xD7], .notEb (.reg .bh)),
    (.c286, [0xF7, 0x81, 0x00, 0x10, 0x78, 0x56], .testEwIw (.mem (.disp16 .bxdi 0x1000)) 0x5678),
    (.c86, [0xF7, 0x89, 0x00, 0x10, 0x78, 0x56], .testEwIw1 (.mem (.disp16 .bxdi 0x1000)) 0x5678),
    (.c286, [0xF7, 0x91, 0x00, 0x10], .notEw (.mem (.disp16 .bxdi 0x1000)))] = true := by decide

theorem test_decode_data_transfer_a : allRead [
    (.c286, [0x06], .pushEs),
    (.c286, [0x07], .popEs),
    (.c286, [0x0E], .pushCs),
    (.c286, [0x16], .pushSs),
    (.c286, [0x17], .popSs),
    (.c286, [0x1E], .pushDs),
    (.c286, [0x1F], .popDs),
    (.c86, [0x0F], .popCs),
    (.c286, [0x53], .pushR16 .bx),
    (.c286, [0x54], .pushSp),
    (.c286, [0x5B], .popR16 .bx),
    (.c286, [0x60], .pusha),
    (.c286, [0x61], .popa),
    (.c286, [0x68, 0x78, 0x56], .pushIw 0x5678),
    (.c286, [0x6A, 0x9A], .pushIbs 0x9A),
    (.c286, [0x86, 0xD7], .xchgEbGb (.reg .bh) .dl),
    (.c286, [0x87, 0x91, 0x00, 0x10], .xchgEwGw (.mem (.disp16 .bxdi 0x1000)) .dx),
    (.c286, [0x88, 0xD7], .movEbGb (.reg .bh) .dl),
    (.c286, [0x89, 0x91, 0x00, 0x10], .movEwGw (.mem (.disp16 .bxdi 0x1000)) .dx),
    (.c286, [0x8A, 0xD7], .movGbEb (.reg .bh) .dl),
    (.c286, [0x8B, 0x91, 0x00, 0x10], .movGwEw (.mem (.disp16 .bxdi 0x1000)) .dx),
    (.c286, [0x8C, 0x99, 0x00, 0x10], .movEwSw (.mem (.disp16 .bxdi 0x1000)) .ds),
    (.c86, [0x8C, 0xB9, 0x00, 0x10], .movEwSwHigh (.mem (.disp16 .bxdi 0x1000)) .ds),
    (.c286, [0x8D, 0x91, 0x00, 0x10], .leaGwM (.disp16 .bxdi 0x1000) .dx)] = true := by decide

theorem test_decode_data_transfer_b : allRead [
    (.c286, [0x8E, 0x99, 0x00, 0x10], .movSwEw (.mem (.disp16 .bxdi 0x1000)) .ds),
    (.c86, [0x8E, 0x89, 0x00, 0x10], .movCsEw (.mem (.disp16 .bxdi 0x1000))),
    (.c86, [0x8E, 0xB9, 0x00, 0x10], .movSwEwHigh (.mem (.disp16 .bxdi 0x1000)) .ds),
    (.c286, [0x8F, 0x81, 0x00, 0x10], .popEw (.mem (.disp16 .bxdi 0x1000))),
    (.c286, [0x91], .xchgAxCx),
    (.c286, [0x92], .xchgAxDx),
    (.c286, [0x93], .xchgAxBx),
    (.c286, [0x94], .xchgAxSp),
    (.c286, [0x95], .xchgAxBp),
    (.c286, [0x96], .xchgAxSi),
    (.c286, [0x97], .xchgAxDi),
    (.c286, [0x98], .cbw),
    (.c286, [0x99], .cwd),
    (.c286, [0x9C], .pushf),
    (.c286, [0x9D], .popf),
    (.c286, [0x9E], .sahf),
    (.c286, [0x9F], .lahf),
    (.c286, [0xA0, 0x45, 0x23], .movAlOb 0x2345),
    (.c286, [0xA1, 0x45, 0x23], .movAxOw 0x2345),
    (.c286, [0xA2, 0x45, 0x23], .movObAl 0x2345),
    (.c286, [0xA3, 0x45, 0x23], .movOwAx 0x2345),
    (.c286, [0xB3, 0x9A], .movR8Ib .bl 0x9A),
    (.c286, [0xBB, 0x78, 0x56], .movR16Iw .bx 0x5678),
    (.c286, [0xC4, 0x91, 0x00, 0x10], .lesGwMp (.disp16 .bxdi 0x1000) .dx)] = true := by decide

theorem test_decode_data_transfer_c : allRead [
    (.c286, [0xC5, 0x91, 0x00, 0x10], .ldsGwMp (.disp16 .bxdi 0x1000) .dx),
    (.c286, [0xC6, 0xC7, 0x9A], .movEbIb (.reg .bh) 0x9A),
    (.c286, [0xC7, 0x81, 0x00, 0x10, 0x78, 0x56], .movEwIw (.mem (.disp16 .bxdi 0x1000)) 0x5678),
    (.c286, [0xD7], .xlat),
    (.c286, [0xE4, 0x9A], .inAlIb 0x9A),
    (.c286, [0xE5, 0x9A], .inAxIb 0x9A),
    (.c286, [0xE6, 0x9A], .outIbAl 0x9A),
    (.c286, [0xE7, 0x9A], .outIbAx 0x9A),
    (.c286, [0xEC], .inAlDx),
    (.c286, [0xED], .inAxDx),
    (.c286, [0xEE], .outDxAl),
    (.c286, [0xEF], .outDxAx),
    (.c286, [0xFF, 0xB1, 0x00, 0x10], .pushEw (.mem (.disp16 .bxdi 0x1000))),
    (.c286, [0xFF, 0xF4], .pushSpFF)] = true := by decide

theorem test_decode_reserved_a : allRead [
    (.c186, [0x0F], .invalidOpcode),
    (.c286, [0xF1], .invalidOpcode),
    (.c286, [0x62, 0xD0], .invalidOpcode),
    (.c186, [0x63], .invalidOpcode),
    (.c286, [0x64], .invalidOpcode),
    (.c286, [0x65], .invalidOpcode),
    (.c286, [0x66], .invalidOpcode),
    (.c286, [0x67], .invalidOpcode),
    (.c286, [0x8C, 0xF0], .invalidOpcode),
    (.c286, [0x8D, 0xD0], .invalidOpcode),
    (.c86, [0x8D, 0xD0], .reservedC86),
    (.c286, [0x8E, 0xC8], .invalidOpcode),
    (.c286, [0x8E, 0xF0], .invalidOpcode),
    (.c286, [0x8F, 0xC8], .invalidOpcode),
    (.c86, [0x8F, 0xC8], .reservedC86),
    (.c286, [0x8F, 0xD0], .invalidOpcode),
    (.c86, [0x8F, 0xD0], .reservedC86),
    (.c286, [0x8F, 0xD8], .invalidOpcode),
    (.c86, [0x8F, 0xD8], .reservedC86),
    (.c286, [0x8F, 0xE0], .invalidOpcode),
    (.c86, [0x8F, 0xE0], .reservedC86),
    (.c286, [0x8F, 0xE8], .invalidOpcode),
    (.c86, [0x8F, 0xE8], .reservedC86),
    (.c286, [0x8F, 0xF0], .invalidOpcode)] = true := by decide

theorem test_decode_reserved_b : allRead [
    (.c86, [0x8F, 0xF0], .reservedC86),
    (.c286, [0x8F, 0xF8], .invalidOpcode),
    (.c86, [0x8F, 0xF8], .reservedC86),
    (.c286, [0xC0, 0xF0], .invalidOpcode),
    (.c286, [0xC1, 0xF0], .invalidOpcode),
    (.c286, [0xD0, 0xF0], .invalidOpcode),
    (.c86, [0xD0, 0xF0], .reservedC86),
    (.c286, [0xD1, 0xF0], .invalidOpcode),
    (.c86, [0xD1, 0xF0], .reservedC86),
    (.c286, [0xD2, 0xF0], .invalidOpcode),
    (.c86, [0xD2, 0xF0], .reservedC86),
    (.c286, [0xD3, 0xF0], .invalidOpcode),
    (.c86, [0xD3, 0xF0], .reservedC86),
    (.c286, [0xC4, 0xD0], .invalidOpcode),
    (.c86, [0xC4, 0xD0], .reservedC86),
    (.c286, [0xC5, 0xD0], .invalidOpcode),
    (.c86, [0xC5, 0xD0], .reservedC86),
    (.c286, [0xC6, 0xC8], .invalidOpcode),
    (.c86, [0xC6, 0xC8], .reservedC86),
    (.c286, [0xC6, 0xD0], .invalidOpcode),
    (.c86, [0xC6, 0xD0], .reservedC86),
    (.c286, [0xC6, 0xD8], .invalidOpcode),
    (.c86, [0xC6, 0xD8], .reservedC86),
    (.c286, [0xC6, 0xE0], .invalidOpcode)] = true := by decide

theorem test_decode_reserved_c : allRead [
    (.c86, [0xC6, 0xE0], .reservedC86),
    (.c286, [0xC6, 0xE8], .invalidOpcode),
    (.c86, [0xC6, 0xE8], .reservedC86),
    (.c286, [0xC6, 0xF0], .invalidOpcode),
    (.c86, [0xC6, 0xF0], .reservedC86),
    (.c286, [0xC6, 0xF8], .invalidOpcode),
    (.c86, [0xC6, 0xF8], .reservedC86),
    (.c286, [0xC7, 0xC8], .invalidOpcode),
    (.c86, [0xC7, 0xC8], .reservedC86),
    (.c286, [0xC7, 0xD0], .invalidOpcode),
    (.c86, [0xC7, 0xD0], .reservedC86),
    (.c286, [0xC7, 0xD8], .invalidOpcode),
    (.c86, [0xC7, 0xD8], .reservedC86),
    (.c286, [0xC7, 0xE0], .invalidOpcode),
    (.c86, [0xC7, 0xE0], .reservedC86),
    (.c286, [0xC7, 0xE8], .invalidOpcode),
    (.c86, [0xC7, 0xE8], .reservedC86),
    (.c286, [0xC7, 0xF0], .invalidOpcode),
    (.c86, [0xC7, 0xF0], .reservedC86),
    (.c286, [0xC7, 0xF8], .invalidOpcode),
    (.c86, [0xC7, 0xF8], .reservedC86),
    (.c286, [0xF6, 0xC8], .invalidOpcode),
    (.c286, [0xF7, 0xC8], .invalidOpcode),
    (.c286, [0xFE, 0xD0], .invalidOpcode)] = true := by decide

theorem test_decode_reserved_d : allRead [
    (.c86, [0xFE, 0xD0], .reservedC86),
    (.c286, [0xFE, 0xD8], .invalidOpcode),
    (.c86, [0xFE, 0xD8], .reservedC86),
    (.c286, [0xFE, 0xE0], .invalidOpcode),
    (.c86, [0xFE, 0xE0], .reservedC86),
    (.c286, [0xFE, 0xE8], .invalidOpcode),
    (.c86, [0xFE, 0xE8], .reservedC86),
    (.c286, [0xFE, 0xF0], .invalidOpcode),
    (.c86, [0xFE, 0xF0], .reservedC86),
    (.c286, [0xFE, 0xF8], .invalidOpcode),
    (.c86, [0xFE, 0xF8], .reservedC86),
    (.c286, [0xFF, 0xD8], .invalidOpcode),
    (.c86, [0xFF, 0xD8], .reservedC86),
    (.c286, [0xFF, 0xE8], .invalidOpcode),
    (.c86, [0xFF, 0xE8], .reservedC86),
    (.c286, [0xFF, 0xF8], .invalidOpcode),
    (.c86, [0xFF, 0xF8], .reservedC86),
    (.c286, [0x0F, 0x00, 0xF0], .invalidOpcode),
    (.c286, [0x0F, 0x00, 0xF8], .invalidOpcode),
    (.c286, [0x0F, 0x01, 0xC0], .invalidOpcode),
    (.c286, [0x0F, 0x01, 0xC8], .invalidOpcode),
    (.c286, [0x0F, 0x01, 0xD0], .invalidOpcode),
    (.c286, [0x0F, 0x01, 0xD8], .invalidOpcode),
    (.c286, [0x0F, 0x01, 0xE8], .invalidOpcode)] = true := by decide

theorem test_decode_reserved_e : allRead [
    (.c286, [0x0F, 0x01, 0xF8], .invalidOpcode),
    (.c286, [0x0F, 0x04], .invalidOpcode),
    (.c286, [0x0F, 0x05], .loadall),
    (.c286, [0x0F, 0x07], .invalidOpcode)] = true := by decide

theorem test_decode_prefixes : allRead [
    (.c286, [0x26], .prefixEs),
    (.c286, [0x2E], .prefixCs),
    (.c286, [0x36], .prefixSs),
    (.c286, [0x3E], .prefixDs),
    (.c286, [0xF0], .prefixLock),
    (.c86, [0xF1], .prefixLockF1),
    (.c286, [0xF2], .prefixRepne),
    (.c286, [0xF3], .prefixRep)] = true := by decide

theorem test_decode_control_transfer_a : allRead [
    (.c286, [0x62, 0x91, 0x00, 0x10], .boundGwMa (.disp16 .bxdi 0x1000) .dx),
    (.c286, [0x70, 0xFE], .joJb 0xFE),
    (.c286, [0x71, 0xFE], .jnoJb 0xFE),
    (.c286, [0x72, 0xFE], .jbJb 0xFE),
    (.c286, [0x73, 0xFE], .jnbJb 0xFE),
    (.c286, [0x74, 0xFE], .jzJb 0xFE),
    (.c286, [0x75, 0xFE], .jnzJb 0xFE),
    (.c286, [0x76, 0xFE], .jbeJb 0xFE),
    (.c286, [0x77, 0xFE], .jaJb 0xFE),
    (.c286, [0x78, 0xFE], .jsJb 0xFE),
    (.c286, [0x79, 0xFE], .jnsJb 0xFE),
    (.c286, [0x7A, 0xFE], .jpJb 0xFE),
    (.c286, [0x7B, 0xFE], .jnpJb 0xFE),
    (.c286, [0x7C, 0xFE], .jlJb 0xFE),
    (.c286, [0x7D, 0xFE], .jgeJb 0xFE),
    (.c286, [0x7E, 0xFE], .jleJb 0xFE),
    (.c286, [0x7F, 0xFE], .jgJb 0xFE),
    (.c86, [0x60, 0xFE], .joJb60 0xFE),
    (.c86, [0x61, 0xFE], .jnoJb61 0xFE),
    (.c86, [0x62, 0xFE], .jbJb62 0xFE),
    (.c86, [0x63, 0xFE], .jnbJb63 0xFE),
    (.c86, [0x64, 0xFE], .jzJb64 0xFE),
    (.c86, [0x65, 0xFE], .jnzJb65 0xFE),
    (.c86, [0x66, 0xFE], .jbeJb66 0xFE)] = true := by decide

theorem test_decode_control_transfer_b : allRead [
    (.c86, [0x67, 0xFE], .jaJb67 0xFE),
    (.c86, [0x68, 0xFE], .jsJb68 0xFE),
    (.c86, [0x69, 0xFE], .jnsJb69 0xFE),
    (.c86, [0x6A, 0xFE], .jpJb6A 0xFE),
    (.c86, [0x6B, 0xFE], .jnpJb6B 0xFE),
    (.c86, [0x6C, 0xFE], .jlJb6C 0xFE),
    (.c86, [0x6D, 0xFE], .jgeJb6D 0xFE),
    (.c86, [0x6E, 0xFE], .jleJb6E 0xFE),
    (.c86, [0x6F, 0xFE], .jgJb6F 0xFE),
    (.c286, [0x9A, 0x10, 0x00, 0x08, 0x00], .callAp 0x0010 0x0008),
    (.c86, [0xC0, 0x78, 0x56], .retIwC0 0x5678),
    (.c86, [0xC1], .retC1),
    (.c286, [0xC2, 0x78, 0x56], .retIw 0x5678),
    (.c286, [0xC3], .ret),
    (.c286, [0xC8, 0x78, 0x56, 0x9A], .enterIwIb 0x5678 0x9A),
    (.c86, [0xC8, 0x78, 0x56], .retfIwC8 0x5678),
    (.c286, [0xC9], .leave),
    (.c86, [0xC9], .retfC9),
    (.c286, [0xCA, 0x78, 0x56], .retfIw 0x5678),
    (.c286, [0xCB], .retf),
    (.c286, [0xCC], .int3),
    (.c286, [0xCD, 0x9A], .intIb 0x9A),
    (.c286, [0xCE], .into),
    (.c286, [0xCF], .iret)] = true := by decide

theorem test_decode_control_transfer_c : allRead [
    (.c286, [0xE0, 0xFE], .loopnzJb 0xFE),
    (.c286, [0xE1, 0xFE], .loopzJb 0xFE),
    (.c286, [0xE2, 0xFE], .loopJb 0xFE),
    (.c286, [0xE3, 0xFE], .jcxzJb 0xFE),
    (.c286, [0xE8, 0x34, 0x12], .callJw 0x1234),
    (.c286, [0xE9, 0x34, 0x12], .jmpJw 0x1234),
    (.c286, [0xEA, 0x10, 0x00, 0x08, 0x00], .jmpAp 0x0010 0x0008),
    (.c286, [0xEB, 0xFE], .jmpJb 0xFE),
    (.c286, [0xFF, 0x91, 0x00, 0x10], .callEw (.mem (.disp16 .bxdi 0x1000))),
    (.c286, [0xFF, 0x99, 0x00, 0x10], .callMp (.disp16 .bxdi 0x1000)),
    (.c286, [0xFF, 0xA1, 0x00, 0x10], .jmpEw (.mem (.disp16 .bxdi 0x1000))),
    (.c286, [0xFF, 0xA9, 0x00, 0x10], .jmpMp (.disp16 .bxdi 0x1000))] = true := by decide

theorem test_decode_system : allRead [
    (.c286, [0x63, 0x91, 0x00, 0x10], .arplEwGw (.mem (.disp16 .bxdi 0x1000)) .dx),
    (.c286, [0x0F, 0x00, 0x81, 0x00, 0x10], .sldtEw (.mem (.disp16 .bxdi 0x1000))),
    (.c286, [0x0F, 0x00, 0x89, 0x00, 0x10], .strEw (.mem (.disp16 .bxdi 0x1000))),
    (.c286, [0x0F, 0x00, 0x91, 0x00, 0x10], .lldtEw (.mem (.disp16 .bxdi 0x1000))),
    (.c286, [0x0F, 0x00, 0x99, 0x00, 0x10], .ltrEw (.mem (.disp16 .bxdi 0x1000))),
    (.c286, [0x0F, 0x00, 0xA1, 0x00, 0x10], .verrEw (.mem (.disp16 .bxdi 0x1000))),
    (.c286, [0x0F, 0x00, 0xA9, 0x00, 0x10], .verwEw (.mem (.disp16 .bxdi 0x1000))),
    (.c286, [0x0F, 0x01, 0x81, 0x00, 0x10], .sgdtMs (.disp16 .bxdi 0x1000)),
    (.c286, [0x0F, 0x01, 0x89, 0x00, 0x10], .sidtMs (.disp16 .bxdi 0x1000)),
    (.c286, [0x0F, 0x01, 0x91, 0x00, 0x10], .lgdtMs (.disp16 .bxdi 0x1000)),
    (.c286, [0x0F, 0x01, 0x99, 0x00, 0x10], .lidtMs (.disp16 .bxdi 0x1000)),
    (.c286, [0x0F, 0x01, 0xA1, 0x00, 0x10], .smswEw (.mem (.disp16 .bxdi 0x1000))),
    (.c286, [0x0F, 0x01, 0xB1, 0x00, 0x10], .lmswEw (.mem (.disp16 .bxdi 0x1000))),
    (.c286, [0x0F, 0x02, 0x91, 0x00, 0x10], .larGwEw (.mem (.disp16 .bxdi 0x1000)) .dx),
    (.c286, [0x0F, 0x03, 0x91, 0x00, 0x10], .lslGwEw (.mem (.disp16 .bxdi 0x1000)) .dx),
    (.c286, [0x0F, 0x06], .clts)] = true := by decide

theorem test_decode_strings : allRead [
    (.c286, [0x6C], .insb),
    (.c286, [0x6D], .insw),
    (.c286, [0x6E], .outsb),
    (.c286, [0x6F], .outsw),
    (.c286, [0xA4], .movsb),
    (.c286, [0xA5], .movsw),
    (.c286, [0xA6], .cmpsb),
    (.c286, [0xA7], .cmpsw),
    (.c286, [0xAA], .stosb),
    (.c286, [0xAB], .stosw),
    (.c286, [0xAC], .lodsb),
    (.c286, [0xAD], .lodsw),
    (.c286, [0xAE], .scasb),
    (.c286, [0xAF], .scasw)] = true := by decide

theorem test_decode_processor_control : allRead [
    (.c286, [0x90], .nop),
    (.c286, [0x9B], .wait),
    (.c286, [0xD8, 0x91, 0x00, 0x10], .esc 0 2 (.mem (.disp16 .bxdi 0x1000))),
    (.c286, [0xF4], .hlt),
    (.c286, [0xF5], .cmc),
    (.c286, [0xF8], .clc),
    (.c286, [0xF9], .stc),
    (.c286, [0xFA], .cli),
    (.c286, [0xFB], .sti),
    (.c286, [0xFC], .cld),
    (.c286, [0xFD], .std)] = true := by decide

theorem test_decode_shifts_a : allRead [
    (.c286, [0xC0, 0xC7, 0x9A], .rolEbIb (.reg .bh) 0x9A),
    (.c286, [0xC0, 0xCF, 0x9A], .rorEbIb (.reg .bh) 0x9A),
    (.c286, [0xC0, 0xD7, 0x9A], .rclEbIb (.reg .bh) 0x9A),
    (.c286, [0xC0, 0xDF, 0x9A], .rcrEbIb (.reg .bh) 0x9A),
    (.c286, [0xC0, 0xE7, 0x9A], .shlEbIb (.reg .bh) 0x9A),
    (.c286, [0xC0, 0xEF, 0x9A], .shrEbIb (.reg .bh) 0x9A),
    (.c286, [0xC0, 0xFF, 0x9A], .sarEbIb (.reg .bh) 0x9A),
    (.c286, [0xC1, 0x81, 0x00, 0x10, 0x9A], .rolEwIb (.mem (.disp16 .bxdi 0x1000)) 0x9A),
    (.c286, [0xC1, 0x89, 0x00, 0x10, 0x9A], .rorEwIb (.mem (.disp16 .bxdi 0x1000)) 0x9A),
    (.c286, [0xC1, 0x91, 0x00, 0x10, 0x9A], .rclEwIb (.mem (.disp16 .bxdi 0x1000)) 0x9A),
    (.c286, [0xC1, 0x99, 0x00, 0x10, 0x9A], .rcrEwIb (.mem (.disp16 .bxdi 0x1000)) 0x9A),
    (.c286, [0xC1, 0xA1, 0x00, 0x10, 0x9A], .shlEwIb (.mem (.disp16 .bxdi 0x1000)) 0x9A),
    (.c286, [0xC1, 0xA9, 0x00, 0x10, 0x9A], .shrEwIb (.mem (.disp16 .bxdi 0x1000)) 0x9A),
    (.c286, [0xC1, 0xB9, 0x00, 0x10, 0x9A], .sarEwIb (.mem (.disp16 .bxdi 0x1000)) 0x9A),
    (.c286, [0xD0, 0xC7], .rolEb1 (.reg .bh)),
    (.c286, [0xD0, 0xCF], .rorEb1 (.reg .bh)),
    (.c286, [0xD0, 0xD7], .rclEb1 (.reg .bh)),
    (.c286, [0xD0, 0xDF], .rcrEb1 (.reg .bh)),
    (.c286, [0xD0, 0xE7], .shlEb1 (.reg .bh)),
    (.c286, [0xD0, 0xEF], .shrEb1 (.reg .bh)),
    (.c286, [0xD0, 0xFF], .sarEb1 (.reg .bh)),
    (.c286, [0xD1, 0x81, 0x00, 0x10], .rolEw1 (.mem (.disp16 .bxdi 0x1000))),
    (.c286, [0xD1, 0x89, 0x00, 0x10], .rorEw1 (.mem (.disp16 .bxdi 0x1000))),
    (.c286, [0xD1, 0x91, 0x00, 0x10], .rclEw1 (.mem (.disp16 .bxdi 0x1000)))] = true := by decide

theorem test_decode_shifts_b : allRead [
    (.c286, [0xD1, 0x99, 0x00, 0x10], .rcrEw1 (.mem (.disp16 .bxdi 0x1000))),
    (.c286, [0xD1, 0xA1, 0x00, 0x10], .shlEw1 (.mem (.disp16 .bxdi 0x1000))),
    (.c286, [0xD1, 0xA9, 0x00, 0x10], .shrEw1 (.mem (.disp16 .bxdi 0x1000))),
    (.c286, [0xD1, 0xB9, 0x00, 0x10], .sarEw1 (.mem (.disp16 .bxdi 0x1000))),
    (.c286, [0xD2, 0xC7], .rolEbCl (.reg .bh)),
    (.c286, [0xD2, 0xCF], .rorEbCl (.reg .bh)),
    (.c286, [0xD2, 0xD7], .rclEbCl (.reg .bh)),
    (.c286, [0xD2, 0xDF], .rcrEbCl (.reg .bh)),
    (.c286, [0xD2, 0xE7], .shlEbCl (.reg .bh)),
    (.c286, [0xD2, 0xEF], .shrEbCl (.reg .bh)),
    (.c286, [0xD2, 0xFF], .sarEbCl (.reg .bh)),
    (.c286, [0xD3, 0x81, 0x00, 0x10], .rolEwCl (.mem (.disp16 .bxdi 0x1000))),
    (.c286, [0xD3, 0x89, 0x00, 0x10], .rorEwCl (.mem (.disp16 .bxdi 0x1000))),
    (.c286, [0xD3, 0x91, 0x00, 0x10], .rclEwCl (.mem (.disp16 .bxdi 0x1000))),
    (.c286, [0xD3, 0x99, 0x00, 0x10], .rcrEwCl (.mem (.disp16 .bxdi 0x1000))),
    (.c286, [0xD3, 0xA1, 0x00, 0x10], .shlEwCl (.mem (.disp16 .bxdi 0x1000))),
    (.c286, [0xD3, 0xA9, 0x00, 0x10], .shrEwCl (.mem (.disp16 .bxdi 0x1000))),
    (.c286, [0xD3, 0xB9, 0x00, 0x10], .sarEwCl (.mem (.disp16 .bxdi 0x1000)))] = true := by decide

/-! ## Single steps of the vectors of 95_test_vectors.md

A step that takes an exception goes on with the handler's first instruction (60 R911): a NOP stands there. -/

theorem test_S3_add_flags : (onAll fun m =>
    runs (having (on m) [(.ax, 0x7FFF)]) [0x05, 0x01, 0x00] fun t => t.reg .ax == 0x8000 && t.getPS == 0x0896 && t.ip == 0x0103) = true := by decide +kernel

theorem test_S4_shift_count :
    (runs (having (on .m8086) [(.ax, 1), (.cx, 33)]) [0xD3, 0xE0] fun t => t.reg .ax == 0 && !t.flags.cf && t.flags.zf) = true ∧
    (runs (having (on .m80286) [(.ax, 1), (.cx, 33)]) [0xD3, 0xE0] fun t => t.reg .ax == 2 && !t.flags.cf) = true := by decide +kernel

theorem test_S5_int : (onAll fun m =>
    runs (bytesAt 0x84 [0x00, 0x01, 0x00, 0x20]
        { withPs (having ((on m).setSeg .cs (.real 0x0100)) [(.sp, 0x0100)]) 0x0202 with ip := 0 }) [0xCD, 0x21] fun t =>
      wordAt t 0xFE == 0x0202 && wordAt t 0xFC == 0x0100 && wordAt t 0xFA == 2 && t.getPS == 0x0002 &&
        (t.seg .cs).selector == 0x2000 && t.ip == 0x0100) = true := by decide +kernel

theorem test_P6_push_sp : (onAll fun m =>
    runs (having (on m) [(.sp, 0x0100)]) [0x54] fun t =>
      wordAt t 0xFE == (if m.cpuClass = .c286 then 0x0100 else 0x00FE) && t.reg .sp == 0x00FE) = true := by decide +kernel

theorem test_T10s_flags : (onAll fun m =>
    (runs (having (on m) [(.ax, 0xFF)]) [0x04, 0x01] fun t => t.reg .ax == 0 && t.getPS == 0x0057) &&
    (runs (withPs (having (on m) [(.ax, 0x0F)]) 3) [0xFE, 0xC0] fun t => t.reg .ax == 0x10 && t.getPS == 0x0013) &&
    (runs (withPs (on m) 0x08D7) [0x9F] fun t => t.reg8 .ah == 0xD7) &&
    (runs (withPs (on m) 0x08D7) [0x9E] fun t => t.getPS == 0x0802)) = true := by decide +kernel

theorem test_T10_1_a20 : (onAll fun m =>
    let s := bytesAt 0 [0x11] (bytesAt 0x100000 [0x22] (having ((on m).setSeg .ds (.real 0xFFFF)) [(.bx, 0x10)]))
    (runs { s with a20 := false } [0x8A, 0x07] fun t => t.reg8 .al == 0x11) &&
    (runs { s with a20 := true } [0x8A, 0x07] fun t => t.reg8 .al == 0x22)) = true := by decide +kernel

theorem test_T10_3_word_at_ffff : (onAll fun m =>
    runs (bytesAt 0x1FFFF [0x34] (bytesAt 0x10000 [0x12] (bytesAt 0x20000 [0x56] (bytesAt 0x34 [0x0D, 0x00, 0x00, 0x03] (bytesAt 0x300D [0x90]
        (having ((on m).setSeg .ds (.real 0x1000)) [(.bx, 0xFFFF), (.sp, 0x2000)])))))) [0x8B, 0x07] fun t =>
      if m.cpuClass = .c286 then (t.seg .cs).selector == 0x0300 && t.ip == 0x0E && wordAt t 0x1FFA == 0x0100 && t.reg .ax == 0
      else t.reg .ax == (if m.cpuClass = .c86 then 0x1234 else 0x5634)) = true := by decide +kernel

theorem test_T10_6_block_split :
    Memory.read ((on .m8086).busWrite16 0xFFF 0xBEEF).mem 0xFFF = 0xEF ∧
    Memory.read ((on .m8086).busWrite16 0xFFF 0xBEEF).mem 0x1000 = 0xBE ∧
    (((on .m8086).busWrite16 0xFFF 0xBEEF).busRead16 0xFFF).1 = 0xBEEF := by decide +kernel

theorem test_T10_11_ss_privilege :
    (runs (bytesAt 0x4000 [0x90] <| bytesAt 0x1068 [0x00, 0x40, 0x08, 0x00, 0x00, 0x86] (having (prot 0) [(.ax, 0x23)])) [0x8E, 0xD0] fun t =>
      t.ip == 0x4001 && wordAt t 0x1FF8 == 0x20 && wordAt t 0x1FFA == 0x0100) = true := by decide +kernel

theorem test_T42_arithmetic : (onAll fun m =>
    (runs (having (on m) [(.ax, 5)]) [0x2D, 0x07, 0x00] fun t => t.reg .ax == 0xFFFE && t.getPS == 0x0093) &&
    (runs (withPs (having (on m) [(.ax, 0xFFFF)]) 3) [0x11, 0xC0] fun t => t.reg .ax == 0xFFFF && shows t true true true false true false) &&
    (runs (withPs (on m) 3) [0x1D, 0x00, 0x00] fun t => t.reg .ax == 0xFFFF && shows t true true true false true false) &&
    (runs (having (on m) [(.ax, 0x7F)]) [0x3C, 0xFF] fun t => t.reg .ax == 0x7F && shows t true false false false true true) &&
    (runs (having (on m) [(.ax, 0x80)]) [0xF6, 0xD8] fun t => t.reg .ax == 0x80 && shows t true false false false true true) &&
    (runs (on m) [0x48] fun t => t.reg .ax == 0xFFFF && shows t false true true false true false)) = true := by decide +kernel

theorem test_T42_multiply_divide : (onAll fun m =>
    (runs (having (on m) [(.ax, 0x10), (.bx, 0x10)]) [0xF6, 0xE3] fun t => t.reg .ax == 0x0100) &&
    (runs (having (on m) [(.ax, 0x80), (.bx, 0xFF)]) [0xF6, 0xEB] fun t => t.reg .ax == 0x0080) &&
    (runs (having (on m) [(.dx, 1), (.cx, 2)]) [0xF7, 0xF1] fun t => t.reg .ax == 0x8000 && t.reg .dx == 0) &&
    (runs (having (on m) [(.ax, 7), (.bx, 0xFE)]) [0xF6, 0xFB] fun t => t.reg .ax == 0x01FD) &&
    (runs (bytesAt 0x77 [0x90] <| bytesAt 0 [0x77, 0x00] (having (on m) [(.dx, 0xFFFF), (.ax, 0x8000), (.cx, 1), (.sp, 0x2000)])) [0xF7, 0xF9] fun t =>
      t.reg .ax == 0x8000 && if m.cpuClass = .c86 then t.ip == 0x78 && wordAt t 0x1FFA == 0x0102 else t.reg .dx == 0)) = true := by decide +kernel

theorem test_T42_decimal : (onAll fun m =>
    (runs (withPs (having (on m) [(.ax, 0x9F)]) 2) [0x27] fun t => t.reg .ax == 0x05) &&
    (runs (withPs (having (on m) [(.ax, 0xFF)]) 0x13) [0x2F] fun t => t.reg .ax == 0x99) &&
    (runs (having (on m) [(.ax, 0xFF)]) [0x37] fun t => t.reg .ax == if m.cpuClass = .c286 then 0x0205 else 0x0105) &&
    (runs (having (on m) [(.ax, 0x3F)]) [0xD4, 0x10] fun t => t.reg .ax == 0x030F) &&
    (runs (having (on m) [(.ax, 0x0305)]) [0xD5, 0x0A] fun t => t.reg .ax == 0x0023) &&
    (runs (withPs (on m) 3) [0xD6] fun t => t.reg .ax == 0xFF)) = true := by decide +kernel

theorem test_T43_shifts :
    (runs (withPs (having (on .m8086) [(.ax, 1), (.cx, 32)]) 0x0803) [0xD3, 0xE0] fun t => t.reg .ax == 0 && !t.flags.cf && t.flags.zf) = true ∧
    (runs (withPs (having (on .m80286) [(.ax, 1), (.cx, 32)]) 0x0803) [0xD3, 0xE0] fun t => t.reg .ax == 1 && t.getPS == 0x0803) = true ∧
    (runs (having (on .m8086) [(.ax, 0x80), (.cx, 9)]) [0xD2, 0xF8] fun t => t.reg .ax == 0xFF && t.flags.cf && t.flags.sf) = true ∧
    (onAll fun m =>
      (runs (having (on m) [(.ax, 0x8001), (.cx, 17)]) [0xD3, 0xC0] fun t => t.reg .ax == 3 && t.flags.cf) &&
      (runs (having (on m) [(.ax, 1), (.cx, 9)]) [0xD2, 0xD0] fun t => t.reg .ax == 1 && !t.flags.cf) &&
      (runs (withPs (on m) 3) [0xD0, 0xD8] fun t => t.reg .ax == 0x80 && !t.flags.cf && t.flags.of)) = true := by decide +kernel

theorem test_T41_data : (onAll fun m =>
    (runs (bytesAt 0x0200 [0x34, 0x12, 0x00, 0x20] (on m)) [0xC5, 0x36, 0x00, 0x02] fun t =>
      t.reg .si == 0x1234 && (t.seg .ds).selector == 0x2000) &&
    (runs (having (on m) [(.bx, 1)]) [0x8D, 0x40, 0xFE] fun t => t.reg .ax == 0xFFFF) &&
    (runs (bytesAt 0x0205 [0x77] (having (on m) [(.bx, 0x0200), (.ax, 5)])) [0xD7] fun t => t.reg8 .al == 0x77) &&
    (runs (on m) [0x8E, 0xD0] fun t => t.nointr)) = true := by decide +kernel

theorem test_T44_strings : (onAll fun m =>
    (runs (bytesAt 0x0210 [0x34, 0x12] (withPs (having (on m) [(.si, 0x0210), (.di, 0x0220)]) 0x0402)) [0xA5] fun t =>
      wordAt t 0x0220 == 0x1234 && t.reg .si == 0x020E && t.reg .di == 0x021E) &&
    (runs (having (on m) [(.si, 0x0210), (.di, 0x0220)]) [0xF3, 0xA4] fun t => t.ip == 0x0102 && t.reg .si == 0x0210) &&
    (runs (having (on m) [(.si, 0x0210), (.di, 0x0220), (.cx, 3)]) [0x26, 0xF3, 0xA4] fun t =>
      t.ip == (if m.cpuClass = .c86 then 0x0101 else 0x0100) && t.reg .cx == 2 && t.rep.isSome)) = true := by decide +kernel

theorem test_T45_transfers : (onAll fun m =>
    (runs { on m with ip := 0x2000 } [0xE9, 0x00, 0xF0] fun t => t.ip == 0x1003) &&
    (runs (on m) [0xE2, 0xFE] fun t => t.reg .cx == 0xFFFF && t.ip == 0x0100) &&
    (runs (bytesAt 0xFE [0x03, 0x02] (having (on m) [(.sp, 0xFE)])) [0xC2, 0x04, 0x00] fun t => t.ip == 0x0203 && t.reg .sp == 0x0104) &&
    (runs { having ((on m).setSeg .cs (.real 0x1000)) [(.sp, 0x0100)] with ip := 0x10 } [0x9A, 0x00, 0x01, 0x00, 0x20] fun t =>
      wordAt t 0xFE == 0x1000 && wordAt t 0xFC == 0x0015 && (t.seg .cs).selector == 0x2000 && t.ip == 0x0100)) = true := by decide +kernel

theorem test_T45_8_enter :
    (runs (bytesAt 0x01FE [0xAA, 0xAA] (having { on .m80186 with ip := 0x0400 } [(.sp, 0x0100), (.bp, 0x0200)])) [0xC8, 0, 0, 2] fun t =>
      wordAt t 0xFE == 0x0200 && wordAt t 0xFC == 0xAAAA && wordAt t 0xFA == 0x00FE && t.reg .bp == 0xFE && t.reg .sp == 0xFA) = true := by decide +kernel

theorem test_T45_13_outer_return :
    (runs (bytesAt 0x0F00 [0x00, 0x20, 0x1B, 0x00, 0x00, 0x30, 0x23, 0x00] (having (prot 0) [(.sp, 0x0F00)])) [0xCB] fun t =>
      t.sys.cpl == 3 && (t.seg .cs).selector == 0x1B && t.ip == 0x2000 && (t.seg .ss).selector == 0x23 &&
        t.reg .sp == 0x3000 && (t.seg .ds).nullLoaded) = true := by decide +kernel

theorem test_T47_system :
    (runs (having (on .m80286) [(.ax, 1)]) [0x0F, 0x01, 0xF0] fun t => t.sys.msw == 0xFFF1) = true ∧
    (runs (on .m80286) [0x0F, 0x01, 0x0E, 0x00, 0x02] fun t =>
      (List.range 6).map (fun k => Memory.read t.mem (0x0200 + k)) == [0xFF, 0x03, 0, 0, 0, 0xFF]) = true ∧
    (runs (having (prot 0) [(.bx, 0x10)]) [0x0F, 0x02, 0xC3] fun t => t.reg .ax == 0x9300 && t.flags.zf) = true ∧
    (runs (having (prot 0) [(.bx, 0x18), (.ax, 3)]) [0x63, 0xC3] fun t => t.reg .bx == 0x1B && t.flags.zf) = true ∧
    (runs (having (prot 0) [(.ax, 0x28)]) [0x0F, 0x00, 0xD8] fun t =>
      t.sys.tr.selector == 0x28 && t.sys.tr.base == 0x3000 && Memory.read t.mem 0x082D == 0x83) = true := by decide +kernel

theorem test_T60_7_gate :
    (runs (withPs (bytesAt 0x1180 [0x00, 0x02, 0x08, 0x00, 0x00, 0x86] (prot 0)) 0x0202) [0xCD, 0x30] fun t =>
      wordAt t 0x1FFE == 0x0202 && wordAt t 0x1FFC == 8 && wordAt t 0x1FFA == 0x0102 && t.reg .sp == 0x1FFA &&
        t.ip == 0x0200 && !t.ifl) = true := by decide +kernel

theorem test_T60_11_shutdown :
    (runs { on .m80286 with sys := { (on .m80286).sys with idtr := { base := 0, limit := 0x001F } } } [0xCD, 0x08] fun t =>
      t.status == .shutdown) = true := by decide +kernel

theorem test_T60_12_iret : (onAll fun m =>
    runs (bytesAt 0x1000 [0x02, 0x00, 0x00, 0x01, 0x02, 0x02] (having (on m) [(.sp, 0x1000)])) [0xCF] fun t =>
      t.ip == 2 && (t.seg .cs).selector == 0x0100 && t.getPS == 0x0202 && t.reg .sp == 0x1006) = true := by decide +kernel

theorem test_T70_2_reset_jump :
    (match step (bytesAt 0xFFFFF0 [0xEA, 0x00, 0x00, 0x00, 0xF0] State.reset) with
      | .next t => (t.seg .cs).base == 0x0F0000 && t.ip == 0
      | _ => false) = true := by decide +kernel

theorem test_R911_handlers :
    (runs (bytesAt 0x77 [0xF1] <| bytesAt 0x80 [0x90] <| bytesAt 0 [0x77, 0x00] <| bytesAt 0x18 [0x80, 0x00]
        (having (on .m80286) [(.sp, 0x2000)])) [0xF7, 0xF1] fun t =>
      t.ip == 0x81 && wordAt t 0x1FFA == 0x0100 && wordAt t 0x1FF4 == 0x77 && !t.handlerEntry) = true := by decide +kernel

theorem test_R907_timers :
    (let t := ({ on .m8086 with host := { (on .m8086).host with timerAnswers := [[false, true]] } } : State).applyCall (.enterStepCpu 5)
     t.intFlags.intr && t.host.cycles.remaining == 5 && t.host.calls == [.updateAllTimers]) = true := by decide +kernel

theorem test_R145_device_fetch :
    (let s : State := { on .m8086 with
      cfg := { Config.ofModel .m8086 with prefetchEnabled := false }, blocks := [{ first := 0, count := 1, kind := .device 0 }] }
     (s.fetchAdvance 2).host.calls == [.deviceRead 0x0101 1, .deviceRead 0x0100 1]) = true := by decide +kernel

theorem test_R141_repeated_queue :
    (runs (having (on .m8086) [(.cx, 2), (.di, 0x0200)]) [0xF3, 0xAA] fun t =>
      t.queue.queuedBytes == 0 && t.rep.any fun p => p.ahead.queuedBytes == 6 && p.nextIp == 0x0102) = true := by decide +kernel

/-- A flush between two iterations: what the second reads ahead is from before its own store. -/
theorem test_R141_flushed_queue :
    (runs (having (on .m8086) [(.ax, 0x90), (.cx, 3), (.di, 0x0101)]) [0xF3, 0xAA] fun t =>
      match step (t.applyCall .flushQueue) with
      | .next u => Memory.read u.mem 0x0102 == 0x90 && u.rep.any fun p =>
          p.ahead.queuedBytes == 6 && p.ahead.held (Prefetch.ringSize .m8086) 0 == some 0
      | _ => false) = true := by decide +kernel

theorem test_R57_registry :
    (let s := (on .m80286).applyCall (.addIntNotify { vector := 0x13, observer := 1, callback := 2 })
     s.host.intNotify == [{ vector := 0x13, observer := 1, callback := 2 }] && s.resetCpu.host.intNotify == []) = true := by
  decide +kernel

theorem test_R55_ring : (runs (on .m8088) [0x90] fun t => t.queue.queuedBytes == 3 && t.queue.latch.isSome) = true := by decide +kernel

theorem test_R677_words :
    (runs (bytesAt 0x2000 [0x22, 0x22, 0x11, 0x11] (bytesAt 0x3002 [0x00, 0x1F, 0x10, 0x00] (prot 3))) [0x9A, 0, 0, 0x38, 0] fun t =>
      (List.range 6).map (fun k => wordAt t (0x1EFE - 2 * k)) == [0x23, 0x2000, 0x1111, 0x2222, 0x1B, 0x0105] &&
        t.reg .sp == 0x1EF4 && t.sys.cpl == 0 && t.ip == 0x0200) = true := by decide +kernel

theorem test_R124_null_outer_ss :
    (runs (bytesAt 0x4000 [0x90] <| bytesAt 0x1058 [0x00, 0x40, 0x08, 0x00, 0x00, 0x86] <|
        bytesAt 0x0F00 [0x00, 0x20, 0x1B, 0x00, 0x00, 0x30, 0x00, 0x00] (having (prot 0) [(.sp, 0x0F00)])) [0xCB] fun t =>
      t.ip == 0x4001 && wordAt t 0x0EF8 == 0 && t.sys.cpl == 0) = true := by decide +kernel

/-! ## States and operands that meet the statements' hypotheses -/

theorem pushes {s : State} {n : Nat}
    (h : ((List.range n).all fun k => s.accessFault .ss (s.regs.sp - BitVec.ofNat 16 (2 * (k + 1))) 1 true == none) = true) :
    s.canPush n := by simpa [State.canPush] using h

theorem pops {s : State} {n : Nat}
    (h : ((List.range n).all fun k => s.accessFault .ss (s.regs.sp + BitVec.ofNat 16 (2 * k)) 1 false == none) = true) :
    s.canPop n := by simpa [State.canPop] using h

theorem no_push {s : State} {n : Nat}
    (h : ((List.range n).all fun k => s.accessFault .ss (s.regs.sp - BitVec.ofNat 16 (2 * (k + 1))) 1 true == none) = false) :
    ¬s.canPush n := by
  intro hp
  have : ((List.range n).all fun k => s.accessFault .ss (s.regs.sp - BitVec.ofNat 16 (2 * (k + 1))) 1 true == none) = true := by
    simpa [State.canPush] using hp
  rw [h] at this
  exact absurd this (by decide)

theorem goes {o : Host.Outcome State Fault Refusal} (h : (match o with | .next _ => true | _ => false) = true) :
    ∃ t, o = .next t := by cases o <;> simp_all

theorem succeeds {α : Type} {r : Res α} (h : r.isOk = true) : ∃ u, r = .ok u := by
  cases r <;> simp_all [Except.isOk, Except.toBool]

theorem fails {α : Type} {r : Res α} {e : Exc} (h : (match r with | .error x => x.exc == e && !x.committed | .ok _ => false) = true) :
    Raises r e := by
  rcases r with ⟨x, u, c⟩ | u
  · simp at h; obtain ⟨rfl, rfl⟩ := h; exact ⟨u, rfl⟩
  · simp at h

/-- Real mode with a stack, on a class. -/
def low (m : Model) : State := having (on m) [(.sp, 0x2000), (.bp, 0x2010), (.bx, 0x0200), (.cx, 2), (.ax, 0x0705)]

/-- With a TSS that gives the stack 10:1F00 for level 0. -/
def user : State := bytesAt 0x3002 [0x00, 0x1F, 0x10, 0x00] (prot 3)

theorem prot_quiet (cpl : BitVec 2) (h : cpl = 0 ∨ cpl = 3) : (prot cpl).quiet := by
  rcases h with h | h <;> subst h <;> exact ⟨rfl, by decide +kernel⟩

theorem witness_StepKeepsInv : ∃ s t : State, s.Inv ∧ step s = .next t :=
  have ⟨t, h⟩ := goes (o := step (State.placeAll [0x90] 0x0100 (on .m80286))) (by decide +kernel)
  ⟨State.placeAll [0x90] 0x0100 (on .m80286), t,
    ⟨by decide +kernel, by decide +kernel, by decide +kernel,
      ⟨by decide +kernel, by decide +kernel, by decide +kernel, by decide +kernel, by decide +kernel, by decide +kernel, by decide +kernel⟩,
      fun p hp => by cases hp⟩, h⟩

theorem prot_modeInv (cpl : BitVec 2) (h : cpl = 0 ∨ cpl = 3) : (prot cpl).ModeInv := by
  refine ⟨prot_quiet cpl h, ?_, ?_, ?_, ?_, ?_⟩ <;> rcases h with h | h <;> subst h
  case refine_3.inl => intro r hr; cases r <;> exact absurd hr (by decide +kernel)
  case refine_3.inr => intro r hr; cases r <;> exact absurd hr (by decide +kernel)
  case refine_5.inl => intro r; cases r <;> decide +kernel
  case refine_5.inr => intro r; cases r <;> decide +kernel
  all_goals decide +kernel

theorem witness_StepKeepsModes : ∃ s t : State, s.ModeInv ∧ s.protectedMode = true ∧ s.sys.cpl = 3 ∧ step s = .next t :=
  have ⟨t, h⟩ := goes (o := step (prot 3)) (by decide +kernel)
  ⟨prot 3, t, prot_modeInv 3 (.inr rfl), rfl, rfl, h⟩

theorem witness_TablesGuarded :
    (∃ (s t : State) (i : Instr), s.quiet ∧ exec i s = .next t ∧ s.protectedMode = true) ∧
    (∃ (s t : State) (i : Instr), s.quiet ∧ exec i s = .next t ∧ t.sys.gdtr ≠ s.sys.gdtr ∧ s.protectedMode = true) ∧
    (∃ (s t : State) (i : Instr), s.quiet ∧ exec i s = .next t ∧ t.sys.idtr ≠ s.sys.idtr ∧ s.protectedMode = true) :=
  ⟨⟨prot 3, _, .nop, prot_quiet 3 (.inr rfl), rfl, rfl⟩,
    ⟨prot 0, _, .lgdtMs (.direct 0x0808), prot_quiet 0 (.inl rfl), rfl, by decide +kernel, rfl⟩,
    ⟨prot 0, _, .lidtMs (.direct 0x0808), prot_quiet 0 (.inl rfl), rfl, by decide +kernel, rfl⟩⟩

theorem witness_DecodeEncode :
    ∃ (cls : CpuClass) (i : Instr) (rest : List Byte), i.wfOn cls = true ∧ (encode i).length = 6 ∧ rest.length = 1 :=
  ⟨.c286, .addEwIw (.mem (.disp16 .bpdi 0xFFFF)) 0x8000, [0xAB], rfl, rfl, rfl⟩

theorem witness_DecodeTotal : (∃ bytes : List Byte, 6 ≤ bytes.length) ∧
    (∃ f : OpForm, f.undefinedOn .c286 = true) ∧ (∃ f : OpForm, f.undefinedOn .c186 = true) ∧
    (∃ f : OpForm, f.refusedOnC86 = true) :=
  ⟨⟨[0x0F, 0, 0, 0, 0, 0], by decide⟩, ⟨.extModrm 0x01 3 (.reg 7), rfl⟩, ⟨.modrm 0x62 0 (.reg 7), rfl⟩,
    ⟨.modrm 0xFF 7 (.mem (.disp16 .bx 0xFFFF)), rfl⟩⟩

theorem witness_RegistersAndStatus :
    (∃ q : Reg16, q = .sp ∨ q = .bp ∨ q = .si ∨ q = .di) ∧
    (∃ s : State, s.cls = .c286) ∧ (∃ s : State, s.cls ≠ .c286 ∧ s.cfg.psHigh = .ones) ∧
    (∃ (s : State) (v : Word), v &&& ~~~(0x08D5 ||| directMask s.cls) = 0 ∧ s.cls = .c286 ∧ s.protectedMode = true) ∧
    (∃ (s : State) (v : Word), v &&& ~~~(0x08D5 ||| directMask s.cls) = 0 ∧ s.cls = .c286 ∧ s.protectedMode = false ∧
      v &&& 0x7000 = 0) ∧
    (∃ (s : State) (v : Word), v &&& ~~~(0x08D5 ||| directMask s.cls) = 0 ∧ s.cls = .c86) :=
  ⟨⟨.di, by decide⟩, ⟨prot 0, rfl⟩, ⟨{ on .m8086 with cfg := { Config.ofModel .m8086 with psHigh := .ones } }, by decide, rfl⟩,
    ⟨prot 0, 0x7FD5, by decide +kernel, rfl, rfl⟩, ⟨on .m80286, 0x0FD5, by decide +kernel, rfl, rfl, by decide⟩,
    ⟨on .m8086, 0x0FD5, by decide +kernel, rfl⟩⟩

theorem witness_MemoryAccesses :
    (∃ (s : State) (p : Nat), s.kindAt p = .ram ∧ Memory.wf s.mem = true) ∧ (∃ (s : State) (p : Nat), s.kindAt p = .rom) ∧
    (∃ (s : State) (p : Nat), s.kindAt p = .unmapped) ∧ (∃ (s : State) (p d : Nat), s.kindAt p = .device d) ∧
    (∃ (s : State) (r : SegReg) (off : Word), off = 0xFFFF ∧ s.accessFault r off 1 false = none ∧
      s.accessFault r off 1 true = none ∧ s.kindAt (s.wordAddrs r off).1 = .ram ∧ s.kindAt (s.wordAddrs r off).2 = .ram) ∧
    (∃ (s : State) (r : SegReg) (off : Word), s.protectedMode = true ∧ off = 0xFFFE ∧ s.accessFault r off 1 false = none ∧
      s.accessFault r off 1 true = none ∧ s.kindAt (s.wordAddrs r off).1 = .ram ∧ s.kindAt (s.wordAddrs r off).2 = .ram) :=
  ⟨⟨prot 0, 0xFFFFFF, rfl, by decide +kernel⟩,
    ⟨{ on .m8086 with blocks := [{ first := 0xFF, count := 1, kind := .rom }] }, 0xFFFFF, rfl⟩,
    ⟨{ on .m8086 with blocks := [] }, 0, rfl⟩,
    ⟨{ on .m8086 with blocks := [{ first := 0xA0, count := 1, kind := .device 0 }] }, 0xA0000, 0, rfl⟩,
    ⟨on .m8086, .ds, 0xFFFF, rfl, rfl, rfl, rfl, rfl⟩, ⟨prot 0, .ds, 0xFFFE, rfl, rfl, rfl, rfl, rfl, rfl⟩⟩

theorem witness_Addressing :
    (∃ (s : State) (off : Word), off ≠ 0xFFFF ∧ s.cfg.wf = true ∧ s.addrMask ≠ 0xEFFFFF ∧ s.cls = .c286) ∧
    (∃ (s : State) (off : Word), off = 0xFFFF ∧ s.cls = .c86) ∧
    (∃ (s : State) (off : Word), off = 0xFFFF ∧ s.cls ≠ .c86) ∧
    (∃ s : State, s.cls ≠ .c286) ∧ (∃ s : State, s.cls = .c286 ∧ s.sys.msw.getLsbD 0 = false) ∧
    (∃ s : State, s.cls = .c286 ∧ s.sys.msw.getLsbD 0 = true) :=
  ⟨⟨prot 0, 0xFFFE, by decide, rfl, by decide +kernel, rfl⟩, ⟨on .m8086, 0xFFFF, rfl, rfl⟩, ⟨on .m80186, 0xFFFF, rfl, by decide⟩,
    ⟨on .m80186, by decide⟩, ⟨on .m80286, rfl, rfl⟩, ⟨prot 0, rfl, rfl⟩⟩

/-- Protected mode with every operand's default in code: it can be read and not written. -/
def inCodeSegment : State := { prot 0 with scratch := { (prot 0).scratch with override := some .cs } }

/-- Protected mode with DS null-loaded. -/
def noDs : State := (prot 0).setSeg .ds { flat 0 0x93 with nullLoaded := true }

/-- Protected mode with ES null-loaded. -/
def noEs : State := (prot 0).setSeg .es { flat 0 0x93 with nullLoaded := true }

/-- SP and BP given. -/
def stackAt (sp bp : Word) : State := having (on .m80286) [(.sp, sp), (.bp, bp)]

/-- Whether the first access of each instruction raises what its row says. -/
def firstRaises (rows : List (State × Instr × Exc)) : Bool :=
  rows.all fun r => (r.1.accesses r.2.1).head?.bind r.1.faultOf == some r.2.2

/-- Whether the first access of each passes and a later one raises what its row says. -/
def laterRaises (rows : List (State × Instr × Exc)) : Bool :=
  rows.all fun r => (r.1.accesses r.2.1).head?.any (fun a => r.1.faultOf a == none) &&
    r.1.firstFault (r.1.accesses r.2.1) == some r.2.2

theorem witness_OperandFaults_first : firstRaises
    [(on .m80286, .addEwGw (.mem (.direct 0xFFFF)) .ax, .gp 0), (on .m80286, .addGwEw (.mem (.direct 0xFFFF)) .ax, .gp 0),
      (noDs, .cmpEbGb (.mem (.direct 0)) .al, .gp 0), (noDs, .addGbEb (.mem (.direct 0)) .al, .gp 0),
      (having (on .m80286) [(.bp, 0xFFFF)], .movGwEw (.mem (.disp8 .bp 0)) .ax, .ss 0),
      (on .m80286, .movEwIw (.mem (.direct 0xFFFF)) 0, .gp 0), (noDs, .movAlOb 0, .gp 0), (inCodeSegment, .movObAl 0, .gp 0),
      (having (on .m80286) [(.sp, 1)], .pushCs, .ss 0), (on .m80286, .pushEw (.mem (.direct 0xFFFF)), .gp 0),
      (having (on .m80286) [(.sp, 0xFFFF)], .popf, .ss 0), (on .m80286, .movSwEw (.mem (.direct 0xFFFF)) .ss, .gp 0),
      (on .m80286, .lesGwMp (.direct 0xFFFF) .ax, .gp 0), (noDs, .movsb, .gp 0), (noEs, .insb, .gp 0), (noEs, .scasb, .gp 0),
      (having (on .m80286) [(.si, 0xFFFF)], .lodsw, .gp 0)] = true := by decide +kernel

theorem witness_OperandFaults_operands : firstRaises
    [(noDs, .incEb (.mem (.direct 0)), .gp 0), (on .m80286, .negEw (.mem (.direct 0xFFFF)), .gp 0),
      (noDs, .xchgEbGb (.mem (.direct 0)) .al, .gp 0), (on .m80286, .xchgEwGw (.mem (.direct 0xFFFF)) .ax, .gp 0),
      (noDs, .xlat, .gp 0), (noDs, .mulEb (.mem (.direct 0)), .gp 0), (on .m80286, .idivEw (.mem (.direct 0xFFFF)), .gp 0),
      (on .m80286, .imulGwEwIbs (.mem (.direct 0xFFFF)) .ax 1, .gp 0), (noDs, .shrEbCl (.mem (.direct 0)), .gp 0),
      (on .m80286, .rolEw1 (.mem (.direct 0xFFFF)), .gp 0), (inCodeSegment, .movEwSw (.mem (.direct 0)) .cs, .gp 0),
      (inCodeSegment, .smswEw (.mem (.direct 0)), .gp 0), (on .m80286, .boundGwMa (.direct 0xFFFF) .ax, .gp 0),
      (stackAt 1 0, .enterIwIb 0 0, .ss 0), (stackAt 0 0xFFFF, .leave, .ss 0), (stackAt 1 0, .pusha, .ss 0),
      (stackAt 0xFFFF 0, .popa, .ss 0), (stackAt 0xFFFF 0, .popCs, .ss 0)] = true := by decide +kernel

theorem witness_OperandFaults_transfers : firstRaises
    [(noDs, .jmpEw (.mem (.direct 0)), .gp 0), (noDs, .callEw (.mem (.direct 0)), .gp 0), (stackAt 1 0, .callJw 0, .ss 0),
      (noDs, .jmpMp (.direct 0), .gp 0), (noDs, .callMp (.direct 0), .gp 0), (stackAt 1 0, .callAp 0 0, .ss 0),
      (stackAt 0xFFFF 0, .ret, .ss 0), (stackAt 0xFFFF 0, .retfIw 2, .ss 0), (stackAt 0xFFFF 0, .iret, .ss 0),
      (inCodeSegment, .sldtEw (.mem (.direct 0)), .gp 0), (inCodeSegment, .strEw (.mem (.direct 0)), .gp 0),
      (noDs, .lldtEw (.mem (.direct 0)), .gp 0), (noDs, .ltrEw (.mem (.direct 0)), .gp 0), (noDs, .verrEw (.mem (.direct 0)), .gp 0),
      (noDs, .verwEw (.mem (.direct 0)), .gp 0), (noDs, .larGwEw (.mem (.direct 0)) .ax, .gp 0),
      (noDs, .lslGwEw (.mem (.direct 0)) .ax, .gp 0), (noDs, .arplEwGw (.mem (.direct 0)) .ax, .gp 0),
      (on .m80286, .sgdtMs (.direct 0xFFFB), .gp 0), (on .m80286, .sidtMs (.direct 0xFFFB), .gp 0),
      (on .m80286, .lgdtMs (.direct 0xFFFC), .gp 0), (on .m80286, .lidtMs (.direct 0xFFFC), .gp 0),
      (on .m80286, .lmswEw (.mem (.direct 0xFFFF)), .gp 0)] = true := by decide +kernel

theorem witness_OperandFaults_later : laterRaises
    [(inCodeSegment, .addEwGw (.mem (.direct 0)) .ax, .gp 0), (inCodeSegment, .xorEbIb false (.mem (.direct 0)) 1, .gp 0),
      (noEs, .movsb, .gp 0), (noEs, .cmpsw, .gp 0), (stackAt 1 0, .pushEw (.mem (.direct 0)), .ss 0),
      (on .m80286, .popEw (.mem (.direct 0xFFFF)), .gp 0), (on .m80286, .ldsGwMp (.direct 0xFFFD) .ax, .gp 0),
      (inCodeSegment, .notEb (.mem (.direct 0)), .gp 0), (inCodeSegment, .xchgEbGb (.mem (.direct 0)) .al, .gp 0),
      (inCodeSegment, .shlEw1 (.mem (.direct 0)), .gp 0), (on .m80286, .boundGwMa (.direct 0xFFFD) .ax, .gp 0),
      (stackAt 3 0, .enterIwIb 0 1, .ss 0), (stackAt 0 1, .enterIwIb 0 2, .ss 0), (stackAt 15 0, .pusha, .ss 0),
      (stackAt 0xFFF1 0, .popa, .ss 0), (stackAt 1 0, .callEw (.mem (.direct 0)), .ss 0), (stackAt 3 0, .callMp (.direct 0), .ss 0),
      (stackAt 3 0, .callAp 0 0, .ss 0), (stackAt 0xFFFD 0, .retf, .ss 0), (stackAt 0xFFFB 0, .iret, .ss 0),
      (inCodeSegment, .arplEwGw (.mem (.direct 0)) .ax, .gp 0)] = true := by decide +kernel

theorem witness_AluBytes : ∃ (s : State) (i : Instr) (o : AluOp) (d : RM Reg8) (x : Src Reg8 8), aluForm8 i = some (o, d, x) ∧
    s.canReadEb d ∧ s.canReadSrc8 x ∧ (o.writes = true → s.canWriteEb d) :=
  ⟨on .m80286, .addEbGb (.mem (.direct 0xFFFF)) .al, .add, .mem (.direct 0xFFFF), .e (.reg .al), rfl, rfl, trivial, fun _ => rfl⟩

theorem witness_AluWords : ∃ (s : State) (i : Instr) (o : AluOp) (d : RM Reg16) (x : Src Reg16 16),
    aluForm16 i = some (o, d, x) ∧ s.canReadEw d ∧ s.canReadSrc16 x ∧ (o.writes = true → s.canWriteEw d) :=
  ⟨on .m8086, .sbbEwIbs (.mem (.direct 0xFFFF)) 0x80, .sbb, .mem (.direct 0xFFFF), .imm 0xFF80, rfl, rfl, trivial, fun _ => rfl⟩

theorem witness_UnaryInstructions :
    (∃ (s : State) (i : Instr) (o : UnaryOp) (d : RM Reg8), unaryForm8 i = some (o, d) ∧ s.canReadEb d ∧ s.canWriteEb d) ∧
    (∃ (s : State) (i : Instr) (o : UnaryOp) (d : RM Reg16), unaryForm16 i = some (o, d) ∧ s.canReadEw d ∧ s.canWriteEw d) :=
  ⟨⟨on .m80286, .negEb (.mem (.direct 0xFFFF)), .neg, _, rfl, rfl, rfl⟩, ⟨on .m80286, .incR16 .sp, .inc, _, rfl, trivial, trivial⟩⟩

theorem witness_Multiplies : (∃ (s : State) (e : RM Reg8), e = .mem (.direct 0xFFFF) ∧ s.canReadEb e) ∧
    (∃ (s : State) (e : RM Reg16), e = .mem (.direct 0xFFFE) ∧ s.canReadEw e) :=
  ⟨⟨on .m80286, _, rfl, rfl⟩, ⟨on .m80286, _, rfl, rfl⟩⟩

theorem witness_Divisions :
    (∃ (s : State) (e : RM Reg8), s.canReadEb e ∧ s.valueEb e ≠ 0 ∧ (s.reg .ax).toNat / (s.valueEb e).toNat = 255) ∧
    (∃ (s : State) (e : RM Reg8), s.canReadEb e ∧ s.valueEb e ≠ 0 ∧ s.cls = .c86 ∧
      (s.reg .ax).toInt.tdiv (s.valueEb e).toInt = -127) ∧
    (∃ (s : State) (e : RM Reg8), s.canReadEb e ∧ s.valueEb e ≠ 0 ∧ s.cls = .c286 ∧
      (s.reg .ax).toInt.tdiv (s.valueEb e).toInt = -128) ∧
    (∃ (s : State) (e : RM Reg16), s.canReadEw e ∧ s.valueEw e ≠ 0 ∧ s.dxax.toNat / (s.valueEw e).toNat = 65535) ∧
    (∃ (s : State) (e : RM Reg16), s.canReadEw e ∧ s.valueEw e ≠ 0 ∧ s.cls = .c286 ∧
      s.dxax.toInt.tdiv (s.valueEw e).toInt = -32768) ∧
    (∃ (s : State) (e : RM Reg8), s.canReadEb e ∧ s.valueEb e = 0) ∧
    (∃ (s : State) (e : RM Reg8), s.canReadEb e ∧ (s.reg .ax).toNat / (s.valueEb e).toNat = 256) ∧
    (∃ (s : State) (e : RM Reg8), s.canReadEb e ∧ s.cls = .c86 ∧ (s.reg .ax).toInt.tdiv (s.valueEb e).toInt = -128) ∧
    (∃ (s : State) (e : RM Reg16), s.canReadEw e ∧ s.dxax.toNat / (s.valueEw e).toNat = 65536) ∧
    (∃ (s : State) (e : RM Reg16), s.canReadEw e ∧ s.dxax.toInt.tdiv (s.valueEw e).toInt = 32768) :=
  ⟨⟨having (on .m8086) [(.ax, 0xFF), (.bx, 1)], .reg .bl, trivial, by decide +kernel, by decide +kernel⟩,
    ⟨having (on .m8086) [(.ax, 0xFF81), (.bx, 1)], .reg .bl, trivial, by decide +kernel, rfl, by decide +kernel⟩,
    ⟨having (on .m80286) [(.ax, 0xFF80), (.bx, 1)], .reg .bl, trivial, by decide +kernel, rfl, by decide +kernel⟩,
    ⟨having (on .m8086) [(.ax, 0xFFFF), (.bx, 1)], .reg .bx, trivial, by decide +kernel, by decide +kernel⟩,
    ⟨having (on .m80286) [(.ax, 0x8000), (.dx, 0xFFFF), (.bx, 1)], .reg .bx, trivial, by decide +kernel, rfl, by decide +kernel⟩,
    ⟨on .m8086, .reg .bl, trivial, rfl⟩, ⟨having (on .m8086) [(.ax, 0x100), (.bx, 1)], .reg .bl, trivial, by decide +kernel⟩,
    ⟨having (on .m8086) [(.ax, 0xFF80), (.bx, 1)], .reg .bl, trivial, rfl, by decide +kernel⟩,
    ⟨having (on .m8086) [(.dx, 1), (.bx, 1)], .reg .bx, trivial, by decide +kernel⟩,
    ⟨having (on .m8086) [(.ax, 0x8000), (.bx, 1)], .reg .bx, trivial, by decide +kernel⟩⟩

theorem witness_DecimalInstructions : (∃ (s : State) (low high : Bool),
    low = (decide (9 < (s.reg8 .al).toNat % 16) || s.flags.af) ∧ high = (decide (0x99 < (s.reg8 .al).toNat) || s.flags.cf) ∧
      low = true ∧ high = true) ∧
    (∃ (s : State) (a : Bool), a = (decide (9 < (s.reg8 .al).toNat % 16) || s.flags.af) ∧ a = true ∧ s.cls = .c286) :=
  ⟨⟨having (on .m8086) [(.ax, 0x9A)], true, true, by decide +kernel, by decide +kernel, rfl, rfl⟩,
    ⟨having (on .m80286) [(.ax, 0xFA)], true, by decide +kernel, rfl, rfl⟩⟩

theorem witness_ShiftsAndRotates :
    (∃ (s : State) (i : Instr) (o : ShiftOp) (d : RM Reg8) (k : ShiftCount) (c : Nat), shiftForm8 i = some (o, d, k) ∧
      c = (if s.cls = .c86 then (s.countOf k).toNat else (s.countOf k).toNat % 32) ∧ 0 < c ∧ s.canReadEb d ∧ s.canWriteEb d ∧
      c = 255) ∧
    (∃ (s : State) (i : Instr) (o : ShiftOp) (d : RM Reg16) (k : ShiftCount) (c : Nat), shiftForm16 i = some (o, d, k) ∧
      c = (if s.cls = .c86 then (s.countOf k).toNat else (s.countOf k).toNat % 32) ∧ 0 < c ∧ s.canReadEw d ∧ s.canWriteEw d ∧
      c = 31) ∧
    (∃ (s : State) (i : Instr) (o : ShiftOp) (d : RM Reg8) (k : ShiftCount), shiftForm8 i = some (o, d, k) ∧
      (if s.cls = .c86 then (s.countOf k).toNat else (s.countOf k).toNat % 32) = 0 ∧ s.canReadEb d) ∧
    (∃ (s : State) (i : Instr) (o : ShiftOp) (d : RM Reg16) (k : ShiftCount), shiftForm16 i = some (o, d, k) ∧
      (if s.cls = .c86 then (s.countOf k).toNat else (s.countOf k).toNat % 32) = 0 ∧ s.canReadEw d) :=
  ⟨⟨having (on .m8086) [(.cx, 0xFF)], .rclEbCl (.mem (.direct 0xFFFF)), .rcl, _, .cl, 255, rfl, by decide +kernel, by decide, rfl, rfl, rfl⟩,
    ⟨on .m80286, .sarEwIb (.reg .ax) 0xFF, .sar, _, .imm 0xFF, 31, rfl, by decide +kernel, by decide, trivial, trivial, rfl⟩,
    ⟨on .m8086, .rolEbCl (.reg .ah), .rol, _, .cl, rfl, by decide +kernel, trivial⟩,
    ⟨on .m80186, .shlEwIb (.reg .ax) 0x20, .shl, _, .imm 0x20, rfl, by decide +kernel, trivial⟩⟩

theorem witness_Moves :
    (∃ (s : State) (i : Instr) (d : RM Reg8) (x : Src Reg8 8), moveForm8 i = some (d, x) ∧ s.canReadSrc8 x ∧ s.canWriteEb d) ∧
    (∃ (s : State) (i : Instr) (d : RM Reg16) (x : Src Reg16 16), moveForm16 i = some (d, x) ∧ s.canReadSrc16 x ∧ s.canWriteEw d) ∧
    (∃ (s : State) (d : RM Reg16), d = .mem (.direct 0xFFFE) ∧ s.canWriteEw d) :=
  ⟨⟨on .m80286, .movObAl 0xFFFF, _, _, rfl, trivial, rfl⟩, ⟨on .m80286, .movAxOw 0xFFFE, _, _, rfl, rfl, trivial⟩,
    ⟨on .m80286, _, rfl, rfl⟩⟩

theorem witness_Exchanges :
    (∃ (s : State) (e : RM Reg8) (g : Reg8), s.canReadEb e ∧ s.canWriteEb e ∧ e ≠ .reg g) ∧
    (∃ (s : State) (i : Instr) (e : RM Reg16) (g : Reg16), exchangeForm16 i = some (e, g) ∧ s.canReadEw e ∧ s.canWriteEw e ∧
      e ≠ .reg g) ∧
    (∃ s : State, s.accessFault (s.segOr .ds) (s.reg .bx + zext16 (s.reg8 .al)) 0 false = none) :=
  ⟨⟨on .m80286, .mem (.direct 0xFFFF), .al, rfl, rfl, by decide⟩,
    ⟨on .m80286, .xchgAxSp, .reg .ax, .sp, rfl, trivial, trivial, by decide⟩, ⟨on .m80286, rfl⟩⟩

theorem witness_SegmentLoadsReal : ∃ s : State, s.protectedMode = false ∧ s.cls = .c86 ∧ s.canPop 1 ∧
    (∃ (i : Instr) (e : RM Reg16) (r : SegReg), (i = .movSwEw e r ∨ i = .movSwEwHigh e r) ∧ r ≠ .cs ∧ s.canReadEw e) ∧
    (∃ m : MemRef, s.canReadPair m) ∧
    (∃ (i : Instr) (e : RM Reg16), (i = .movCsEw e ∨ i = .movSwEw e .cs ∨ i = .movSwEwHigh e .cs) ∧ s.canReadEw e) :=
  ⟨low .m8086, rfl, rfl, pops rfl, ⟨_, .mem (.direct 0xFFFF), .ss, .inr rfl, by decide, rfl⟩, ⟨.direct 0xFFFF, rfl, rfl⟩,
    ⟨_, .reg .ax, .inl rfl, trivial⟩⟩

theorem witness_SegmentLoadsProtected : ∃ s : State, s.protectedMode = true ∧
    (s.isNull 0 = true) ∧ (s.isNull 0x78 = false ∧ s.inTable 0x78 = false) ∧
    (s.isNull 0x28 = false ∧ s.inTable 0x28 = true ∧ (s.descOf 0x28).readable = false) ∧
    (s.isNull 0x13 = false ∧ s.inTable 0x13 = true ∧ (s.descOf 0x13).conforming = false ∧
      (s.descOf 0x13).dpl.toNat < max s.sys.cpl.toNat (rpl 0x13).toNat) ∧
    (s.inTable 0x10 = true ∧ (s.descOf 0x10).readable = true ∧
      max s.sys.cpl.toNat (rpl 0x10).toNat ≤ (s.descOf 0x10).dpl.toNat ∧ (s.descOf 0x10).present = true ∧
      (s.descOf 0x10).writable = true ∧ rpl 0x10 = s.sys.cpl ∧ (s.descOf 0x10).dpl = s.sys.cpl) ∧
    (s.inTable 0x58 = true ∧ (s.descOf 0x58).readable = true ∧
      max s.sys.cpl.toNat (rpl 0x58).toNat ≤ (s.descOf 0x58).dpl.toNat ∧ (s.descOf 0x58).present = false ∧
      (s.descOf 0x58).writable = true ∧ rpl 0x58 = s.sys.cpl ∧ (s.descOf 0x58).dpl = s.sys.cpl) ∧
    (s.inTable 0x50 = true ∧ (s.descOf 0x50).readable = true ∧ (s.descOf 0x50).conforming = true ∧ (s.descOf 0x50).present = true) :=
  ⟨prot 0, by decide +kernel⟩

theorem witness_SegmentLoadsProtected_accessed : ∃ (s : State) (d : Desc), s.protectedMode = true ∧ d = s.descOf 0x10 ∧
    s.isNull 0x10 = false ∧ s.inTable 0x10 = true ∧ s.kindAt (s.accessAddr 0x10) = .ram ∧ accAccessed d.access = false ∧
    d.readable = true ∧ max s.sys.cpl.toNat (rpl 0x10).toNat ≤ d.dpl.toNat ∧
    d.writable = true ∧ rpl 0x10 = s.sys.cpl ∧ d.dpl = s.sys.cpl ∧ d.present = true :=
  ⟨bytesAt 0x0815 [0x92] (prot 0), _, rfl, rfl, by decide +kernel⟩

theorem witness_SegmentLoadInstructions :
    (∃ (s : State) (i : Instr) (e : RM Reg16) (r : SegReg) (u : State), i = .movSwEw e r ∧ r ≠ .cs ∧ s.canReadEw e ∧
      s.protectedMode = true ∧ (s.afterEw e).loadSeg r (s.valueEw e) = .ok u) ∧
    (∃ (s : State) (i : Instr) (e : RM Reg16) (r : SegReg) (x : Exc), i = .movSwEw e r ∧ r ≠ .cs ∧ s.canReadEw e ∧
      s.protectedMode = true ∧ Raises ((s.afterEw e).loadSeg r (s.valueEw e)) x) ∧
    (∃ (s : State) (u : State), s.canPop 1 ∧ s.protectedMode = true ∧
      (s.segGet16 .ss (s.reg .sp)).2.loadSeg .ds (s.segGet16 .ss (s.reg .sp)).1 = .ok u) ∧
    (∃ (s : State) (x : Exc), s.canPop 1 ∧ s.protectedMode = true ∧
      Raises ((s.segGet16 .ss (s.reg .sp)).2.loadSeg .ss (s.segGet16 .ss (s.reg .sp)).1) x) ∧
    (∃ (s : State) (m : MemRef) (u : State), s.canReadPair m ∧ s.protectedMode = true ∧
      (s.afterPair m).loadSeg .es (s.valuePair m).2 = .ok u) ∧
    (∃ (s : State) (m : MemRef) (x : Exc), s.canReadPair m ∧ s.protectedMode = true ∧
      Raises ((s.afterPair m).loadSeg .es (s.valuePair m).2) x) :=
  have ⟨u, hu⟩ := succeeds (r := ((having (prot 0) [(.ax, 0x10)]).afterEw (.reg .ax)).loadSeg .ss ((having (prot 0) [(.ax, 0x10)]).valueEw (.reg .ax))) (by decide +kernel)
  have ⟨v, hv⟩ := succeeds (r := ((prot 0).segGet16 .ss ((prot 0).reg .sp)).2.loadSeg .ds ((prot 0).segGet16 .ss ((prot 0).reg .sp)).1) (by decide +kernel)
  have ⟨w, hw⟩ := succeeds (r := ((prot 0).afterPair (.direct 0x5000)).loadSeg .es ((prot 0).valuePair (.direct 0x5000)).2) (by decide +kernel)
  ⟨⟨having (prot 0) [(.ax, 0x10)], _, .reg .ax, .ss, u, rfl, by decide, trivial, rfl, hu⟩,
    ⟨having (prot 0) [(.ax, 0)], _, .reg .ax, .ss, .np 0, rfl, by decide, trivial, rfl, fails (by decide +kernel)⟩,
    ⟨prot 0, v, pops rfl, rfl, hv⟩, ⟨prot 0, .np 0, pops rfl, rfl, fails (by decide +kernel)⟩,
    ⟨prot 0, .direct 0x5000, w, ⟨rfl, rfl⟩, rfl, hw⟩,
    ⟨bytesAt 0x5002 [0x28] (prot 0), .direct 0x5000, .gp 0x28, ⟨rfl, rfl⟩, rfl, fails (by decide +kernel)⟩⟩

theorem witness_Pushes :
    (∃ (s : State) (i : Instr) (v : Word), s.pushedBy i = some v ∧ s.canPush 1) ∧
    (∃ (s : State) (e : RM Reg16), e = .mem (.direct 0xFFFF) ∧ s.canReadEw e ∧ s.canPush 1) :=
  ⟨⟨low .m80286, .pushSp, _, rfl, pushes rfl⟩, ⟨on .m8086, _, rfl, rfl, pushes rfl⟩⟩

theorem witness_Pops :
    (∃ (s : State) (i : Instr) (r : Reg16), i = .popR16 r ∧ r = .sp ∧ s.canPop 1) ∧
    (∃ (s : State) (m : MemRef), m = .disp8 .bp 0xF0 ∧ s.canPop 1 ∧ s.canWriteEw (.mem m)) ∧
    (∃ s : State, s.protectedMode = true ∧ s.iopl.toNat < s.sys.cpl.toNat ∧ s.canPop 1) ∧
    (∃ s : State, s.protectedMode = true ∧ s.sys.cpl = 0 ∧ s.canPop 1) :=
  ⟨⟨low .m80286, _, .sp, rfl, rfl, pops rfl⟩, ⟨low .m80286, _, rfl, pops rfl, rfl⟩, ⟨prot 3, rfl, by decide +kernel, pops rfl⟩,
    ⟨prot 0, rfl, rfl, pops rfl⟩⟩

theorem witness_PushaPopa : (∃ s : State, s.reg .sp = 0x10 ∧ s.canPush 8) ∧
    (∃ (s : State) (di si bp x bx dx cx ax : Word), s.canPop 8 ∧ (s.popMany 8).1 = [di, si, bp, x, bx, dx, cx, ax]) :=
  ⟨⟨having (on .m80286) [(.sp, 0x10)], rfl, pushes rfl⟩,
    ⟨bytesAt 0x2000 [1, 0, 2, 0, 3, 0, 4, 0, 5, 0, 6, 0, 7, 0, 8, 0] (low .m80286), 1, 2, 3, 4, 5, 6, 7, 8, pops rfl, by decide +kernel⟩⟩

theorem witness_FramesAndBounds :
    (∃ s : State, s.accessFault .ss (s.reg .bp) 1 false = none) ∧
    (∃ (s : State) (lev : Byte), lev = 0x20 ∧ lev.toNat % 32 = 0 ∧ s.canPush 1) ∧
    (∃ (s : State) (lev : Byte) (n : Nat), lev = 0xFF ∧ n = 30 ∧ lev.toNat % 32 = n + 1 ∧ s.canPush (n + 2) ∧
      (∀ k < n, s.accessFault .ss (s.reg .bp - BitVec.ofNat 16 (2 * (k + 1))) 1 false = none) ∧
      (∀ k < n, s.kindAt (s.wordAddrs .ss (s.reg .bp - BitVec.ofNat 16 (2 * (k + 1)))).1 = .ram ∧
        s.kindAt (s.wordAddrs .ss (s.reg .bp - BitVec.ofNat 16 (2 * (k + 1)))).2 = .ram ∧
        (s.wordAddrs .ss (s.reg .bp - BitVec.ofNat 16 (2 * (k + 1)))).1 ∉ s.pushedAddrs (n + 2) ∧
        (s.wordAddrs .ss (s.reg .bp - BitVec.ofNat 16 (2 * (k + 1)))).2 ∉ s.pushedAddrs (n + 2))) ∧
    (∃ (s : State) (m : MemRef) (g : Reg16), s.canReadPair m ∧ (s.reg g).toInt = (s.valuePair m).2.toInt ∧
      (s.valuePair m).1.toInt ≤ (s.reg g).toInt) ∧
    (∃ (s : State) (m : MemRef) (g : Reg16), s.canReadPair m ∧ (s.reg g).toInt < (s.valuePair m).1.toInt) :=
  ⟨⟨having (on .m80286) [(.bp, 0xFFFE)], rfl⟩, ⟨low .m80286, _, rfl, rfl, pushes rfl⟩,
    ⟨having (on .m80286) [(.sp, 0x2000), (.bp, 0x2100)], _, 30, rfl, rfl, rfl, pushes rfl, by decide +kernel, by decide +kernel⟩,
    ⟨bytesAt 0x0200 [0, 0, 10, 0] (having (on .m80286) [(.ax, 10)]), .direct 0x0200, .ax, ⟨rfl, rfl⟩, by decide +kernel, by decide +kernel⟩,
    ⟨having (on .m80286) [(.ax, 0xFFFF)], .direct 0xFFFC, .ax, ⟨rfl, rfl⟩, by decide +kernel⟩⟩

theorem witness_FlagInstructions :
    (∃ s : State, ¬(s.protectedMode = true ∧ s.iopl.toNat < s.sys.cpl.toNat) ∧ s.protectedMode = true) ∧
    (∃ s : State, s.protectedMode = true ∧ s.iopl.toNat < s.sys.cpl.toNat) :=
  ⟨⟨prot 0, by decide +kernel⟩, ⟨prot 3, by decide +kernel⟩⟩

theorem witness_Ports :
    (∃ (s : State) (i : Instr) (port a : Word) (n : Nat) (rest : List Word), s.inForm i = some (port, n) ∧
      ¬(s.protectedMode = true ∧ s.iopl.toNat < s.sys.cpl.toNat) ∧ s.host.ioAnswers = a :: rest) ∧
    (∃ (s : State) (i : Instr) (port v : Word) (n : Nat), s.outForm i = some (port, n, v) ∧
      ¬(s.protectedMode = true ∧ s.iopl.toNat < s.sys.cpl.toNat)) ∧
    (∃ (s : State) (i : Instr), (s.inForm i).isSome = true ∧ s.protectedMode = true ∧ s.iopl.toNat < s.sys.cpl.toNat) :=
  ⟨⟨{ on .m8086 with host := { (on .m8086).host with ioAnswers := [0x55] } }, .inAlIb 0x60, 0x60, 0x55, 1, [], rfl, by decide +kernel, rfl⟩,
    ⟨having (on .m8086) [(.dx, 0xFFFF)], .outDxAx, 0xFFFF, 0, 2, rfl, by decide +kernel⟩, ⟨prot 3, .inAxDx, rfl, by decide +kernel⟩⟩

theorem witness_ProcessorControl :
    (∃ s : State, s.protectedMode = true ∧ s.sys.cpl = 0) ∧ (∃ s : State, s.protectedMode = true ∧ s.sys.cpl ≠ 0) ∧
    (∃ s : State, s.cls = .c286 ∧ ¬(s.sys.msw.getLsbD 2 = true ∨ s.sys.msw.getLsbD 3 = true)) ∧
    (∃ s : State, s.cls = .c286 ∧ s.sys.msw.getLsbD 1 = true ∧ s.sys.msw.getLsbD 3 = true) :=
  ⟨⟨prot 0, by decide +kernel⟩, ⟨prot 3, by decide +kernel⟩, ⟨prot 0, by decide +kernel⟩,
    ⟨{ on .m80286 with sys := { resetSys with msw := 0xFFFA } }, by decide +kernel⟩⟩

theorem witness_StringElements :
    (∃ s : State, s.scratch.rep = none ∧ s.df = true ∧ s.accessFault (s.segOr .ds) (s.reg .si) 0 false = none ∧
      s.accessFault .es (s.reg .di) 0 true = none ∧ s.accessFault .es (s.reg .di) 0 false = none ∧ s.reg .di = 0xFFFF) ∧
    (∃ s : State, s.scratch.rep = none ∧ s.df = false ∧ s.accessFault (s.segOr .ds) (s.reg .si) 1 false = none ∧
      s.accessFault .es (s.reg .di) 1 true = none ∧ s.accessFault .es (s.reg .di) 1 false = none ∧ s.reg .di = 0xFFFE) :=
  ⟨⟨withPs (having (on .m80286) [(.di, 0xFFFF), (.si, 0xFFFF)]) 0x0400, by decide +kernel⟩,
    ⟨having (on .m80286) [(.di, 0xFFFE), (.si, 0xFFFE)], by decide +kernel⟩⟩

theorem witness_StringPorts :
    (∃ (s : State) (a : Word) (rest : List Word), s.scratch.rep = none ∧
      ¬(s.protectedMode = true ∧ s.iopl.toNat < s.sys.cpl.toNat) ∧ s.accessFault .es (s.reg .di) 0 true = none ∧
      s.accessFault .es (s.reg .di) 1 true = none ∧ s.accessFault (s.segOr .ds) (s.reg .si) 0 false = none ∧
      s.accessFault (s.segOr .ds) (s.reg .si) 1 false = none ∧ s.host.ioAnswers = a :: rest) ∧
    (∃ s : State, s.scratch.rep = none ∧ s.protectedMode = true ∧ s.iopl.toNat < s.sys.cpl.toNat) ∧
    (∃ s : State, s.scratch.rep ≠ none ∧ s.reg .cx ≠ 0 ∧ s.protectedMode = true ∧ s.iopl.toNat < s.sys.cpl.toNat) :=
  ⟨⟨{ on .m80286 with host := { (on .m80286).host with ioAnswers := [0x55AA] } }, 0x55AA, [], by decide +kernel⟩,
    ⟨prot 3, by decide +kernel⟩,
    ⟨{ having (prot 3) [(.cx, 1)] with scratch := { (prot 3).scratch with rep := some .rep } }, by decide +kernel⟩⟩

/-- A repeat prefix seen. -/
def repeating (k : RepKind) (cx : Word) (s : State) : State :=
  { having s [(.cx, cx)] with scratch := { s.scratch with rep := some k } }

theorem witness_RepeatIteration :
    (∃ s : State, s.scratch.rep = some .rep ∧ s.reg .cx = 0) ∧
    (∃ s u : State, elementForm .movsb = some (State.movsB, false) ∧ s.scratch.rep = some .rep ∧ s.reg .cx = 1 ∧ s.movsB = .ok u) ∧
    (∃ s u : State, elementForm .scasw = some (State.scasW, true) ∧ s.scratch.rep = some .repne ∧ s.reg .cx = 0xFFFF ∧ s.scasW = .ok u) ∧
    (∃ (s : State) (x : Exc), elementForm .lodsw = some (State.lodsW, false) ∧ s.scratch.rep = some .rep ∧ s.reg .cx ≠ 0 ∧
      Raises s.lodsW x) :=
  have ⟨u, hu⟩ := succeeds (r := (repeating .rep 1 (on .m80286)).movsB) (by decide +kernel)
  have ⟨v, hv⟩ := succeeds (r := (repeating .repne 0xFFFF (on .m80286)).scasW) (by decide +kernel)
  ⟨⟨repeating .rep 0 (on .m80286), rfl, rfl⟩, ⟨repeating .rep 1 (on .m80286), u, rfl, rfl, rfl, hu⟩,
    ⟨repeating .repne 0xFFFF (on .m80286), v, rfl, rfl, rfl, hv⟩,
    ⟨repeating .rep 1 (having (on .m80286) [(.si, 0xFFFF)]), .gp 0, rfl, rfl, by decide +kernel, fails (by decide +kernel)⟩⟩

/-- CS ends at the next instruction's offset. -/
def shortCs : State := (prot 0).setSeg .cs { flat 0x08 0x9B with limit := 0x0100 }

theorem witness_ConditionalJumps :
    (∃ s : State, condForm (.jleJb 0x80) = some (.le, 0x80) ∧ ¬Cond.le.asks s.flags) ∧
    (∃ s : State, condForm (.jnoJb 0x00) = some (.no, 0x00) ∧ Cond.no.asks s.flags ∧ s.protectedMode = true ∧
      s.inCode (s.ip + sext16 (0x00 : Byte))) ∧
    (∃ s : State, condForm (.jnoJb 0x01) = some (.no, 0x01) ∧ Cond.no.asks s.flags ∧ ¬s.inCode (s.ip + sext16 (0x01 : Byte))) ∧
    (∃ s : State, s.reg .cx = 1) ∧ (∃ s : State, s.reg .cx = 0 ∧ s.reg .cx ≠ 1 ∧ s.inCode (s.ip + sext16 (0x80 : Byte))) ∧
    (∃ s : State, s.reg .cx = 0 ∧ ¬s.inCode (s.ip + sext16 (0x01 : Byte))) :=
  ⟨⟨withPs (on .m8086) 2, rfl, by intro h; rcases h with h | h <;> revert h <;> decide +kernel⟩,
    ⟨shortCs, rfl, rfl, rfl, fun _ => by decide +kernel⟩,
    ⟨shortCs, rfl, rfl, fun h => absurd (h rfl) (by decide +kernel)⟩,
    ⟨having (on .m8086) [(.cx, 1)], rfl⟩, ⟨shortCs, rfl, by decide +kernel, fun _ => by decide +kernel⟩,
    ⟨shortCs, rfl, fun h => absurd (h rfl) (by decide +kernel)⟩⟩

theorem witness_NearTransfers :
    (∃ (s : State) (e : RM Reg16), s.canReadEw e ∧ s.inCode (s.valueEw e) ∧ s.canPush 1 ∧ s.protectedMode = true) ∧
    (∃ (s : State) (k : Word), nearReturnForm (.retIw k) = some k ∧ s.canPop 1 ∧ s.inCode (s.segGet16 .ss (s.reg .sp)).1 ∧
      k = 0xFFFF) ∧
    (∃ (s : State) (w : Word), ¬s.inCode (s.ip + w)) ∧
    (∃ (s : State), nearReturnForm .ret = some 0 ∧ s.canPop 1 ∧ ¬s.inCode (s.segGet16 .ss (s.reg .sp)).1) :=
  ⟨⟨shortCs, .reg .bx, trivial, fun _ => by decide +kernel, pushes rfl, rfl⟩,
    ⟨low .m8086, _, rfl, pops rfl, fun h => absurd h (by decide +kernel), rfl⟩,
    ⟨shortCs, 1, fun h => absurd (h rfl) (by decide +kernel)⟩,
    ⟨bytesAt 0x2000 [0x01, 0x01] shortCs, rfl, pops rfl, fun h => absurd (h rfl) (by decide +kernel)⟩⟩

theorem witness_FarTransfersReal :
    (∃ (s : State) (i : Instr) (sel off : Word), s.farForm i = some (false, sel, off) ∧ s.protectedMode = false ∧ s.canReadFar i) ∧
    (∃ (s : State) (i : Instr) (sel off : Word), s.farForm i = some (true, sel, off) ∧ s.protectedMode = false ∧ s.canReadFar i ∧
      s.canPush 2) ∧
    (∃ (s : State) (off sel : Word), farReturnForm (.retfIw 2) = some 2 ∧ s.protectedMode = false ∧ s.canPop 2 ∧
      (s.popMany 2).1 = [off, sel]) :=
  ⟨⟨low .m80286, .jmpMp (.direct 0xFFFC), 0, 0, rfl, rfl, rfl, rfl⟩, ⟨low .m80286, .callAp 0x10 0xFFFF, 0xFFFF, 0x10, rfl, rfl, trivial, pushes rfl⟩,
    ⟨low .m80286, 0, 0, rfl, rfl, pops rfl, by decide +kernel⟩⟩

theorem witness_FarTransfersProtected : ∃ s : State, s.protectedMode = true ∧ s.canPush 2 ∧
    (∀ off sel : Word, s.canReadFar (.callAp off sel) ∧ s.afterFar (.callAp off sel) = s ∧
      s.farForm (.callAp off sel) = some (true, sel, off)) ∧
    s.isNull 0 = true ∧ (s.isNull 0x70 = false ∧ s.inTable 0x70 = false) ∧
    (s.inTable 0x10 = true ∧ (s.descOf 0x10).isCode = false ∧
      ∀ ty : BitVec 4, ty = 1 ∨ ty = 4 ∨ ty = 5 → (s.descOf 0x10).isSystem ty = false) ∧
    (s.inTable 0x1B = true ∧ (s.descOf 0x1B).isCode = true ∧ (s.descOf 0x1B).conforming = false ∧
      s.sys.cpl.toNat < (rpl 0x1B).toNat) ∧
    (s.inTable 0x48 = true ∧ (s.descOf 0x48).isCode = true ∧ (s.descOf 0x48).conforming = false ∧
      (rpl 0x48).toNat ≤ s.sys.cpl.toNat ∧ (s.descOf 0x48).dpl = s.sys.cpl ∧ (s.descOf 0x48).present = false) ∧
    (s.inTable 0x08 = true ∧ (s.descOf 0x08).isCode = true ∧ (s.descOf 0x08).conforming = false ∧
      (rpl 0x08).toNat ≤ s.sys.cpl.toNat ∧ (s.descOf 0x08).dpl = s.sys.cpl ∧ (s.descOf 0x08).present = true ∧
      (0xFFFF : Word).toNat ≤ (s.descOf 0x08).limit.toNat ∧ accAccessed (s.descOf 0x08).access = true) ∧
    (s.inTable 0x53 = true ∧ (s.descOf 0x53).conforming = true ∧ (s.descOf 0x53).dpl.toNat ≤ s.sys.cpl.toNat) :=
  ⟨prot 0, rfl, pushes rfl, fun _ _ => ⟨trivial, rfl, rfl⟩, by decide +kernel⟩

theorem witness_FarTransfersProtected_accessed : ∃ (s : State) (d : Desc), s.protectedMode = true ∧ d = s.descOf 0x08 ∧
    s.canPush 2 ∧ s.isNull 0x08 = false ∧ s.inTable 0x08 = true ∧ d.isCode = true ∧ d.conforming = false ∧
    (rpl 0x08).toNat ≤ s.sys.cpl.toNat ∧ d.dpl = s.sys.cpl ∧ d.present = true ∧ s.kindAt (s.accessAddr 0x08) = .ram ∧
    accAccessed d.access = false :=
  ⟨bytesAt 0x080D [0x9A] (prot 0), _, rfl, rfl, pushes rfl, by decide +kernel⟩

theorem witness_FarTransferBounds :
    (∃ (s : State) (d : Desc) (off : Word), s.protectedMode = true ∧ d = s.descOf 0x08 ∧ d.isCode = true ∧ d.conforming = false ∧
      (rpl 0x08).toNat ≤ s.sys.cpl.toNat ∧ d.dpl = s.sys.cpl ∧ d.present = true ∧ d.limit.toNat < off.toNat) ∧
    (∃ (s : State) (d : Desc), s.protectedMode = true ∧ d = s.descOf 0x50 ∧ d.isCode = true ∧ d.conforming = true ∧
      s.sys.cpl.toNat < d.dpl.toNat) :=
  ⟨⟨bytesAt 0x0808 [0xFF, 0x00] (prot 0), _, 0x0100, rfl, rfl, by decide +kernel⟩,
    ⟨bytesAt 0x0855 [0xBF] (prot 0), _, rfl, rfl, by decide +kernel⟩⟩

theorem witness_FarTransfersProtected_push : ∃ (s : State) (d : Desc), s.protectedMode = true ∧
    s.farForm (.callAp 0 0x08) = some (true, 0x08, 0) ∧ d = s.descOf 0x08 ∧ s.isNull 0x08 = false ∧ s.inTable 0x08 = true ∧
    d.isCode = true ∧ d.conforming = false ∧ (rpl 0x08).toNat ≤ s.sys.cpl.toNat ∧ d.dpl = s.sys.cpl ∧ d.present = true ∧
    (0 : Word).toNat ≤ d.limit.toNat ∧ s.firstFault (s.pushes 2) = some (.ss 0) :=
  ⟨having (prot 0) [(.sp, 3)], _, rfl, rfl, rfl, by decide +kernel⟩

theorem witness_InterruptsReal_push : ∃ (s : State) (n : Byte), n = 0xFF ∧ (s.intercept n).1 = .proceed ∧
    s.protectedMode = false ∧ s.vectorInTable n ∧ s.firstFault (s.pushes 3) = some (.ss 0) :=
  ⟨having (on .m80286) [(.sp, 5)], _, rfl, rfl, rfl, fun _ => by decide +kernel, by decide +kernel⟩

theorem witness_InterruptsReal :
    (∃ (s : State) (n : Byte), n = 0xFF ∧ (s.intercept n).1 = .proceed ∧ s.protectedMode = false ∧ s.vectorInTable n ∧ s.canPush 3 ∧
      s.cls = .c286) ∧
    (∃ s : State, s.flags.of = true ∧ s.protectedMode = false ∧ s.vectorInTable 4 ∧ s.canPush 3) ∧
    (∃ (s : State) (n : Byte), (s.intercept n).1 = .proceed ∧ s.protectedMode = false ∧ ¬s.vectorInTable n) ∧
    (∃ s : State, s.flags.of = false) ∧
    (∃ (s : State) (off sel f : Word), s.protectedMode = false ∧ s.canPop 3 ∧ (s.popMany 3).1 = [off, sel, f]) :=
  ⟨⟨low .m80286, _, rfl, rfl, rfl, fun _ => by decide +kernel, pushes rfl, rfl⟩,
    ⟨withPs (low .m8086) 0x0800, by decide +kernel, rfl, fun h => absurd h (by decide +kernel), pushes rfl⟩,
    ⟨{ low .m80286 with sys := { resetSys with idtr := { base := 0, limit := 0x03FE } } }, 0xFF, rfl, rfl,
      fun h => absurd (h rfl) (by decide +kernel)⟩,
    ⟨on .m8086, by decide +kernel⟩,
    ⟨bytesAt 0x2000 [2, 0, 0, 1, 2, 2] (low .m8086), 2, 0x0100, 0x0202, rfl, pops rfl, by decide +kernel⟩⟩

theorem witness_ExceptionsReal :
    (∃ (s v : State) (e : Exc), s.protectedMode = false ∧ v = s.undo s ∧ v.vectorInTable e.vector ∧ v.canPush 3 ∧ e = .gp 0) ∧
    (∃ (s v : State) (e : Exc), s.protectedMode = false ∧ v = s.undo s ∧ v.vectorInTable e.vector ∧ v.canPush 3 ∧ e = .de ∧
      s.cls = .c86) ∧
    (∃ (s : State) (e : Exc), s.cls = .c286 ∧ s.protectedMode = false ∧ ¬s.vectorInTable e.vector ∧ ¬s.vectorInTable 8) ∧
    (∃ (s : State) (e : Exc), s.cls = .c286 ∧ s.protectedMode = false ∧ ¬s.vectorInTable e.vector ∧ s.vectorInTable 8 ∧
      s.canPush 3) ∧
    (∃ s : State, s.cls = .c286 ∧ s.protectedMode = false ∧ ¬s.canPush 3) ∧
    (∃ s : State, s.status = .shutdown) ∧ (∃ s : State, s.status = .error) :=
  ⟨⟨low .m80286, _, .gp 0, rfl, rfl, fun _ => by decide +kernel, pushes rfl, rfl⟩,
    ⟨low .m8086, _, .de, rfl, rfl, fun h => absurd h (by decide +kernel), pushes rfl, rfl, rfl⟩,
    ⟨{ low .m80286 with sys := { resetSys with idtr := { base := 0, limit := 0x22 } } }, .gp 0, rfl, rfl,
      fun h => absurd (h rfl) (by decide +kernel), fun h => absurd (h rfl) (by decide +kernel)⟩,
    ⟨{ low .m80286 with sys := { resetSys with idtr := { base := 0, limit := 0x23 } } }, .gp 0, rfl, rfl,
      fun h => absurd (h rfl) (by decide +kernel), fun _ => by decide +kernel, pushes rfl⟩,
    ⟨having (on .m80286) [(.sp, 5)], rfl, rfl, no_push (by decide +kernel)⟩,
    ⟨{ on .m80286 with status := .shutdown }, rfl⟩, ⟨{ on .m80286 with status := .error }, rfl⟩⟩

/-- Vector 0x3F's gate, the last in the IDT. -/
def gated (gate : List Byte) (s : State) : State := bytesAt 0x11F8 gate s

theorem plain {s : State} {lin : BitVec 32} (h : decide ((s.readDesc lin).2 = s) = true) : s.plainDesc lin := by
  exact (of_decide_eq_true h : (s.readDesc lin).2 = s)

/-- An interrupt gate to 08:0200 at its own level. -/
def sameLevel : State := gated [0, 2, 8, 0, 0, 0x86] (prot 0)

/-- A trap gate to 08:FFFF from level 3. -/
def innerLevel : State := gated [0xFF, 0xFF, 8, 0, 0, 0xE7] user

theorem witness_GateFaults :
    (let s := prot 3; s.protectedMode = true ∧ s.sys.idtr.limit.toNat < 8 * (0x40 : Byte).toNat + 7 ∧
      8 * (0x3F : Byte).toNat + 7 ≤ s.sys.idtr.limit.toNat ∧ (s.descAt 0x11F8).isSystem 6 = false ∧ (s.descAt 0x11F8).isSystem 7 = false) ∧
    (let s := gated [0, 2, 8, 0, 0, 0x86] (prot 3); (s.descAt 0x11F8).isSystem 6 = true ∧
      (s.descAt 0x11F8).dpl.toNat < s.sys.cpl.toNat ∧ (s.descAt 0x11F8).present = true) ∧
    (let s := gated [0, 2, 8, 0, 0, 0x67] (prot 3); (s.descAt 0x11F8).isSystem 7 = true ∧
      s.sys.cpl.toNat ≤ (s.descAt 0x11F8).dpl.toNat ∧ (s.descAt 0x11F8).present = false) ∧
    (let s := gated [0, 2, 0, 0, 0, 0xE6] (prot 3); (s.descAt 0x11F8).present = true ∧ s.isNull (s.descAt 0x11F8).mid = true) ∧
    (let s := gated [0, 2, 0x70, 0, 0, 0xE6] (prot 3); s.isNull (s.descAt 0x11F8).mid = false ∧
      s.inTable (s.descAt 0x11F8).mid = false) ∧
    (let s := gated [0, 2, 0x10, 0, 0, 0xE6] (prot 3); s.inTable (s.descAt 0x11F8).mid = true ∧
      (s.descOf (s.descAt 0x11F8).mid).isCode = false) ∧
    (let s := gated [0, 2, 0x48, 0, 0, 0xE6] (prot 3); (s.descOf (s.descAt 0x11F8).mid).isCode = true ∧
      (s.descOf (s.descAt 0x11F8).mid).dpl.toNat ≤ s.sys.cpl.toNat ∧ (s.descOf (s.descAt 0x11F8).mid).present = false) ∧
    (let s := bytesAt 0x0808 [0xFF, 0x00] (gated [0, 1, 8, 0, 0, 0xE6] (prot 3)); (s.descOf (s.descAt 0x11F8).mid).present = true ∧
      (s.descOf (s.descAt 0x11F8).mid).limit.toNat < (s.descAt 0x11F8).lo.toNat) ∧
    (prot 3).plainDesc 0x11F8 ∧ (prot 3).plainSel 0x08 := by
  refine ⟨?_, ?_, ?_, ?_, ?_, ?_, ?_, ?_, rfl, rfl⟩ <;> decide +kernel

theorem witness_GateFaults_push : ∃ (s : State) (g t : Desc), s.protectedMode = true ∧ g = s.descAt 0x11F8 ∧
    s.plainDesc 0x11F8 ∧ t = s.descOf g.mid ∧ s.plainSel g.mid ∧
    8 * (0x3F : Byte).toNat + 7 ≤ s.sys.idtr.limit.toNat ∧ g.isSystem 6 = true ∧ s.sys.cpl.toNat ≤ g.dpl.toNat ∧ g.present = true ∧
    s.isNull g.mid = false ∧ s.inTable g.mid = true ∧ t.isCode = true ∧ t.dpl.toNat ≤ s.sys.cpl.toNat ∧ t.present = true ∧
    g.lo.toNat ≤ t.limit.toNat ∧ t.dpl = s.sys.cpl ∧ s.firstFault (s.pushes (3 + (none : Option Word).toList.length)) = some (.ss 0) :=
  ⟨having sameLevel [(.sp, 5)], _, _, rfl, rfl, plain (by decide +kernel), rfl, plain (by decide +kernel), by decide +kernel⟩

/-- The gate of a vector. -/
def gateOf (s : State) (n : Byte) : Desc := s.descAt (s.gateAddr n)

/-- The segment it names. -/
def codeOf (s : State) (n : Byte) : Desc := s.descOf (gateOf s n).mid

theorem leads {s : State} {n : Byte} {sw : Bool} (h : s.protectedMode = true ∧ 8 * n.toNat + 7 ≤ s.sys.idtr.limit.toNat ∧
    (s.readDesc (s.gateAddr n)).2 = s ∧ ((gateOf s n).isSystem 6 = true ∨ (gateOf s n).isSystem 7 = true) ∧
    (sw = false ∨ s.sys.cpl.toNat ≤ (gateOf s n).dpl.toNat) ∧ (gateOf s n).present = true ∧ s.isNull (gateOf s n).mid = false ∧
    s.inTable (gateOf s n).mid = true ∧ (s.readDesc (s.descAddr (gateOf s n).mid)).2 = s ∧ (codeOf s n).isCode = true ∧
    (codeOf s n).dpl.toNat ≤ s.sys.cpl.toNat ∧ (codeOf s n).present = true ∧
    (gateOf s n).lo.toNat ≤ (codeOf s n).limit.toNat ∧ accAccessed (codeOf s n).access = true) :
    s.gateLeads n sw (gateOf s n) (codeOf s n) :=
  have ⟨a, b, c, d, e, f, g, h, i, j, k, l, m, o⟩ := h
  ⟨a, b, rfl, c, d, e, f, g, h, rfl, i, j, k, l, m, o⟩

theorem stacked {s : State} {d : Desc} {nss nsp : Word} (h : d.conforming = false ∧ d.dpl.toNat < s.sys.cpl.toNat ∧
    4 * d.dpl.toNat + 5 ≤ s.sys.tr.limit.toNat ∧
    s.sysRead16 (s.sys.tr.base.setWidth 32 + BitVec.ofNat 32 (2 + 4 * d.dpl.toNat)) = (nsp, s) ∧
    s.sysRead16 (s.sys.tr.base.setWidth 32 + BitVec.ofNat 32 (4 + 4 * d.dpl.toNat)) = (nss, s) ∧ s.isNull nss = false ∧
    s.inTable nss = true ∧ (s.readDesc (s.descAddr nss)).2 = s ∧ (s.descOf nss).writable = true ∧ rpl nss = d.dpl ∧
    (s.descOf nss).dpl = d.dpl ∧ (s.descOf nss).present = true ∧ accAccessed (s.descOf nss).access = true) :
    s.innerStack d nss nsp (s.descOf nss) :=
  have ⟨a, b, c, d, e, f, g, h, i, j, k, l, m⟩ := h
  ⟨a, b, c, d, e, f, g, rfl, h, i, j, k, l, m⟩

/-- A delivery of vector 3F goes to an inner level, up to its stack. -/
def Deeper (s : State) : Prop :=
  s.protectedMode = true ∧ (s.readDesc (s.gateAddr 0x3F)).2 = s ∧ 8 * (0x3F : Byte).toNat + 7 ≤ s.sys.idtr.limit.toNat ∧
    (gateOf s 0x3F).isSystem 7 = true ∧ s.sys.cpl.toNat ≤ (gateOf s 0x3F).dpl.toNat ∧ (gateOf s 0x3F).present = true ∧
    s.isNull (gateOf s 0x3F).mid = false ∧ s.inTable (gateOf s 0x3F).mid = true ∧
    (s.readDesc (s.descAddr (gateOf s 0x3F).mid)).2 = s ∧ (codeOf s 0x3F).isCode = true ∧ (codeOf s 0x3F).present = true ∧
    (gateOf s 0x3F).lo.toNat ≤ (codeOf s 0x3F).limit.toNat ∧ (codeOf s 0x3F).conforming = false ∧
    (codeOf s 0x3F).dpl.toNat < s.sys.cpl.toNat

/-- The stack the TSS gives for that level. -/
def Stacked (s : State) (nss nsp : Word) : Prop :=
  4 * (codeOf s 0x3F).dpl.toNat + 5 ≤ s.sys.tr.limit.toNat ∧
    s.sysRead16 (s.sys.tr.base.setWidth 32 + BitVec.ofNat 32 (2 + 4 * (codeOf s 0x3F).dpl.toNat)) = (nsp, s) ∧
    s.sysRead16 (s.sys.tr.base.setWidth 32 + BitVec.ofNat 32 (4 + 4 * (codeOf s 0x3F).dpl.toNat)) = (nss, s)

theorem witness_GateFaults_inner :
    (let s := { innerLevel with sys := { innerLevel.sys with tr := { innerLevel.sys.tr with limit := 4 } } }
     Deeper s ∧ s.sys.tr.limit.toNat < 4 * (codeOf s 0x3F).dpl.toNat + 5) ∧
    (let s := { bytesAt 0x3004 [0] innerLevel with sys := { innerLevel.sys with tr := { innerLevel.sys.tr with limit := 5 } } }
     Deeper s ∧ Stacked s 0 0x1F00 ∧ s.isNull 0 = true) ∧
    (let s := bytesAt 0x3004 [0x70] innerLevel; Deeper s ∧ Stacked s 0x70 0x1F00 ∧ s.inTable 0x70 = false) ∧
    (let s := bytesAt 0x3004 [0x08] innerLevel; Deeper s ∧ Stacked s 0x08 0x1F00 ∧ s.inTable 0x08 = true ∧
      (s.descOf 0x08).writable = false) ∧
    (let s := bytesAt 0x3004 [0x13] innerLevel; Deeper s ∧ Stacked s 0x13 0x1F00 ∧ s.inTable 0x13 = true ∧
      rpl 0x13 ≠ (codeOf s 0x3F).dpl) ∧
    (let s := bytesAt 0x3004 [0x20] innerLevel; Deeper s ∧ Stacked s 0x20 0x1F00 ∧ (s.descOf 0x20).dpl ≠ (codeOf s 0x3F).dpl) ∧
    (let s := bytesAt 0x3004 [0x58] innerLevel; Deeper s ∧ Stacked s 0x58 0x1F00 ∧ s.isNull 0x58 = false ∧
      s.inTable 0x58 = true ∧ (s.descOf 0x58).writable = true ∧ rpl 0x58 = (codeOf s 0x3F).dpl ∧
      (s.descOf 0x58).dpl = (codeOf s 0x3F).dpl ∧ (s.descOf 0x58).present = false) ∧
    (let s := bytesAt 0x3002 [11, 0] innerLevel; let u := s.onStack 0x10 11 (s.descOf 0x10)
     Deeper s ∧ Stacked s 0x10 11 ∧ (s.descOf 0x10).writable = true ∧ (s.descOf 0x10).present = true ∧
      u.firstFault (u.pushes (5 + (some (0 : Word)).toList.length)) ≠ none ∧
      u.firstFault (u.pushes (5 + (none : Option Word).toList.length)) = none) ∧
    (let s := bytesAt 0x3002 [9, 0] innerLevel; let u := s.onStack 0x10 9 (s.descOf 0x10)
     Deeper s ∧ Stacked s 0x10 9 ∧ u.firstFault (u.pushes (5 + (none : Option Word).toList.length)) ≠ none) := by
  refine ⟨?_, ?_, ?_, ?_, ?_, ?_, ?_, ?_, ?_⟩ <;> simp only [Deeper, Stacked] <;> decide +kernel

theorem witness_GateDelivery :
    (∃ (s : State) (g d : Desc), s.gateLeads 0x3F true g d ∧ s.sameLevel d ∧ s.canPush (3 + (some (0 : Word)).toList.length)) ∧
    (∃ (s : State) (g d sd : Desc), s.gateLeads 0x3F true g d ∧ s.innerStack d 0x10 0x1F00 sd ∧
      (s.onStack 0x10 0x1F00 sd).canPush (5 + (some (0 : Word)).toList.length)) :=
  ⟨⟨sameLevel, _, _, leads (by decide +kernel), .inr (by decide +kernel), pushes (by decide +kernel)⟩,
    ⟨innerLevel, _, _, _, leads (by decide +kernel), stacked (by decide +kernel), pushes (by decide +kernel)⟩⟩

/-- The gates of vectors 8 and 13. -/
def handled (gate8 gate13 : List Byte) (s : State) : State := bytesAt 0x1040 gate8 (bytesAt 0x1068 gate13 s)

/-- An interrupt gate to 08:0200. -/
def goodGate : List Byte := [0, 2, 8, 0, 0, 0x86]

/-- What delivering vector 13 raises in `s`. -/
def raiseOf (s : State) : Raise :=
  match s.deliver 13 false s.scratch.startIp (some 8) with
  | .error r => r
  | .ok u => { exc := .gp 8, seen := u, committed := false }

/-- What delivering vector 8 after that raises. -/
def raiseAgain (s : State) : Raise :=
  match (s.undo (raiseOf s).seen).deliver 8 false s.scratch.startIp (some 0) with
  | .error r => r
  | .ok u => { exc := .df, seen := u, committed := false }

theorem witness_ExceptionsProtected_single :
    (∃ (s v : State) (g d : Desc), v = s.undo s ∧ v.gateLeads (Exc.gp 8).vector false g d ∧ v.sameLevel d ∧ v.canPush 4) ∧
    (∃ (s v : State) (g d sd : Desc), v = s.undo s ∧ v.gateLeads (Exc.gp 8).vector false g d ∧ v.innerStack d 0x10 0x1F00 sd ∧
      (v.onStack 0x10 0x1F00 sd).canPush 6) :=
  ⟨⟨handled [] goodGate (prot 0), _, _, _, rfl, leads (by decide +kernel), .inr (by decide +kernel), pushes (by decide +kernel)⟩,
    ⟨handled [] goodGate user, _, _, _, _, rfl, leads (by decide +kernel), stacked (by decide +kernel), pushes (by decide +kernel)⟩⟩

theorem witness_ExceptionsProtected_double :
    (∃ (s v : State) (g d : Desc) (r : Raise), s.protectedMode = true ∧
      (s.undo s).deliver (Exc.gp 8).vector false s.scratch.startIp (Exc.gp 8).code = .error r ∧ v = (s.undo s).undo r.seen ∧
      v.gateLeads 8 false g d ∧ v.sameLevel d ∧ v.canPush 4) ∧
    (∃ (s v : State) (g d sd : Desc) (r : Raise), s.protectedMode = true ∧
      (s.undo s).deliver (Exc.gp 8).vector false s.scratch.startIp (Exc.gp 8).code = .error r ∧ v = (s.undo s).undo r.seen ∧
      v.gateLeads 8 false g d ∧ v.innerStack d 0x10 0x1F00 sd ∧ (v.onStack 0x10 0x1F00 sd).canPush 6) ∧
    (∃ (s v : State) (r q : Raise), s.protectedMode = true ∧
      (s.undo s).deliver (Exc.gp 8).vector false s.scratch.startIp (Exc.gp 8).code = .error r ∧ v = (s.undo s).undo r.seen ∧
      v.deliver 8 false s.scratch.startIp (some 0) = .error q) :=
  ⟨⟨handled goodGate [] (prot 0), _, _, _, raiseOf (handled goodGate [] (prot 0)), rfl, by decide +kernel, rfl,
      leads (by decide +kernel), .inr (by decide +kernel), pushes (by decide +kernel)⟩,
    ⟨handled goodGate [] user, _, _, _, _, raiseOf (handled goodGate [] user), rfl, by decide +kernel, rfl,
      leads (by decide +kernel), stacked (by decide +kernel), pushes (by decide +kernel)⟩,
    ⟨prot 0, _, raiseOf (prot 0), raiseAgain (prot 0), rfl, by decide +kernel, rfl, by decide +kernel⟩⟩

theorem witness_SoftwareInterruptsProtected :
    (∃ s v u : State, s.protectedMode = true ∧ s.intercept 0x3F = (.proceed, v) ∧ v.deliver 0x3F true s.ip none = .ok u) ∧
    (∃ (s : State) (x : Exc), s.protectedMode = true ∧ s.flags.of = true ∧ Raises (s.deliver 4 true s.ip none) x) :=
  have ⟨u, hu⟩ := succeeds (r := (gated [0, 2, 8, 0, 0, 0xE6] user).deliver 0x3F true (gated [0, 2, 8, 0, 0, 0xE6] user).ip none)
    (by decide +kernel)
  ⟨⟨gated [0, 2, 8, 0, 0, 0xE6] user, _, u, rfl, rfl, hu⟩, ⟨withPs (prot 3) 0x0800, .gp 0x22, rfl, by decide +kernel, fails (by decide +kernel)⟩⟩

/-- A return frame at SS:0F00, at a level: IP, CS, PS or SP, SP or SS. -/
def returningAt (cpl : BitVec 2) (frame : List Byte) : State := bytesAt 0x0F00 frame (having (prot cpl) [(.sp, 0x0F00)])

/-- The same at level 0. -/
def returning (frame : List Byte) : State := returningAt 0 frame

theorem witness_ReturnsSameLevel : ∃ (s : State) (d : Desc), s.protectedMode = true ∧ d = s.descOf 0x08 ∧ s.plainSel 0x08 ∧
    s.segRead16 .ss (s.reg .sp) = .ok (0xFFFF, s) ∧ s.segRead16 .ss (s.reg .sp + 2) = .ok (0x08, s) ∧
    s.segRead16 .ss (s.reg .sp + 4) = .ok (0x3202, s) ∧ (0x3202 : Word).getLsbD 14 = false ∧ s.nt = false ∧
    rpl 0x08 = s.sys.cpl ∧ s.isNull 0x08 = false ∧ s.inTable 0x08 = true ∧ d.isCode = true ∧ d.conforming = false ∧
    d.dpl = rpl 0x08 ∧ d.present = true ∧ (0xFFFF : Word).toNat ≤ d.limit.toNat :=
  ⟨returning [0xFF, 0xFF, 0x08, 0, 0x02, 0x32], (returning [0xFF, 0xFF, 0x08, 0, 0x02, 0x32]).descOf 0x08, rfl, rfl,
    plain (by decide +kernel), by decide +kernel⟩

theorem witness_ReturnsSameLevel_accessed :
    let s := bytesAt 0x080D [0x9A] (returning [0xFF, 0xFF, 0x08, 0, 0x02, 0x32])
    s.protectedMode = true ∧ (s.readDesc (s.descAddr 0x08)).2 = s ∧ s.segRead16 .ss (s.reg .sp) = .ok (0xFFFF, s) ∧
      s.segRead16 .ss (s.reg .sp + 2) = .ok (0x08, s) ∧ s.segRead16 .ss (s.reg .sp + 4) = .ok (0x3202, s) ∧ s.nt = false ∧
      rpl 0x08 = s.sys.cpl ∧ s.inTable 0x08 = true ∧ (s.descOf 0x08).isCode = true ∧ (s.descOf 0x08).conforming = false ∧
      (s.descOf 0x08).dpl = rpl 0x08 ∧ (s.descOf 0x08).present = true ∧ s.kindAt (s.accessAddr 0x08) = .ram ∧
      accAccessed (s.descOf 0x08).access = false := by decide +kernel

theorem witness_ReturnsOuterLevel_accessed :
    let s := bytesAt 0x081D [0xFA] (bytesAt 0x0825 [0xF2] (returning [0, 0x20, 0x1B, 0, 0, 0x30, 0x23, 0]))
    s.protectedMode = true ∧ (s.readDesc (s.descAddr 0x1B)).2 = s ∧ (s.readDesc (s.descAddr 0x23)).2 = s ∧
      s.segRead16 .ss (s.reg .sp) = .ok (0x2000, s) ∧ s.segRead16 .ss (s.reg .sp + 2) = .ok (0x1B, s) ∧
      s.segRead16 .ss (s.reg .sp + 4 + 0) = .ok (0x3000, s) ∧ s.segRead16 .ss (s.reg .sp + 6 + 0) = .ok (0x23, s) ∧
      s.sys.cpl.toNat < (rpl 0x1B).toNat ∧ (s.descOf 0x1B).isCode = true ∧ (s.descOf 0x1B).dpl = rpl 0x1B ∧
      (s.descOf 0x1B).present = true ∧ (s.descOf 0x23).writable = true ∧ (s.descOf 0x23).dpl = rpl 0x1B ∧
      (s.descOf 0x23).present = true ∧ s.kindAt (s.accessAddr 0x1B) = .ram ∧ s.kindAt (s.accessAddr 0x23) = .ram ∧
      accAccessed (s.descOf 0x1B).access = false ∧ accAccessed (s.descOf 0x23).access = false := by decide +kernel

theorem witness_ReturnsOuterLevel_far : ∃ (s : State) (d sd : Desc), s.protectedMode = true ∧ d = s.descOf 0x1B ∧
    s.plainSel 0x1B ∧ sd = s.descOf 0x23 ∧ s.plainSel 0x23 ∧ s.sys.cpl.toNat < (rpl 0x1B).toNat ∧
    s.segRead16 .ss (s.reg .sp) = .ok (0x2000, s) ∧ s.segRead16 .ss (s.reg .sp + 2) = .ok (0x1B, s) ∧
    s.segRead16 .ss (s.reg .sp + 4 + 0) = .ok (0x3000, s) ∧ s.segRead16 .ss (s.reg .sp + 6 + 0) = .ok (0x23, s) ∧
    farReturnForm .retf = some 0 ∧ s.isNull 0x1B = false ∧ s.inTable 0x1B = true ∧ d.isCode = true ∧ d.conforming = false ∧
    d.dpl = rpl 0x1B ∧ d.present = true ∧ (0x2000 : Word).toNat ≤ d.limit.toNat ∧ s.isNull 0x23 = false ∧ s.inTable 0x23 = true ∧
    sd.writable = true ∧ rpl 0x23 = rpl 0x1B ∧ sd.dpl = rpl 0x1B ∧ sd.present = true ∧
    (accDpl (s.seg .ds).access).toNat < (rpl 0x1B).toNat :=
  ⟨returning [0, 0x20, 0x1B, 0, 0, 0x30, 0x23, 0], (returning [0, 0x20, 0x1B, 0, 0, 0x30, 0x23, 0]).descOf 0x1B,
    (returning [0, 0x20, 0x1B, 0, 0, 0x30, 0x23, 0]).descOf 0x23, rfl, rfl, plain (by decide +kernel), rfl, plain (by decide +kernel),
    by decide +kernel⟩

/-- The frame of an IRET to level 3, with ES a segment that level 3 may use. -/
def keepsEs : State := (returning [0, 0x20, 0x1B, 0, 2, 2, 0, 0x30, 0x23, 0]).setSeg .es (flat 0x23 0xF3)

theorem witness_ReturnsOuterLevel_iret : ∃ (s : State) (d sd : Desc), s.protectedMode = true ∧ d = s.descOf 0x1B ∧
    s.plainSel 0x1B ∧ sd = s.descOf 0x23 ∧ s.plainSel 0x23 ∧ s.sys.cpl.toNat < (rpl 0x1B).toNat ∧
    s.segRead16 .ss (s.reg .sp) = .ok (0x2000, s) ∧ s.segRead16 .ss (s.reg .sp + 2) = .ok (0x1B, s) ∧
    s.segRead16 .ss (s.reg .sp + 4) = .ok (0x0202, s) ∧ (0x0202 : Word).getLsbD 14 = false ∧ s.nt = false ∧
    s.segRead16 .ss (s.reg .sp + 6) = .ok (0x3000, s) ∧ s.segRead16 .ss (s.reg .sp + 8) = .ok (0x23, s) ∧
    s.isNull 0x1B = false ∧ s.inTable 0x1B = true ∧ d.isCode = true ∧ d.conforming = false ∧
    d.dpl = rpl 0x1B ∧ d.present = true ∧ (0x2000 : Word).toNat ≤ d.limit.toNat ∧ s.isNull 0x23 = false ∧ s.inTable 0x23 = true ∧
    sd.writable = true ∧ rpl 0x23 = rpl 0x1B ∧ sd.dpl = rpl 0x1B ∧ sd.present = true ∧
    (rpl 0x1B).toNat ≤ (accDpl (s.seg .es).access).toNat :=
  ⟨keepsEs, keepsEs.descOf 0x1B,
    keepsEs.descOf 0x23, rfl, rfl, plain (by decide +kernel), rfl, plain (by decide +kernel),
    by decide +kernel⟩

theorem comes_back {s : State} {i : Instr} {off sel f : Word} (h : s.protectedMode = true ∧
    s.segRead16 .ss (s.reg .sp) = .ok (off, s) ∧ s.segRead16 .ss (s.reg .sp + 2) = .ok (sel, s) ∧
    s.nt = false ∧ s.segRead16 .ss (s.reg .sp + 4) = .ok (f, s) ∧ f.getLsbD 14 = false) : s.returnsTo i off sel :=
  have ⟨a, b, c, d, e, g⟩ := h
  ⟨a, b, c, fun _ => ⟨d, f, e, g⟩⟩

theorem witness_ReturnFaults_cs :
    (∃ k above, returnForm (.retfIw 2) = some (k, above)) ∧ (∃ k above, returnForm .iret = some (k, above)) ∧
    (let s := returningAt 3 [0, 0, 0x08, 0]; s.returnsTo .iret 0 0x08 ∧ s.plainSel 0x08 ∧ (rpl 0x08).toNat < s.sys.cpl.toNat) ∧
    (let s := returning [0, 0, 0, 0]; s.returnsTo .iret 0 0 ∧ s.plainSel 0 ∧ s.sys.cpl.toNat ≤ (rpl 0).toNat ∧ s.isNull 0 = true) ∧
    (let s := returning [0, 0, 0x70, 0]; s.returnsTo .iret 0 0x70 ∧ s.plainSel 0x70 ∧ s.isNull 0x70 = false ∧ s.inTable 0x70 = false) ∧
    (let s := returning [0, 0, 0x0B, 0]; s.returnsTo .iret 0 0x0B ∧ s.plainSel 0x0B ∧ s.inTable 0x0B = true ∧
      (s.descOf 0x0B).isCode = true ∧ (s.descOf 0x0B).conforming = false ∧ (s.descOf 0x0B).dpl ≠ rpl 0x0B) ∧
    (let s := bytesAt 0x0855 [0xFF] (returning [0, 0, 0x50, 0]); s.returnsTo .iret 0 0x50 ∧ s.plainSel 0x50 ∧ s.inTable 0x50 = true ∧
      (s.descOf 0x50).conforming = true ∧ (rpl 0x50).toNat < (s.descOf 0x50).dpl.toNat) ∧
    (let s := returning [0, 0, 0x48, 0]; s.returnsTo .iret 0 0x48 ∧ s.plainSel 0x48 ∧ s.inTable 0x48 = true ∧
      (s.descOf 0x48).isCode = true ∧ (s.descOf 0x48).dpl = rpl 0x48 ∧ (s.descOf 0x48).present = false) ∧
    (let s := bytesAt 0x0808 [0xFF, 0] (returning [0, 1, 0x08, 0]); s.returnsTo .iret 0x0100 0x08 ∧ s.plainSel 0x08 ∧
      (s.descOf 0x08).isCode = true ∧ (s.descOf 0x08).dpl = rpl 0x08 ∧ (s.descOf 0x08).present = true ∧
      (s.descOf 0x08).limit.toNat < (0x0100 : Word).toNat) :=
  ⟨⟨_, _, rfl⟩, ⟨_, _, rfl⟩, ⟨comes_back (f := 0) (by decide +kernel), plain (by decide +kernel), by decide +kernel⟩,
    ⟨comes_back (f := 0) (by decide +kernel), plain (by decide +kernel), by decide +kernel⟩,
    ⟨comes_back (f := 0) (by decide +kernel), plain (by decide +kernel), by decide +kernel⟩,
    ⟨comes_back (f := 0) (by decide +kernel), plain (by decide +kernel), by decide +kernel⟩,
    ⟨comes_back (f := 0) (by decide +kernel), plain (by decide +kernel), by decide +kernel⟩,
    ⟨comes_back (f := 0) (by decide +kernel), plain (by decide +kernel), by decide +kernel⟩,
    ⟨comes_back (f := 0) (by decide +kernel), plain (by decide +kernel), by decide +kernel⟩⟩

/-- The frame of an IRET to 1B:2000, with the selector for SS given. -/
def outward (nss : Byte) : State := returning [0, 0x20, 0x1B, 0, 2, 2, 0, 0x30, nss, 0]

/-- What the words of such a frame meet. -/
def Outward (s : State) (nss : Word) : Prop :=
  s.segRead16 .ss (s.reg .sp + 6) = .ok (0x3000, s) ∧ s.segRead16 .ss (s.reg .sp + 6 + 2) = .ok (nss, s) ∧
    s.sys.cpl.toNat < (rpl 0x1B).toNat ∧ s.isNull 0x1B = false ∧ s.inTable 0x1B = true ∧ (s.descOf 0x1B).isCode = true ∧
    (s.descOf 0x1B).conforming = false ∧ (s.descOf 0x1B).dpl = rpl 0x1B ∧ (s.descOf 0x1B).present = true ∧
    (0x2000 : Word).toNat ≤ (s.descOf 0x1B).limit.toNat

theorem witness_ReturnFaults_ss :
    ((outward 0).returnsTo .iret 0x2000 0x1B ∧ Outward (outward 0) 0 ∧ (outward 0).plainSel 0x1B ∧ (outward 0).isNull 0 = true) ∧
    (Outward (outward 0x73) 0x73 ∧ (outward 0x73).isNull 0x73 = false ∧ (outward 0x73).inTable 0x73 = false) ∧
    (Outward (outward 0x1B) 0x1B ∧ ((outward 0x1B).descOf 0x1B).writable = false) ∧
    (Outward (outward 0x20) 0x20 ∧ (outward 0x20).inTable 0x20 = true ∧ rpl 0x20 ≠ rpl 0x1B) ∧
    (Outward (outward 0x13) 0x13 ∧ (outward 0x13).inTable 0x13 = true ∧ ((outward 0x13).descOf 0x13).dpl ≠ rpl 0x1B) ∧
    (let s := bytesAt 0x0825 [0x73] (outward 0x23); Outward s 0x23 ∧ s.isNull 0x23 = false ∧ s.inTable 0x23 = true ∧
      (s.descOf 0x23).writable = true ∧ rpl 0x23 = rpl 0x1B ∧ (s.descOf 0x23).dpl = rpl 0x1B ∧ (s.descOf 0x23).present = false) :=
  ⟨⟨comes_back (f := 0x0202) (by decide +kernel), by unfold Outward; decide +kernel, plain (by decide +kernel), by decide +kernel⟩,
    ⟨by unfold Outward; decide +kernel, by decide +kernel⟩, ⟨by unfold Outward; decide +kernel, by decide +kernel⟩,
    ⟨by unfold Outward; decide +kernel, by decide +kernel⟩, ⟨by unfold Outward; decide +kernel, by decide +kernel⟩,
    ⟨by unfold Outward; decide +kernel, by decide +kernel⟩⟩

/-- The parameters a call through the gate 38 copies. -/
def caller : State := bytesAt 0x2000 [0x22, 0x22, 0x11, 0x11] user

/-- What the call through the gate 38 from level 3 meets, up to its target. -/
def Gated (s : State) : Prop :=
  s.farForm (.callAp 0 0x38) = some (true, 0x38, 0) ∧ s.farForm (.jmpAp 0 0x38) = some (false, 0x38, 0) ∧
    s.protectedMode = true ∧ s.isNull 0x38 = false ∧ s.inTable 0x38 = true ∧ (s.readDesc (s.descAddr 0x38)).2 = s ∧
    (s.descOf 0x38).isSystem 4 = true ∧ s.isNull (s.descOf 0x38).mid = false

/-- The segment that gate names. -/
def target38 (s : State) : Desc := s.descOf (s.descOf 0x38).mid

/-- The words already pushed, and the old stack read again. -/
def copied (s u : State) (ws : List Word) (off v : Word) : Bool :=
  match State.pushAll ws u with
  | .ok w => (w.setSeg .ss (s.seg .ss)).segRead16 .ss off == .ok (v, w.setSeg .ss (s.seg .ss))
  | .error _ => false

theorem copied_read {s u w : State} {ws : List Word} {off v : Word} (h : copied s u ws off v = true)
    (hw : State.pushAll ws u = .ok w) :
    (w.setSeg .ss (s.seg .ss)).segRead16 .ss off = .ok (v, w.setSeg .ss (s.seg .ss)) := by
  simpa [copied, hw] using h

theorem witness_CallGates_inner : ∃ (s u : State) (g d sd : Desc) (params : List Word),
    (s.canReadFar (.callAp 0 0x38) ∧ s.afterFar (.callAp 0 0x38) = s ∧ g = s.descOf 0x38 ∧ d = s.descOf g.mid ∧
      s.plainSel g.mid) ∧
    s.innerStack d 0x10 0x1F00 sd ∧ u = s.onStack 0x10 0x1F00 sd ∧ u.canPush (4 + g.count) ∧
    (∀ k, (h : k < params.length) → ∀ w,
      State.pushAll ([(s.seg .ss).selector, s.reg .sp] ++ params.take k) u = .ok w →
      (w.setSeg .ss (s.seg .ss)).segRead16 .ss (s.reg .sp + BitVec.ofNat 16 (2 * (params.length - 1 - k))) =
        .ok (params[k], w.setSeg .ss (s.seg .ss))) ∧
    Gated s ∧ max s.sys.cpl.toNat (rpl 0x38).toNat ≤ g.dpl.toNat ∧ g.present = true ∧ s.inTable g.mid = true ∧
    d.isCode = true ∧ d.present = true ∧ g.lo.toNat ≤ d.limit.toNat ∧ accAccessed d.access = true ∧
    params.length = g.count ∧ params.length = 2 := by
  refine ⟨caller, _, caller.descOf 0x38, caller.descOf (caller.descOf 0x38).mid, _, [0x1111, 0x2222],
    ⟨trivial, rfl, rfl, rfl, plain (by decide +kernel)⟩, stacked (nss := 0x10) (nsp := 0x1F00) (by decide +kernel), rfl,
    pushes (by decide +kernel), ?_, by unfold Gated; decide +kernel, by decide +kernel⟩
  intro k h w hw
  have h2 : k < 2 := h
  have hc : ∀ k (h : k < 2), copied caller (caller.onStack 0x10 0x1F00 (caller.descOf 0x10))
      ([(caller.seg .ss).selector, caller.reg .sp] ++ [0x1111, 0x2222].take k)
      (caller.reg .sp + BitVec.ofNat 16 (2 * (2 - 1 - k))) ([0x1111, 0x2222][k]) = true := by
    decide +kernel
  exact copied_read (hc k h2) hw

theorem witness_CallGates_same :
    (∃ (s : State) (g d : Desc), s.protectedMode = true ∧ g = s.descOf 0x68 ∧ s.plainSel 0x68 ∧ d = s.descOf g.mid ∧ s.canPush 2 ∧
      s.isNull 0x68 = false ∧ s.inTable 0x68 = true ∧ g.isSystem 4 = true ∧ max s.sys.cpl.toNat (rpl 0x68).toNat ≤ g.dpl.toNat ∧
      g.present = true ∧ s.isNull g.mid = false ∧ s.inTable g.mid = true ∧ d.isCode = true ∧ d.dpl.toNat ≤ s.sys.cpl.toNat ∧
      d.conforming = true ∧ d.present = true ∧ g.lo.toNat ≤ d.limit.toNat ∧ accAccessed d.access = true) :=
  ⟨prot 3, (prot 3).descOf 0x68, (prot 3).descOf ((prot 3).descOf 0x68).mid, rfl, rfl, plain (by decide +kernel), rfl, pushes rfl,
    by decide +kernel⟩

theorem witness_CallGates_accessed :
    let s := bytesAt 0x0855 [0x9E] (prot 3)
    s.protectedMode = true ∧ (s.readDesc (s.descAddr 0x68)).2 = s ∧ (s.descOf 0x68).isSystem 4 = true ∧
      (s.descOf 0x68).mid = 0x50 ∧ s.isNull 0x50 = false ∧ s.inTable 0x50 = true ∧ (s.descOf 0x50).isCode = true ∧
      (s.descOf 0x50).conforming = true ∧ (s.descOf 0x50).present = true ∧ s.kindAt (s.accessAddr 0x50) = .ram ∧
      accAccessed (s.descOf 0x50).access = false := by decide +kernel

theorem witness_CallGateFaults_target :
    (let s := bytesAt 0x083D [0xC4] user; Gated s ∧ (s.descOf 0x38).dpl.toNat < max s.sys.cpl.toNat (rpl 0x38).toNat) ∧
    (let s := bytesAt 0x083D [0x64] user; Gated s ∧ max s.sys.cpl.toNat (rpl 0x38).toNat ≤ (s.descOf 0x38).dpl.toNat ∧
      (s.descOf 0x38).present = false) ∧
    (let s := bytesAt 0x083A [0] user; (s.descOf 0x38).isSystem 4 = true ∧ (s.descOf 0x38).present = true ∧
      s.isNull (s.descOf 0x38).mid = true) ∧
    (let s := bytesAt 0x083A [0x70] user; Gated s ∧ (s.descOf 0x38).present = true ∧ s.inTable (s.descOf 0x38).mid = false) ∧
    (let s := bytesAt 0x083A [0x10] user; Gated s ∧ s.inTable (s.descOf 0x38).mid = true ∧ (target38 s).isCode = false) ∧
    (let s := bytesAt 0x083A [0x18] (prot 0); Gated s ∧ s.inTable (s.descOf 0x38).mid = true ∧
      s.sys.cpl.toNat < (target38 s).dpl.toNat) ∧
    (let s := bytesAt 0x083A [0x48] user; Gated s ∧ (target38 s).isCode = true ∧ (target38 s).present = false) ∧
    (let s := bytesAt 0x0808 [0xFF, 0x01] user; Gated s ∧ (target38 s).present = true ∧
      (target38 s).limit.toNat < (s.descOf 0x38).lo.toNat) := by
  refine ⟨?_, ?_, ?_, ?_, ?_, ?_, ?_, ?_⟩ <;> simp only [Gated] <;> decide +kernel

theorem witness_CallGateFaults_push : ∃ (s : State) (g d : Desc), s.protectedMode = true ∧
    s.farForm (.callAp 0 0x68) = some (true, 0x68, 0) ∧ g = s.descOf 0x68 ∧ s.plainSel 0x68 ∧ d = s.descOf g.mid ∧
    s.plainSel g.mid ∧ s.isNull 0x68 = false ∧ s.inTable 0x68 = true ∧ g.isSystem 4 = true ∧
    max s.sys.cpl.toNat (rpl 0x68).toNat ≤ g.dpl.toNat ∧ g.present = true ∧ s.isNull g.mid = false ∧ s.inTable g.mid = true ∧
    d.isCode = true ∧ d.dpl.toNat ≤ s.sys.cpl.toNat ∧ d.present = true ∧ g.lo.toNat ≤ d.limit.toNat ∧ d.conforming = true ∧
    s.firstFault (s.pushes 2) = some (.ss 0) :=
  ⟨having (prot 3) [(.sp, 3)], _, _, rfl, rfl, rfl, plain (by decide +kernel), rfl, plain (by decide +kernel), by decide +kernel⟩

/-- The call goes to an inner level. -/
def Inward (s : State) : Prop :=
  Gated s ∧ (target38 s).isCode = true ∧ (target38 s).present = true ∧
    (s.descOf 0x38).lo.toNat ≤ (target38 s).limit.toNat ∧ (target38 s).conforming = false ∧
    (target38 s).dpl.toNat < s.sys.cpl.toNat ∧ (s.readDesc (s.descAddr (s.descOf 0x38).mid)).2 = s

/-- The stack the TSS gives for level 0. -/
def Pointed (s : State) (nss nsp : Word) : Prop :=
  4 * (target38 s).dpl.toNat + 5 ≤ s.sys.tr.limit.toNat ∧
    s.sysRead16 (s.sys.tr.base.setWidth 32 + BitVec.ofNat 32 (2 + 4 * (target38 s).dpl.toNat)) = (nsp, s) ∧
    s.sysRead16 (s.sys.tr.base.setWidth 32 + BitVec.ofNat 32 (4 + 4 * (target38 s).dpl.toNat)) = (nss, s)

theorem witness_CallGateFaults_stack :
    Inward user ∧
    (let s := { user with sys := { user.sys with tr := { user.sys.tr with limit := 4 } } }
     Inward s ∧ s.sys.tr.limit.toNat < 4 * (target38 s).dpl.toNat + 5) ∧
    (let s := bytesAt 0x3004 [0] user; Inward s ∧ Pointed s 0 0x1F00 ∧ s.isNull 0 = true) ∧
    (let s := bytesAt 0x3004 [0x70] user; Inward s ∧ Pointed s 0x70 0x1F00 ∧ s.inTable 0x70 = false) ∧
    (let s := bytesAt 0x3004 [0x08] user; Inward s ∧ Pointed s 0x08 0x1F00 ∧ s.inTable 0x08 = true ∧ (s.descOf 0x08).writable = false) ∧
    (let s := bytesAt 0x3004 [0x13] user; Inward s ∧ Pointed s 0x13 0x1F00 ∧ s.inTable 0x13 = true ∧ rpl 0x13 ≠ (target38 s).dpl) ∧
    (let s := bytesAt 0x3004 [0x20] user; Inward s ∧ Pointed s 0x20 0x1F00 ∧ (s.descOf 0x20).dpl ≠ (target38 s).dpl) ∧
    (let s := bytesAt 0x3004 [0x58] user; Inward s ∧ Pointed s 0x58 0x1F00 ∧ s.isNull 0x58 = false ∧ s.inTable 0x58 = true ∧
      (s.descOf 0x58).writable = true ∧ rpl 0x58 = (target38 s).dpl ∧ (s.descOf 0x58).dpl = (target38 s).dpl ∧
      (s.descOf 0x58).present = false) ∧
    (let s := bytesAt 0x3002 [0x01, 0x00] user; Inward s ∧ Pointed s 0x10 1 ∧ (s.descOf 0x10).writable = true ∧
      (s.descOf 0x10).present = true ∧ (s.onStack 0x10 1 (s.descOf 0x10)).accessFault .ss ((1 : Word) - 2) 1 true ≠ none) := by
  refine ⟨?_, ?_, ?_, ?_, ?_, ?_, ?_, ?_, ?_⟩ <;> simp only [Inward, Pointed, Gated] <;> decide +kernel

/-- The TSS at 3000 of a task at level 0: IP 0100, PS 0002, CS 08, SS 10, DS and ES 10, no LDT. -/
def tasks : State :=
  bytesAt 0x300E [0x00, 0x01, 0x02, 0, 1, 0, 2, 0, 3, 0, 4, 0, 0, 0x20, 6, 0, 7, 0, 8, 0, 0x10, 0, 0x08, 0, 0x10, 0, 0x10, 0, 0, 0]
    { prot 0 with sys := { (prot 0).sys with tr := { selector := 0x60, base := 0x5000, limit := 0x2B, access := 0x83 } } }

theorem witness_TaskSwitches :
    (∃ s : State, (∀ k < 28, s.kindAt (s.phys (s.sys.tr.base.setWidth 32 + BitVec.ofNat 32 (14 + k))) = .ram) ∧ s.cfg.wf = true ∧
      s.addrMask ≠ 0xEFFFFF) ∧
    (∃ (s : State) (d : Desc), s.protectedMode = true ∧ d.limit.toNat < 43) ∧
    (∃ (s t : State) (d : Desc), s.protectedMode = true ∧ d.limit.toNat = 43 ∧ s.taskSwitch 0x28 d .call = .ok t) ∧
    (∃ (s : State) (d : Desc) (r : Raise), s.protectedMode = true ∧ 43 ≤ d.limit.toNat ∧ s.taskSwitch 0x28 d .jmp = .error r) :=
  have ⟨t, ht⟩ := succeeds (r := tasks.taskSwitch 0x28 (tasks.descOf 0x28) .call) (by decide +kernel)
  have ⟨r, hr⟩ : ∃ r, (bytesAt 0x3024 [0x70] tasks).taskSwitch 0x28 (tasks.descOf 0x28) .jmp = .error r := by
    have h : ((bytesAt 0x3024 [0x70] tasks).taskSwitch 0x28 (tasks.descOf 0x28) .jmp).isOk = false := by decide +kernel
    revert h
    cases (bytesAt 0x3024 [0x70] tasks).taskSwitch 0x28 (tasks.descOf 0x28) .jmp with
    | error r => exact fun _ => ⟨r, rfl⟩
    | ok u => exact fun h => absurd h (by simp [Except.isOk, Except.toBool])
  ⟨⟨tasks, by decide +kernel⟩, ⟨tasks, { tasks.descOf 0x28 with lo := 42, b6 := 0 }, rfl, by decide⟩,
    ⟨tasks, t, tasks.descOf 0x28, rfl, by decide +kernel, ht⟩,
    ⟨bytesAt 0x3024 [0x70] tasks, tasks.descOf 0x28, r, rfl, by decide +kernel, hr⟩⟩

/-- The state a task switch to the TSS 28 reads its image in, and the image. -/
def reads28 (s : State) : TaskImage × State := (s.commitTask 0x28 (s.descOf 0x28) .call).readTask

/-- After the LDT load. -/
def loads28 (s : State) : Res State := ((reads28 s).2.enterTask .call (reads28 s).1).loadTaskLdt (reads28 s).1.ldt

/-- The state a load leaves. -/
def thenState (r : Res State) (s : State) : State :=
  match r with
  | .ok w => w
  | .error _ => s

theorem then_ok {r : Res State} {s : State} (h : r.isOk = true) : r = .ok (thenState r s) := by
  cases r <;> simp_all [thenState, Except.isOk, Except.toBool]

/-- The task whose selectors of an LDT, of CS and of DS are given. -/
def taskOf (ldt cs ds : Byte) : State := bytesAt 0x3024 [cs] (bytesAt 0x3028 [ds, 0, ldt, 0] tasks)

theorem witness_TaskTables_memory : ∃ (s : State) (d : Desc) (old new link : Nat), d = s.descOf 0x28 ∧
    old = s.accessAddr s.sys.tr.selector ∧ new = s.accessAddr 0x28 ∧ link = s.phys (d.base.setWidth 32) ∧
    s.kindAt old = .ram ∧ s.kindAt new = .ram ∧ s.kindAt link = .ram ∧ s.lastOfBlock link = false ∧ new ≠ link ∧
    new ≠ link + 1 ∧ old ≠ new :=
  ⟨tasks, _, _, _, _, rfl, rfl, rfl, rfl, by decide +kernel⟩

theorem witness_TaskTables_faults :
    (∃ (s w : State), s.protectedMode = true ∧ loads28 s = .ok w ∧ 43 ≤ (s.descOf 0x28).limit.toNat ∧
      (reads28 s).2.isNull (reads28 s).1.ldt = false ∧ (reads28 s).2.isNull (reads28 s).1.cs = true) ∧
    (∃ (s w : State), s.protectedMode = true ∧ loads28 s = .ok w ∧ 43 ≤ (s.descOf 0x28).limit.toNat ∧
      (reads28 s).2.isNull (reads28 s).1.ldt = true ∧ (reads28 s).2.isNull (reads28 s).1.cs = false ∧
      w.inTable (reads28 s).1.cs = false) :=
  ⟨⟨taskOf 0x30 0 0, thenState (loads28 (taskOf 0x30 0 0)) tasks, rfl, then_ok (by decide +kernel), by decide +kernel⟩,
    ⟨taskOf 0 0x70 0, thenState (loads28 (taskOf 0 0x70 0)) tasks, rfl, then_ok (by decide +kernel), by decide +kernel⟩⟩

/-- The same task with its selector of SS given. -/
def taskSs (ss : Byte) : State := bytesAt 0x3026 [ss] (taskOf 0 0x08 0)

/-- After the CS load. -/
def loadsCs28 (s : State) : Res State := (thenState (loads28 s) s).loadTaskCs (reads28 s).1.cs

theorem witness_TaskTables_stack :
    (∃ (s w c : State), s.protectedMode = true ∧ loads28 s = .ok w ∧ w.loadTaskCs (reads28 s).1.cs = .ok c ∧
      43 ≤ (s.descOf 0x28).limit.toNat ∧ (reads28 s).2.isNull (reads28 s).1.ss = true) ∧
    (∃ (s w c : State), s.protectedMode = true ∧ loads28 s = .ok w ∧ w.loadTaskCs (reads28 s).1.cs = .ok c ∧
      43 ≤ (s.descOf 0x28).limit.toNat ∧ (reads28 s).2.isNull (reads28 s).1.ss = false ∧ w.inTable (reads28 s).1.ss = false) :=
  ⟨⟨taskSs 0, thenState (loads28 (taskSs 0)) (taskSs 0), thenState (loadsCs28 (taskSs 0)) (taskSs 0), rfl,
      then_ok (by decide +kernel), then_ok (r := loadsCs28 (taskSs 0)) (by decide +kernel), by decide +kernel⟩,
    ⟨taskSs 0x70, thenState (loads28 (taskSs 0x70)) (taskSs 0x70), thenState (loadsCs28 (taskSs 0x70)) (taskSs 0x70), rfl,
      then_ok (by decide +kernel), then_ok (r := loadsCs28 (taskSs 0x70)) (by decide +kernel), by decide +kernel⟩⟩

theorem witness_TaskTables_caches :
    ∃ (s w t : State), s.protectedMode = true ∧ loads28 s = .ok w ∧ s.taskSwitch 0x28 (s.descOf 0x28) .call = .ok t ∧
      (w.plainSel (reads28 s).1.cs ∧ w.plainSel (reads28 s).1.ss ∧ w.plainSel (reads28 s).1.ds) ∧
      accAccessed (w.descOf (reads28 s).1.cs).access = true ∧ accAccessed (w.descOf (reads28 s).1.ss).access = true ∧
      accAccessed (w.descOf (reads28 s).1.ds).access = true ∧ (reads28 s).2.isNull (reads28 s).1.ds = false ∧
      (reads28 s).2.isNull (reads28 s).1.es = false :=
  ⟨tasks, thenState (loads28 tasks) tasks, thenState (tasks.taskSwitch 0x28 (tasks.descOf 0x28) .call) tasks, rfl,
    then_ok (by decide +kernel), then_ok (by decide +kernel),
    ⟨plain (by decide +kernel), plain (by decide +kernel), plain (by decide +kernel)⟩, by decide +kernel⟩

theorem witness_TaskTables_null :
    ∃ (s w t : State), s.protectedMode = true ∧ loads28 s = .ok w ∧ s.taskSwitch 0x28 (s.descOf 0x28) .call = .ok t ∧
      (reads28 s).2.isNull (reads28 s).1.ds = true :=
  ⟨taskOf 0x30 0x08 0, thenState (loads28 (taskOf 0x30 0x08 0)) tasks,
    thenState ((taskOf 0x30 0x08 0).taskSwitch 0x28 ((taskOf 0x30 0x08 0).descOf 0x28) .call) tasks, rfl,
    then_ok (by decide +kernel), then_ok (by decide +kernel), by decide +kernel⟩

theorem witness_TaskTransfers_direct : ∃ (s u : State) (d : Desc), s.protectedMode = true ∧ s.canReadFar (.jmpAp 0 0x28) ∧
    d = s.descOf 0x28 ∧ s.plainSel 0x28 ∧ s.taskSwitch 0x28 d .jmp = .ok u ∧
    s.isNull 0x28 = false ∧ s.inTable 0x28 = true ∧ (0x28 : Word).getLsbD 2 = false ∧ d.isSystem 1 = true ∧
    max s.sys.cpl.toNat (rpl 0x28).toNat ≤ d.dpl.toNat ∧ d.present = true :=
  have ⟨u, hu⟩ := succeeds (r := tasks.taskSwitch 0x28 (tasks.descOf 0x28) .jmp) (by decide +kernel)
  ⟨tasks, u, tasks.descOf 0x28, rfl, trivial, rfl, plain (by decide +kernel), hu, by decide +kernel⟩

theorem witness_TaskTransfers_gate : ∃ (s u : State) (g d : Desc), s.protectedMode = true ∧ g = s.descOf 0x40 ∧ s.plainSel 0x40 ∧
    d = s.descOf g.mid ∧ s.plainSel g.mid ∧ s.taskSwitch g.mid d .call = .ok u ∧
    s.isNull 0x40 = false ∧ s.inTable 0x40 = true ∧ g.isSystem 5 = true ∧ max s.sys.cpl.toNat (rpl 0x40).toNat ≤ g.dpl.toNat ∧
    g.present = true ∧ s.isNull g.mid = false ∧ g.mid.getLsbD 2 = false ∧ s.inTable g.mid = true ∧ d.isSystem 1 = true ∧
    d.present = true :=
  have ⟨u, hu⟩ := succeeds (r := tasks.taskSwitch (tasks.descOf 0x40).mid (tasks.descOf (tasks.descOf 0x40).mid) .call) (by decide +kernel)
  ⟨tasks, u, tasks.descOf 0x40, tasks.descOf (tasks.descOf 0x40).mid, rfl, rfl, plain (by decide +kernel), rfl, plain (by decide +kernel),
    hu, by decide +kernel⟩

/-- A far jump names a descriptor of the type given, and nothing has stopped it yet. -/
def Named (s : State) (sel : Word) (ty : BitVec 4) : Prop :=
  s.protectedMode = true ∧ s.farForm (.jmpAp 0 sel) = some (false, sel, 0) ∧ s.isNull sel = false ∧ s.inTable sel = true ∧
    (s.descOf sel).isSystem ty = true

/-- Its privilege suffices, and for a gate it is present. -/
def MayPass (s : State) (sel : Word) : Prop := max s.sys.cpl.toNat (rpl sel).toNat ≤ (s.descOf sel).dpl.toNat

/-- Protected mode with the GDT for an LDT too. -/
def withLdt : State :=
  { prot 0 with sys := { (prot 0).sys with ldtr := { selector := 0x30, base := 0x800, limit := 0x6F, access := 0x82 } } }

theorem witness_TaskTransfers_tss :
    (Named (prot 3) 0x28 1 ∧ ((prot 3).descOf 0x28).dpl.toNat < max (prot 3).sys.cpl.toNat (rpl 0x28).toNat) ∧
    (Named withLdt 0x2C 1 ∧ (0x2C : Word).getLsbD 2 = true) ∧
    (let s := bytesAt 0x082D [0x01] (prot 0); Named s 0x28 1 ∧ MayPass s 0x28 ∧ (s.descOf 0x28).present = false) := by
  refine ⟨?_, ?_, ?_⟩ <;> simp only [Named, MayPass] <;> decide +kernel

theorem witness_TaskTransfers_gates :
    (let s := bytesAt 0x0845 [0x85] (prot 3); Named s 0x40 5 ∧ (s.descOf 0x40).dpl.toNat < max s.sys.cpl.toNat (rpl 0x40).toNat) ∧
    (let s := bytesAt 0x0845 [0x65] (prot 3); Named s 0x40 5 ∧ MayPass s 0x40 ∧ (s.descOf 0x40).present = false) ∧
    (let s := bytesAt 0x0842 [0] (prot 3); Named s 0x40 5 ∧ MayPass s 0x40 ∧ (s.descOf 0x40).present = true ∧
      s.isNull (s.descOf 0x40).mid = true) ∧
    (let s := bytesAt 0x0842 [0x2C] (prot 3); Named s 0x40 5 ∧ MayPass s 0x40 ∧ (s.descOf 0x40).present = true ∧
      (s.descOf 0x40).mid.getLsbD 2 = true) ∧
    (let s := bytesAt 0x0842 [0x70] (prot 3); Named s 0x40 5 ∧ MayPass s 0x40 ∧ (s.descOf 0x40).present = true ∧
      s.inTable (s.descOf 0x40).mid = false) ∧
    (let s := bytesAt 0x0842 [0x60] (prot 3); Named s 0x40 5 ∧ MayPass s 0x40 ∧ (s.descOf 0x40).present = true ∧
      s.isNull 0x60 = false ∧ s.inTable 0x60 = true ∧ (s.descOf 0x40).mid = 0x60 ∧ (s.readDesc (s.descAddr 0x40)).2 = s ∧
      (s.descOf 0x60).isSystem 1 = false) ∧
    (let s := bytesAt 0x082D [0x01] (prot 3); Named s 0x40 5 ∧ MayPass s 0x40 ∧ (s.descOf 0x40).present = true ∧
      (s.descOf 0x40).mid = 0x28 ∧ (s.readDesc (s.descAddr 0x40)).2 = s ∧ (s.descOf 0x28).isSystem 1 = true ∧
      (s.descOf 0x28).present = false) := by
  refine ⟨?_, ?_, ?_, ?_, ?_, ?_, ?_⟩ <;> simp only [Named, MayPass] <;> decide +kernel

/-- A nested task whose back link is the selector given; the TSS 28 is busy. -/
def nested (link : Byte) : State := bytesAt 0x082D [0x83] (bytesAt 0x5000 [link, 0] (tasks.setDirect ntBit true))

/-- The same with a popped PS that has NT. -/
def poppedNt : State := bytesAt 0x2004 [0x02, 0x40] (nested 0x08)

/-- IRET_NT_SOURCE = current. -/
def now (s : State) : State := { s with cfg := { s.cfg with iretNt := .current } }

theorem witness_TaskTransfers_return :
    (∃ (s u : State) (d : Desc), s.protectedMode = true ∧ s.cfg.iretNt = .current ∧ s.nt = true ∧
      s.sysRead16 (s.sys.tr.base.setWidth 32) = (0x28, s) ∧ s.isNull 0x28 = false ∧ (0x28 : Word).getLsbD 2 = false ∧
      s.inTable 0x28 = true ∧ d = s.descOf 0x28 ∧ s.plainSel 0x28 ∧ d.isSystem 3 = true ∧ d.present = true ∧
      s.taskSwitch 0x28 d .iret = .ok u) ∧
    (∃ s v : State, s.protectedMode = true ∧ s.cfg.iretNt = .popped ∧ v = s.setReg .sp (s.reg .sp + 6) ∧
      s.segRead16 .ss (s.reg .sp) = .ok (0, s) ∧ s.segRead16 .ss (s.reg .sp + 2) = .ok (0, s) ∧
      s.segRead16 .ss (s.reg .sp + 4) = .ok (0x4002, s) ∧ (0x4002 : Word).getLsbD 14 = true ∧
      v.sysRead16 (s.sys.tr.base.setWidth 32) = (0x08, v) ∧ s.isNull 0x08 = false ∧ s.inTable 0x08 = true ∧
      (v.descOf 0x08).isSystem 3 = false ∧ v.plainSel 0x08) ∧
    (∃ s : State, s.cfg.iretNt = .current ∧ s.nt = true ∧ s.sysRead16 (s.sys.tr.base.setWidth 32) = (0, s) ∧ s.isNull 0 = true) :=
  have ⟨u, hu⟩ := succeeds (r := (now (nested 0x28)).taskSwitch 0x28 ((now (nested 0x28)).descOf 0x28) .iret) (by decide +kernel)
  ⟨⟨now (nested 0x28), u, (now (nested 0x28)).descOf 0x28, rfl, rfl, by decide +kernel, by decide +kernel, by decide +kernel,
      by decide, by decide +kernel, rfl, plain (by decide +kernel), by decide +kernel, by decide +kernel, hu⟩,
    ⟨poppedNt, poppedNt.setReg .sp (poppedNt.reg .sp + 6), rfl, rfl, rfl, by decide +kernel, by decide +kernel, by decide +kernel, by decide +kernel,
      by decide +kernel, by decide +kernel, by decide +kernel, by decide +kernel, plain (by decide +kernel)⟩,
    ⟨now (nested 0), rfl, by decide +kernel, by decide +kernel, by decide +kernel⟩⟩

theorem witness_TaskTransfers_fault :
    (∃ (s : State) (r : Raise), s.taskSwitch 0x28 (s.descOf 0x28) .jmp = .error r ∧ (s.descOf 0x28).isSystem 1 = true ∧
      (s.descOf 0x28).present = true) ∧
    (let s := now (nested 0x70); s.nt = true ∧ s.sysRead16 (s.sys.tr.base.setWidth 32) = (0x70, s) ∧ s.inTable 0x70 = false) ∧
    (let s := bytesAt 0x082D [0x03] (now (nested 0x28)); s.nt = true ∧ s.sysRead16 (s.sys.tr.base.setWidth 32) = (0x28, s) ∧
      (s.descOf 0x28).isSystem 3 = true ∧ (s.descOf 0x28).present = false) ∧
    (let s := bytesAt 0x3024 [0x70] (now (nested 0x28)); s.nt = true ∧ s.sysRead16 (s.sys.tr.base.setWidth 32) = (0x28, s) ∧
      (s.descOf 0x28).isSystem 3 = true ∧ (s.taskSwitch 0x28 (s.descOf 0x28) .iret).isOk = false) :=
  have ⟨r, hr⟩ : ∃ r, (taskOf 0 0x70 0).taskSwitch 0x28 ((taskOf 0 0x70 0).descOf 0x28) .jmp = .error r := by
    have h : ((taskOf 0 0x70 0).taskSwitch 0x28 ((taskOf 0 0x70 0).descOf 0x28) .jmp).isOk = false := by decide +kernel
    revert h
    cases (taskOf 0 0x70 0).taskSwitch 0x28 ((taskOf 0 0x70 0).descOf 0x28) .jmp with
    | error r => exact fun _ => ⟨r, rfl⟩
    | ok u => exact fun h => absurd h (by simp [Except.isOk, Except.toBool])
  ⟨⟨taskOf 0 0x70 0, r, hr, by decide +kernel⟩, by decide +kernel⟩

theorem witness_SystemStoresAndPrivilege :
    (∃ (s : State) (e : RM Reg16), e = .mem (.direct 0xFFFE) ∧ s.protectedMode = true ∧ s.canWriteEw e) ∧
    (∃ s : State, s.protectedMode = false) ∧
    (∃ (s : State) (m : MemRef), m = .direct 0xFFFA ∧ s.cls = .c286 ∧ s.accessFault (s.opSeg m) (s.ea m) 5 true = none) ∧
    (∃ s : State, s.protectedMode = false ∧ s.cls = .c286) ∧ (∃ s : State, s.protectedMode = true ∧ s.sys.cpl ≠ 0) :=
  ⟨⟨prot 0, _, rfl, rfl, rfl⟩, ⟨on .m80286, rfl⟩, ⟨on .m80286, _, rfl, rfl, rfl⟩, ⟨on .m80286, rfl, rfl⟩, ⟨prot 3, rfl, by decide +kernel⟩⟩

theorem witness_SystemLoads :
    (∃ (s : State) (m : MemRef), m = .direct 0xFFFB ∧ s.cls = .c286 ∧ s.protectedMode = false ∧
      s.accessFault (s.opSeg m) (s.ea m) 4 false = none) ∧
    (∃ (s : State) (e : RM Reg16), s.cls = .c286 ∧ s.protectedMode = true ∧ s.sys.cpl = 0 ∧ s.canReadEw e) :=
  ⟨⟨on .m80286, _, rfl, rfl, rfl, rfl⟩, ⟨prot 0, .mem (.direct 0xFFFE), rfl, rfl, rfl, rfl⟩⟩

theorem witness_DescriptorTableLoads : ∃ s : State, s.protectedMode = true ∧ s.sys.cpl = 0 ∧ s.canReadEw (.reg .ax) ∧
    s.valueEw (.reg .ax) = s.reg .ax ∧ s.afterEw (.reg .ax) = s ∧ s.isNull 0 = true ∧
    (s.isNull 0x08 = false ∧ s.inTable 0x08 = true ∧ (s.descOf 0x08).isSystem 2 = false ∧ (s.descOf 0x08).isSystem 1 = false) ∧
    (s.inTable 0x30 = true ∧ (s.descOf 0x30).isSystem 2 = true ∧ (s.descOf 0x30).present = true) ∧
    (s.inTable 0x28 = true ∧ (s.descOf 0x28).isSystem 1 = true ∧ (s.descOf 0x28).present = true) ∧
    (let v := bytesAt 0x0835 [0x02] s; v.inTable 0x30 = true ∧ (v.descOf 0x30).isSystem 2 = true ∧ (v.descOf 0x30).present = false) :=
  ⟨prot 0, rfl, rfl, trivial, rfl, rfl, by decide +kernel⟩

theorem witness_SelectorQueries : ∃ s : State, s.protectedMode = true ∧ s.canReadEw (.reg .bx) ∧ s.canWriteEw (.reg .bx) ∧
    (!s.isNull 0x10 && s.inTable 0x10) = true ∧ (!s.isNull 0x70 && s.inTable 0x70) = false ∧
    (∃ g : Reg16, (s.valueEw (.reg .bx)).toNat % 4 < (s.reg g).toNat % 4) ∧
    (∃ g : Reg16, (s.reg g).toNat % 4 ≤ (s.valueEw (.reg .bx)).toNat % 4) :=
  ⟨having (prot 0) [(.ax, 3)], rfl, trivial, trivial, by decide +kernel, by decide +kernel, ⟨.ax, by decide +kernel⟩, ⟨.cx, by decide +kernel⟩⟩

theorem witness_StepRunsDecoded :
    (∃ (s : State) (i : Instr) (rest : List Byte) (n : Nat),
      s.status = .run ∧ s.rep = none ∧ s.host.returnNotify = [] ∧
      s.intFlags = { intr := false, trap := false, halt := false, dma := false } ∧
      decode s.cls s.fetchWindow = .ok (i, rest) ∧ i.isPrefixByte = false ∧ n = 6 - rest.length ∧ n = 6 ∧
      (s.protectedMode = true ∧ ∀ k < n, (s.ip + BitVec.ofNat 16 k).toNat ≤ (s.seg .cs).limit.toNat)) ∧
    (∃ (s : State) (i : Instr) (rest : List Byte), s.status = .run ∧ s.handlerEntry = true ∧ s.rep = none ∧
      decode s.cls s.fetchWindow = .ok (i, rest) ∧ i.isPrefixByte = false ∧ rest.length = 5 ∧
      (s.protectedMode = true ∧ (s.ip + BitVec.ofNat 16 0).toNat ≤ (s.seg .cs).limit.toNat)) :=
  ⟨⟨bytesAt 0x0100 [0xC7, 0x86, 0x00, 0x01, 0x34, 0x12] ((prot 0).setSeg .cs { flat 0x08 0x9B with limit := 0x0105 }),
      .movEwIw (.mem (.disp16 .bp 0x0100)) 0x1234, [], 6, rfl, rfl, rfl, by decide +kernel, by decide +kernel, rfl, rfl, rfl,
      by decide +kernel, by decide +kernel⟩,
    ⟨{ bytesAt 0x0100 [0x90] (prot 0) with handlerEntry := true }, .nop, [0, 0, 0, 0, 0], rfl, rfl, rfl, by decide +kernel, rfl, rfl,
      by decide +kernel, by decide +kernel⟩⟩

/-- An unfinished REP STOSB at 0100 that goes on at 0102. -/
def unfinished : RepeatPending :=
  { instr := .stosb, startIp := 0x0100, lastPrefixIp := 0x0100, nextIp := 0x0102, override := none, rep := .rep, lock := false
    ahead := .emptyAt .m80286 0x0102 }

/-- The instruction began some bytes before IP. -/
def begun (back : Word) (s : State) : State := { s with scratch := .atBoundary (s.ip - back) }

theorem witness_StepRunsDecoded_bytes :
    (∃ s : State, s.undisturbed ∧ s.rep = none) ∧
    (∃ (s : State) (i : Instr) (rest : List Byte), decode s.cls s.fetchWindow = .ok (i, rest) ∧ i.isPrefixByte = true ∧
      rest.length = 5 ∧ s.cls = .c286 ∧ s.inLimit 0 ∧ s.inLength 0) ∧
    (∃ (s : State) (i : Instr) (rest : List Byte), decode s.cls s.fetchWindow = .ok (i, rest) ∧ i.isPrefixByte = false ∧
      rest.length = 0 ∧ s.cls = .c286 ∧ ∀ k < 6, s.inLimit k ∧ s.inLength k) ∧
    (∃ s : State, s.undisturbed ∧ s.rep = some unfinished) :=
  ⟨⟨on .m8086, ⟨rfl, rfl, rfl⟩, rfl⟩,
    ⟨begun 9 (bytesAt 0x0100 [0x26] shortCs), .prefixEs, [0, 0, 0, 0, 0], by decide +kernel, rfl, rfl, rfl,
      fun _ => by decide +kernel, fun _ => by decide +kernel⟩,
    ⟨begun 4 (bytesAt 0x0100 [0xC7, 0x86, 0x00, 0x01, 0x34, 0x12] (prot 0)), .movEwIw (.mem (.disp16 .bp 0x0100)) 0x1234, [],
      by decide +kernel, rfl, rfl, rfl, by unfold State.inLimit State.inLength; decide +kernel⟩,
    ⟨{ on .m80286 with rep := some unfinished }, ⟨rfl, rfl, rfl⟩, rfl⟩⟩

theorem witness_Fetching_faults :
    (∃ (s : State) (i : Instr) (rest : List Byte), s.undisturbed ∧ s.rep = none ∧ decode s.cls s.fetchWindow = .ok (i, rest) ∧
      1 < 6 - rest.length ∧ (∀ j < 1, s.inLimit j ∧ s.inLength j) ∧ ¬s.inLimit 1) ∧
    (∃ (s : State) (i : Instr) (rest : List Byte), decode s.cls s.fetchWindow = .ok (i, rest) ∧
      1 < 6 - rest.length ∧ (∀ j < 1, s.inLimit j ∧ s.inLength j) ∧ s.inLimit 1 ∧ ¬s.inLength 1) ∧
    (∃ s : State, s.undisturbed ∧ s.rep = none ∧ s.cls = .c286 ∧ s.cfg.coherence = .coherent ∧
      (∀ k < 10, s.kindAt (s.segAddr .cs (s.ip + BitVec.ofNat 16 k)) = .ram ∧
        Memory.read s.mem (s.segAddr .cs (s.ip + BitVec.ofNat 16 k)) ∈ prefixBytes) ∧
      (∀ k < 11, s.inLimit k) ∧ ¬s.inLimit 11) :=
  ⟨⟨begun 0 shortCs, .addEbGb (.mem (.ind .bxsi)) .al, [0, 0, 0, 0], ⟨rfl, rfl, rfl⟩, rfl, by decide +kernel, by decide,
      by unfold State.inLimit State.inLength; decide +kernel, by unfold State.inLimit; decide +kernel⟩,
    ⟨begun 9 (prot 0), .addEbGb (.mem (.ind .bxsi)) .al, [0, 0, 0, 0], by decide +kernel, by decide,
      by unfold State.inLimit State.inLength; decide +kernel, fun _ => by decide +kernel, by unfold State.inLength; decide +kernel⟩,
    ⟨bytesAt 0x0100 [0x26, 0x2E, 0x36, 0x3E, 0xF0, 0xF2, 0xF3, 0x26, 0x26, 0x26]
        ((prot 0).setSeg .cs { flat 0x08 0x9B with limit := 0x010A }), ⟨rfl, rfl, rfl⟩, rfl, rfl, rfl,
      by decide +kernel, by unfold State.inLimit; decide +kernel, by unfold State.inLimit; decide +kernel⟩⟩

theorem witness_Fetching :
    (∃ (s : State) (k : Nat), s.cfg.coherence = .coherent ∧ k = 5 ∧
      s.kindAt (s.segAddr .cs (s.ip + BitVec.ofNat 16 k)) = .ram ∧ s.ip = 0xFFFB) ∧
    (∃ s : State, s.cfg.prefetchEnabled = false ∧ s.kindAt (s.segAddr .cs (s.ip + BitVec.ofNat 16 1)) = .device 0) ∧
    (∃ s : State, s.protectedMode = true ∧ (s.seg .cs).limit.toNat < (s.ip + BitVec.ofNat 16 1).toNat) :=
  ⟨⟨{ on .m80286 with ip := 0xFFFB }, 5, rfl, rfl, rfl, rfl⟩,
    ⟨{ on .m8086 with cfg := { Config.ofModel .m8086 with prefetchEnabled := false }
                      blocks := [{ first := 0, count := 1, kind := .device 0 }] }, rfl, by decide +kernel⟩,
    ⟨shortCs, rfl, by decide +kernel⟩⟩

theorem witness_EventRules :
    (∃ s : State, s.nointr = true ∧ s.anyPending = true) ∧
    (∃ s : State, s.status = .run ∧ s.rep = none ∧ s.host.returnNotify = [] ∧ s.nointr = false ∧
      s.intFlags = { intr := false, trap := false, halt := true, dma := false }) ∧
    (∃ s : State, s.ifl = false ∧ s.intFlags.trap = false ∧ s.intFlags.dma = false ∧ s.intFlags.intr = true) ∧
    (∃ (s : State) (tick : DmaTick) (ticks : List DmaTick) (v : Byte), s.nointr = false ∧ s.intFlags.intr = false ∧ s.ifl = true ∧
      s.intFlags.trap = false ∧ s.intFlags.dma = true ∧ s.host.dmaTicks = tick :: ticks ∧
      tick.writes = [(0x0200, 0x11)] ++ (0x0200, v) :: [(0x0201, 0x22)] ∧ s.kindAt 0x0200 = .ram) ∧
    (∃ (s : State) (tick : DmaTick) (ticks : List DmaTick), s.nointr = false ∧ s.intFlags.intr = true ∧ s.ifl = false ∧
      s.intFlags.trap = false ∧ s.intFlags.dma = true ∧ s.host.dmaTicks = tick :: ticks ∧ tick.writes = []) :=
  ⟨⟨{ on .m8086 with nointr := true, intFlags := { intr := true, trap := true, halt := false, dma := false } }, rfl, rfl⟩,
    ⟨{ on .m8086 with intFlags := { intr := false, trap := false, halt := true, dma := false } }, rfl, rfl, rfl, rfl, rfl⟩,
    ⟨{ on .m8086 with intFlags := { intr := true, trap := false, halt := false, dma := false } }, by decide +kernel⟩,
    ⟨{ withPs (on .m8086) 0x0202 with
        intFlags := { intr := false, trap := false, halt := false, dma := true }
        host := { (on .m8086).host with
          dmaTicks := [{ writes := [(0x0200, 0x11), (0x0200, 0x33), (0x0201, 0x22)], inProgress := true }] } },
      { writes := [(0x0200, 0x11), (0x0200, 0x33), (0x0201, 0x22)], inProgress := true }, [], 0x33, rfl, rfl, by decide +kernel,
      rfl, rfl, rfl, rfl, by decide +kernel⟩,
    ⟨{ on .m8086 with
        intFlags := { intr := true, trap := false, halt := false, dma := true }
        host := { (on .m8086).host with dmaTicks := [{ writes := [], inProgress := false }] } },
      { writes := [], inProgress := false }, [], rfl, rfl, by decide +kernel, rfl, rfl, rfl, rfl⟩⟩

/-- INTR pending with IF set, and the PIC's answer. -/
def interrupted (answer : PicAnswer) (s : State) : State :=
  { withPs s 0x0202 with
    intFlags := { intr := true, trap := false, halt := true, dma := false }
    host := { s.host with picAnswers := [answer] } }

theorem answers {s : State} {b : Bool} (h : s.checkEvents.1 = b) : s.checkEvents = (b, s.checkEvents.2) := by rw [← h]

/-- The boundary of a step. -/
def bounded (s : State) : State := s.settled.boundaryScratch

/-- The host steps singly. -/
def single (s : State) : State := { s with host := { s.host with singleStep := true } }

/-- A trap pending, and a block that is halted or not. -/
def trapped (halt : Bool) (s : State) : State :=
  { s with intFlags := { intr := false, trap := true, halt := halt, dma := false } }

theorem witness_EventRules_taken :
    (∃ s t : State, s.status = .run ∧ s.host.returnNotify = [] ∧ (bounded s).checkEvents = (true, t) ∧ t.status ≠ .run) ∧
    (∃ s t : State, s.status = .run ∧ s.host.returnNotify = [] ∧ (bounded s).checkEvents = (true, t) ∧ t.status = .run ∧
      t.intFlags.halt = true) ∧
    (∃ s t : State, s.status = .run ∧ s.host.returnNotify = [] ∧ (bounded s).checkEvents = (true, t) ∧ t.status = .run ∧
      t.intFlags.halt = false ∧ t.host.singleStep = true) ∧
    (∃ s t : State, s.status = .run ∧ s.host.returnNotify = [] ∧ (bounded s).checkEvents = (true, t) ∧ t.status = .run ∧
      t.intFlags.halt = false ∧ t.host.singleStep = false) :=
  ⟨⟨trapped false (having (on .m80286) [(.sp, 5)]), _, rfl, rfl, answers (by decide +kernel), by decide +kernel⟩,
    ⟨trapped true (low .m8086), _, rfl, rfl, answers (by decide +kernel), by decide +kernel⟩,
    ⟨single (interrupted (.vector 0x20) (low .m8086)), _, rfl, rfl, answers (by decide +kernel), by decide +kernel⟩,
    ⟨interrupted (.vector 0x20) (low .m8086), _, rfl, rfl, answers (by decide +kernel), by decide +kernel⟩⟩

theorem witness_EventRules_notTaken :
    (∃ s t : State, s.status = .run ∧ s.host.returnNotify = [] ∧ (bounded s).checkEvents = (false, t) ∧ t.intFlags.halt = true) ∧
    (∃ s t : State, s.status = .run ∧ s.host.returnNotify = [] ∧ (bounded s).checkEvents = (false, t) ∧ t.intFlags.halt = false ∧
      t.rep = none ∧ s.intFlags.intr = true) ∧
    (∃ s t : State, s.status = .run ∧ s.host.returnNotify = [] ∧ (bounded s).checkEvents = (false, t) ∧ t.intFlags.halt = false ∧
      t.rep = some unfinished) :=
  ⟨⟨interrupted .spurious (low .m8086), _, rfl, rfl, answers (by decide +kernel), by decide +kernel⟩,
    ⟨{ withPs (on .m8086) 2 with intFlags := { intr := true, trap := false, halt := false, dma := false } }, _, rfl, rfl,
      answers (by decide +kernel), by decide +kernel⟩,
    ⟨{ on .m80286 with rep := some unfinished, intFlags := { intr := false, trap := false, halt := false, dma := true } }, _, rfl, rfl,
      answers (by decide +kernel), by decide +kernel⟩⟩

/-- The state in which a pending interrupt is delivered. -/
def acknowledged (s : State) : State :=
  { s with intFlags := { s.intFlags with intr := false, halt := false }, host := { s.host with picAnswers := [] } }

/-- The state in which a pending trap is taken. -/
def unlatched (s : State) : State := { s with intFlags := { s.intFlags with trap := false } }

/-- INTR is acknowledged at the boundary. -/
def Acknowledges (s : State) (n : Byte) : Prop :=
  s.nointr = false ∧ s.intFlags.intr = true ∧ s.ifl = true ∧ s.intFlags.trap = false ∧ s.host.picAnswers = [.vector n]

/-- The trap is taken at the boundary. -/
def TakesTrap (s : State) : Prop :=
  s.nointr = false ∧ s.intFlags.trap = true ∧
    (s.intFlags.intr = false ∨ s.ifl = false ∨ (s.cls = .c286 ∧ s.cfg.trapPriority = .trapFirst))

theorem witness_EventDelivery :
    (∃ (s : State) (n : Byte), Acknowledges s n ∧ n = 0xFF ∧ (acknowledged s).protectedMode = false ∧
      (acknowledged s).vectorInTable n ∧ (acknowledged s).canPush 3 ∧ s.cls = .c286) ∧
    (∃ s : State, s.nointr = false ∧ s.intFlags.intr = true ∧ s.ifl = true ∧ s.cls ≠ .c286 ∧ s.host.picAnswers = [.spurious]) ∧
    (∃ s : State, s.nointr = false ∧ s.intFlags.intr = true ∧ s.ifl = true ∧ s.cls ≠ .c286 ∧ s.host.picAnswers = [.noInterrupt]) ∧
    (∃ s : State, TakesTrap s ∧ (s.cls = .c286 ∧ s.cfg.trapPriority = .trapFirst) ∧ (unlatched s).protectedMode = false ∧
      (unlatched s).vectorInTable Exc.db.vector ∧ (unlatched s).canPush 3) :=
  ⟨⟨interrupted (.vector 0xFF) (low .m80286), 0xFF, ⟨rfl, rfl, by decide +kernel, rfl, rfl⟩, rfl, rfl, fun _ => by decide +kernel,
      pushes (by decide +kernel), rfl⟩,
    ⟨interrupted .spurious (low .m8086), rfl, rfl, by decide +kernel, by decide, rfl⟩,
    ⟨interrupted .noInterrupt (low .m8086), rfl, rfl, by decide +kernel, by decide, rfl⟩,
    ⟨trapped false (low .m80286), ⟨rfl, rfl, .inl rfl⟩, ⟨rfl, rfl⟩, rfl, fun _ => by decide +kernel, pushes (by decide +kernel)⟩⟩

/-- A trap pending, with the gate of vector 1. -/
def traced (gate : List Byte) (s : State) : State := trapped false (bytesAt 0x1008 gate s)

theorem witness_EventDelivery_interrupt :
    (∃ (s a : State) (g d : Desc), Acknowledges s 0x3F ∧ a = acknowledged s ∧ a.gateLeads 0x3F false g d ∧ a.sameLevel d ∧
      a.canPush 3) ∧
    (∃ (s a : State) (g d sd : Desc), Acknowledges s 0x3F ∧ a = acknowledged s ∧ a.gateLeads 0x3F false g d ∧
      a.innerStack d 0x10 0x1F00 sd ∧ (a.onStack 0x10 0x1F00 sd).canPush 5) :=
  ⟨⟨interrupted (.vector 0x3F) sameLevel, _, _, _, ⟨rfl, rfl, by decide +kernel, rfl, rfl⟩, rfl, leads (by decide +kernel),
      .inr (by decide +kernel), pushes (by decide +kernel)⟩,
    ⟨interrupted (.vector 0x3F) innerLevel, _, _, _, _, ⟨rfl, rfl, by decide +kernel, rfl, rfl⟩, rfl, leads (by decide +kernel),
      stacked (by decide +kernel), pushes (by decide +kernel)⟩⟩

theorem witness_EventDelivery_trap :
    (∃ (s a : State) (g d : Desc), TakesTrap s ∧ a = unlatched s ∧ a.gateLeads Exc.db.vector false g d ∧ a.sameLevel d ∧
      a.canPush 3) ∧
    (∃ (s a : State) (g d sd : Desc), TakesTrap s ∧ a = unlatched s ∧ a.gateLeads Exc.db.vector false g d ∧
      a.innerStack d 0x10 0x1F00 sd ∧ (a.onStack 0x10 0x1F00 sd).canPush 5) :=
  ⟨⟨traced goodGate (prot 0), _, _, _, ⟨rfl, rfl, .inl rfl⟩, rfl, leads (by decide +kernel), .inr (by decide +kernel),
      pushes (by decide +kernel)⟩,
    ⟨traced goodGate user, _, _, _, _, ⟨rfl, rfl, .inl rfl⟩, rfl, leads (by decide +kernel), stacked (by decide +kernel),
      pushes (by decide +kernel)⟩⟩

/-- What a delivery raises. -/
def raisedBy (s : State) (n : Byte) (code : Option Word) : Raise :=
  match s.deliver n false s.ip code with
  | .error r => r
  | .ok u => { exc := .ud, seen := u, committed := false }

/-- The state after a delivery that raised. -/
def recovered (s : State) (n : Byte) (code : Option Word) : State := s.undo (raisedBy s n code).seen

/-- The exception that vector 3F raises when its gate is empty. -/
def emptyGate (s : State) : State := acknowledged (interrupted (.vector 0x3F) s)

theorem raised {s : State} {n : Byte} {code : Option Word} (h : (s.deliver n false s.ip code).isOk = false) :
    s.deliver n false s.ip code = .error (raisedBy s n code) := by
  unfold raisedBy
  cases e : s.deliver n false s.ip code <;> simp_all [Except.isOk, Except.toBool]

theorem witness_EventDelivery_faults :
    (let a := emptyGate (handled [] goodGate (prot 0))
     let u := recovered a 0x3F none
     (a.deliver 0x3F false a.ip none = .error (raisedBy a 0x3F none)) ∧ (raisedBy a 0x3F none).exc = .gp 0x1FA ∧
      (∃ g d, u.gateLeads (Exc.gp 0x1FA).vector false g d ∧ u.sameLevel d ∧ u.canPush 4)) ∧
    (let a := emptyGate (handled goodGate [] (prot 0))
     let u := recovered a 0x3F none
     (u.deliver (Exc.gp 0x1FA).vector false u.ip (some 0x1FA) = .error (raisedBy u 13 (some 0x1FA))) ∧
      (∃ g d, (recovered u 13 (some 0x1FA)).gateLeads 8 false g d ∧ (recovered u 13 (some 0x1FA)).sameLevel d ∧
        (recovered u 13 (some 0x1FA)).canPush 4)) ∧
    (let a := emptyGate (prot 0)
     let u := recovered (recovered a 0x3F none) 13 (some 0x1FA)
     u.deliver 8 false u.ip (some 0) = .error (raisedBy u 8 (some 0))) ∧
    (let a := unlatched (traced [] (handled goodGate [] (prot 0)))
     (a.deliver Exc.db.vector false a.ip none = .error (raisedBy a 1 none)) ∧
      (∃ g d, (recovered a 1 none).gateLeads 8 false g d ∧ (recovered a 1 none).sameLevel d ∧
        (recovered a 1 none).canPush 4)) :=
  ⟨⟨raised (by decide +kernel), by decide +kernel, _, _, leads (by decide +kernel), .inr (by decide +kernel),
      pushes (by decide +kernel)⟩,
    ⟨raised (by decide +kernel), _, _, leads (by decide +kernel), .inr (by decide +kernel), pushes (by decide +kernel)⟩,
    raised (by decide +kernel),
    ⟨raised (by decide +kernel), _, _, leads (by decide +kernel), .inr (by decide +kernel), pushes (by decide +kernel)⟩⟩

theorem witness_EventDelivery_real :
    (∃ s : State, s.protectedMode = false ∧ ¬s.vectorInTable 0x40) ∧
    (∃ s : State, s.protectedMode = false ∧ s.vectorInTable 0x40 ∧ s.firstFault (s.pushes 3) = some (.ss 0)) :=
  ⟨⟨{ low .m80286 with sys := { resetSys with idtr := { base := 0, limit := 0x0102 } } }, rfl,
      fun h => absurd (h rfl) (by decide +kernel)⟩,
    ⟨{ having (on .m80286) [(.sp, 5)] with sys := { resetSys with idtr := { base := 0, limit := 0x0103 } } }, rfl,
      fun _ => by decide +kernel, by decide +kernel⟩⟩

end Sys2Proof.Tests
end

section
/-! The relation `Evolves`: what every operation of the machine keeps, host code and the loads of GDTR and IDTR
apart. The invariants of a step and the guard of the tables are read off it. -/

namespace Sys2Proof.Machine

/-! ## What the machine can do to a state -/

/-- The queue is in order, and so is what an unfinished repetition keeps of it (10 R55, 44 R602). -/
def State.queuesOk (s : State) : Prop :=
  s.queue.ok s.cfg.model ∧ ∀ p, s.rep = some p → p.ahead.ok s.cfg.model

/-- A cache that SS may hold: a writable data segment (20 R124). -/
def SegCache.isStack (c : SegCache) : Prop := accExec c.access = false ∧ accBit1 c.access = true

/-- What the machine can make of `s`, as far as the invariants and the tables are concerned, while host code does
not run and neither LGDT nor LIDT completes. -/
structure Evolves (s t : State) : Prop where
  cfg        : t.cfg = s.cfg
  memory     : Memory.wf s.mem = true → Memory.wf t.mem = true
  msw        : ∀ k, k = 0 ∨ 4 ≤ k → s.sys.msw.getLsbD k = true → t.sys.msw.getLsbD k = true
  gdtr       : t.sys.gdtr = s.sys.gdtr
  idtr       : t.sys.idtr = s.sys.idtr
  cpl        : t.sys.cpl = s.sys.cpl ∨ t.protectedMode = true
  live       : ∀ k, t.live.getLsbD k = true → s.live.getLsbD k = true ∨
    (directMask s.cls).getLsbD k = true ∧ (12 ≤ k → t.protectedMode = true)
  queues     : s.queuesOk → t.queuesOk
  accessed   : ∀ r, accAccessed (s.seg r).access = true → accAccessed (t.seg r).access = true
  nulled     : ∀ r, (t.seg r).nullLoaded = true → (s.seg r).nullLoaded = true ∨
    t.protectedMode = true ∧ (r = .ds ∨ r = .es)
  stack      : (s.seg .ss).isStack → (t.seg .ss).isStack
  notify     : t.host.returnNotify = s.host.returnNotify
  intercepts : t.host.intercepts ⊆ s.host.intercepts

variable {s t u : State}

theorem Evolves.refl (s : State) : Evolves s s where
  cfg := rfl
  memory := id
  msw _ _ := id
  gdtr := rfl
  idtr := rfl
  cpl := .inl rfl
  live _ := .inl
  queues := id
  accessed _ := id
  nulled _ := .inl
  stack := id
  notify := rfl
  intercepts := List.Subset.refl _

/-- PE is never cleared (10 R44). -/
theorem Evolves.protected (h : Evolves s t) (p : s.protectedMode = true) : t.protectedMode = true := by
  simp only [State.protectedMode, State.cls, h.cfg, Bool.and_eq_true] at p ⊢
  exact ⟨p.1, h.msw 0 (.inl rfl) p.2⟩

theorem Evolves.trans (h : Evolves s t) (k : Evolves t u) : Evolves s u where
  cfg := k.cfg.trans h.cfg
  memory := k.memory ∘ h.memory
  msw b hb := k.msw b hb ∘ h.msw b hb
  gdtr := k.gdtr.trans h.gdtr
  idtr := k.idtr.trans h.idtr
  cpl := by
    rcases k.cpl with e | p
    · rw [e]; exact h.cpl.imp_right k.protected
    · exact .inr p
  live b hb := by
    rcases k.live b hb with l | ⟨d, p⟩
    · exact (h.live b l).imp_right fun ⟨d, p⟩ => ⟨d, k.protected ∘ p⟩
    · exact .inr ⟨by simpa only [State.cls, h.cfg] using d, p⟩
  queues := k.queues ∘ h.queues
  accessed r := k.accessed r ∘ h.accessed r
  nulled r hr := by
    rcases k.nulled r hr with n | p
    · exact (h.nulled r n).imp_right fun ⟨p, d⟩ => ⟨k.protected p, d⟩
    · exact .inr p
  stack := k.stack ∘ h.stack
  notify := k.notify.trans h.notify
  intercepts := List.Subset.trans k.intercepts h.intercepts

/-- The part of the state that `Evolves` speaks of. -/
def State.core (s : State) : Config × List Host.Cell × Word × SegRegs × SysRegs × Prefetch × Option RepeatPending ×
    List ReturnNotify × List InterceptAnswer :=
  (s.cfg, s.mem, s.live, s.segs, s.sys, s.queue, s.rep, s.host.returnNotify, s.host.intercepts)

/-- A change of the general registers, IP, the arithmetic flags, the events, the scratch, the draws, the calls noted. -/
theorem Evolves.of_core (h : t.core = s.core) : Evolves s t := by
  simp only [State.core, Prod.mk.injEq] at h
  obtain ⟨cfg, mem, live, segs, sys, queue, rep, notify, intercepts⟩ := h
  constructor <;>
    simp only [State.queuesOk, State.seg, State.cls, cfg, mem, live, segs, sys, queue, rep, notify, intercepts,
      true_or, imp_self, implies_true, List.Subset.refl]
  all_goals exact fun _ h => .inl h

/-- What `Touches` leaves of the core, memory apart. -/
theorem Touches.core {d : List Reg16} {a : List Nat} (h : Touches s t d a) :
    ({ t with mem := s.mem } : State).core = s.core := by
  have notify := congrArg HostSide.returnNotify h.host
  have intercepts := congrArg HostSide.intercepts h.host
  dsimp only at notify intercepts
  simp [State.core, h.cfg, h.live, h.segs, h.sys, h.queue, h.rep, notify, intercepts]

/-- What `Touches` and keeps memory canonical. -/
theorem Touches.evolves {d : List Reg16} {a : List Nat} (h : Touches s t d a)
    (wf : Memory.wf s.mem = true → Memory.wf t.mem = true) : Evolves s t :=
  { Evolves.of_core h.core with memory := wf }

/-- What stays of an abandoned attempt (92 D37). -/
theorem Evolves.undo (h : Evolves s t) : Evolves s (s.undo t) :=
  { Evolves.refl s with notify := h.notify, intercepts := h.intercepts }

/-! ## Operations that may raise -/

/-- `x`, run in `s`, ends in a state that `s` evolves into: the one `out` takes from its result, or the one in which
it raises. -/
def Post {α : Type} (s : State) (out : α → State) : Res α → Prop
  | .ok a => Evolves s (out a)
  | .error r => Evolves s r.seen

/-- An operation that answers a state. -/
abbrev Runs (s : State) (x : Res State) : Prop := Post s (fun t => t) x

/-- An operation that answers a value and a state. -/
abbrev Gives {α : Type} (s : State) (x : Res (α × State)) : Prop := Post s Prod.snd x

section
variable {α β : Type} {out : α → State} {out' : β → State} {x : Res α} {f : α → Res β} {c : Bool} {e : Exc} {k : Res α}

theorem Post.ok {a : α} (h : Evolves s (out a)) : Post s out (.ok a) := h

theorem Post.raise (h : Evolves s t) : Post s out (raise t e) := h

/-- From a state that `s` evolves into. -/
theorem Post.from (h : Evolves s t) (hx : Post t out x) : Post s out x := by
  cases x with
  | ok a => exact h.trans hx
  | error r => exact h.trans hx

/-- A sequence, its second part seen from where the first began. -/
theorem Post.bind_base (hx : Post s out x) (hf : ∀ a, x = .ok a → Evolves s (out a) → Post s out' (f a)) :
    Post s out' (x >>= f) := by
  cases x with
  | ok a => exact hf a rfl hx
  | error r => exact hx

/-- A sequence, with what its first part answered. -/
theorem Post.bind_eq (hx : Post s out x) (hf : ∀ a, x = .ok a → Evolves s (out a) → Post (out a) out' (f a)) :
    Post s out' (x >>= f) := hx.bind_base fun a e h => (hf a e h).from h

theorem Post.bind (hx : Post s out x) (hf : ∀ a, Evolves s (out a) → Post (out a) out' (f a)) :
    Post s out' (x >>= f) := hx.bind_eq fun a _ => hf a

/-- A check before the rest. -/
theorem Post.check (h : c = false → Post s out k) : Post s out (raiseIf c s e >>= fun _ => k) := by
  cases c with
  | false => exact h rfl
  | true => exact Evolves.refl s

theorem Post.access {r : SegReg} {off : Word} {n : Nat} {w : Bool} (h : Post s out k) :
    Post s out (s.checkAccess r off n w >>= fun _ => k) := by
  unfold State.checkAccess
  split
  · exact h
  · exact Evolves.refl s

end

end Sys2Proof.Machine
end

section
namespace Sys2Proof.Machine

variable (s : State)

/-! ## The bus and segment accesses -/

theorem evolves_busRead8 (p : Nat) : Evolves s (s.busRead8 p).2 := (touches_busRead8 s p).evolves (by simp)

theorem evolves_busRead16 (p : Nat) : Evolves s (s.busRead16 p).2 := (touches_busRead16 s p).evolves (by simp)

theorem evolves_busWrite8 (p : Nat) (v : Byte) : Evolves s (s.busWrite8 p v) :=
  (touches_busWrite8 s p v).evolves (wf_busWrite8 p v)

theorem evolves_busWrite16 (p : Nat) (v : Word) : Evolves s (s.busWrite16 p v) := by
  unfold State.busWrite16
  split
  · exact (evolves_busWrite8 s p _).trans (evolves_busWrite8 _ _ _)
  split
  · exact { Evolves.refl s with memory := fun h => Memory.wf_write _ _ (Memory.wf_write _ _ h) }
  all_goals exact .of_core rfl

theorem evolves_segGet16 (r : SegReg) (off : Word) : Evolves s (s.segGet16 r off).2 :=
  (touches_segGet16 s r off).evolves (by simp)

theorem evolves_segPut16 (r : SegReg) (off v : Word) : Evolves s (s.segPut16 r off v) :=
  (segPut16_spec s r off v).1.evolves (wf_segPut16 r off v)

theorem evolves_ioRead (p : Word) (n : Nat) : Evolves s (s.ioRead p n).2 := by
  unfold State.ioRead
  split <;> exact .of_core rfl

theorem gives_segRead8 (r : SegReg) (off : Word) : Gives s (s.segRead8 r off) :=
  .access (.ok (evolves_busRead8 s _))

theorem gives_segRead16 (r : SegReg) (off : Word) : Gives s (s.segRead16 r off) :=
  .access (.ok (evolves_segGet16 s r off))

theorem runs_segWrite8 (r : SegReg) (off : Word) (v : Byte) : Runs s (s.segWrite8 r off v) :=
  .access (.ok (evolves_busWrite8 s _ v))

theorem runs_segWrite16 (r : SegReg) (off v : Word) : Runs s (s.segWrite16 r off v) :=
  .access (.ok (evolves_segPut16 s r off v))

/-! ## The stack -/

theorem runs_push16 (v : Word) : Runs s (s.push16 v) :=
  (runs_segWrite16 s _ _ v).bind fun _ _ => .ok (.of_core rfl)

theorem gives_pop16 : Gives s s.pop16 :=
  (gives_segRead16 s _ _).bind fun _ _ => .ok (.of_core rfl)

theorem runs_pushAll (ws : List Word) : Runs s (State.pushAll ws s) := by
  induction ws generalizing s with
  | nil => exact .refl s
  | cons w ws ih => exact (runs_push16 s w).bind fun t _ => ih t

/-! ## Descriptors -/

/-- Eight reads, whatever a read does to the state. -/
theorem evolves_readDesc (lin : BitVec 32) : Evolves s (s.readDesc lin).2 := by
  have read : ∀ {t l}, Evolves s t → Evolves s (t.sysRead8 l).2 := fun h => h.trans (evolves_busRead8 _ _)
  unfold State.readDesc
  generalize State.sysRead8 = r at *
  exact read (read (read (read (read (read (read (read (.refl s))))))))

theorem gives_fetchDescOr (sel : Word) (outside : Exc) : Gives s (s.fetchDescOr sel outside) :=
  .check fun _ => .ok (evolves_readDesc s _)

theorem evolves_putAccess (sel : Word) (a : Byte) : Evolves s (s.putAccess sel a) := evolves_busWrite8 s _ a

theorem evolves_setAccessed (sel : Word) (d : Desc) : Evolves s (s.setAccessed sel d) := by
  unfold State.setAccessed
  split
  · exact .refl s
  · exact evolves_putAccess s sel _

theorem gives_checkData (sel : Word) (outside bad absent : Exc) : Gives s (s.checkData sel outside bad absent) :=
  (gives_fetchDescOr s sel outside).bind fun (_, t) _ => .check fun _ => .check fun _ => .check fun _ => .ok (.refl t)

theorem gives_checkStack (sel : Word) (level : BitVec 2) (null outside bad : Exc) :
    Gives s (s.checkStack sel level null outside bad) :=
  .check fun _ => (gives_fetchDescOr s sel outside).bind fun (_, t) _ =>
    .check fun _ => .check fun _ => .check fun _ => .ok (.refl t)


/-! ## Updates of segment registers, IP and PS -/

/-- A load of a segment register with an accessed cache that the register may hold. -/
theorem evolves_setSeg (r : SegReg) {c : SegCache} (accessed : accAccessed c.access = true)
    (null : c.nullLoaded = true → s.protectedMode = true ∧ (r = .ds ∨ r = .es)) (stack : r = .ss → c.isStack) :
    Evolves s (s.setSeg r c) :=
  { Evolves.refl s with
    accessed := fun q h => by
      simp only [State.seg, State.setSeg_segs, SegRegs.get_set] at h ⊢
      split <;> assumption
    nulled := fun q h => by
      simp only [State.seg, State.setSeg_segs, SegRegs.get_set] at h ⊢
      split at h
      · subst q; exact .inr (null h)
      · exact .inl h
    stack := fun h => by
      simp only [State.seg, State.setSeg_segs, SegRegs.get_set] at h ⊢
      split
      · exact stack (Eq.symm ‹_›)
      · exact h }

theorem SegCache.real_isStack (sel : Word) : (SegCache.real sel).isStack := by
  simp [SegCache.isStack, SegCache.real, accExec, accBit1]

/-- The real-mode load (20 R119). -/
theorem evolves_setSeg_real (r : SegReg) (sel : Word) : Evolves s (s.setSeg r (.real sel)) :=
  evolves_setSeg s r (by simp [accAccessed, SegCache.real]) nofun fun _ => SegCache.real_isStack sel

theorem accAccessed_or_one (a : Byte) : accAccessed (a ||| 1) = true := by simp [accAccessed]

/-- The load of a descriptor's cache (20 R120, R124, R127). -/
theorem evolves_setSeg_cache (r : SegReg) (sel : Word) {d : Desc} (stack : r = .ss → d.writable = true) :
    Evolves s (s.setSeg r (d.cache sel)) := by
  refine evolves_setSeg s r (accAccessed_or_one _) nofun fun e => ?_
  have w := stack e
  simp only [Desc.writable, Desc.isData, Bool.and_eq_true, Bool.not_eq_true'] at w
  simpa [SegCache.isStack, Desc.cache, accExec, accBit1] using And.intro w.1.2 w.2

/-- A null selector in DS or ES (20 R120). -/
theorem evolves_setSeg_nulled (p : s.protectedMode = true) {r : SegReg} (hr : r = .ds ∨ r = .es) (sel : Word) :
    Evolves s (s.setSeg r ((s.seg r).nulled sel)) :=
  { Evolves.refl s with
    accessed := fun q h => by
      simp only [State.seg, State.setSeg_segs, SegRegs.get_set] at h ⊢
      split
      · subst q; exact h
      · exact h
    nulled := fun q h => by
      simp only [State.seg, State.setSeg_segs, SegRegs.get_set] at h ⊢
      split at h
      · subst q; exact .inr ⟨p, hr⟩
      · exact .inl h
    stack := fun h => by
      rcases hr with rfl | rfl <;> exact h }

theorem evolves_jump (target : Word) : Evolves s (s.jump target) :=
  { Evolves.refl s with queues := fun h => ⟨h.1.flush target, h.2⟩ }

theorem evolves_flushQueue : Evolves s s.flushQueue :=
  { Evolves.refl s with
    queues := fun ⟨q, a⟩ => ⟨q.flush _, fun p hp => by
      simp only [State.flushQueue, Option.map_eq_some_iff] at hp
      obtain ⟨p', hp', rfl⟩ := hp
      exact (a p' hp').flush _⟩ }

theorem evolves_clearDirect (mask : Word) : Evolves s (s.clearDirect mask) :=
  { Evolves.refl s with
    live := fun k h => by
      simp only [State.clearDirect, BitVec.getLsbD_and, Bool.and_eq_true] at h
      exact .inl h.1 }

theorem getLsbD_setBit {w : Word} {k j : Nat} {v : Bool} (h : (setBit w k v).getLsbD j = true) :
    w.getLsbD j = true ∨ j = k := by
  unfold setBit at h
  split at h
  · simp only [BitVec.getLsbD_or, BitVec.natCast_eq_ofNat, BitVec.getLsbD_ofNat, Nat.one_shiftLeft,
      Nat.testBit_two_pow, Bool.or_eq_true, Bool.and_eq_true, decide_eq_true_eq] at h
    exact h.imp_right fun e => e.2.symm
  · rw [BitVec.getLsbD_and, Bool.and_eq_true] at h
    exact .inl h.1

/-- A write of a direct bit that the mode lets be set (10 R27, R39). -/
theorem evolves_setDirect {k : Nat} (d : (directMask s.cls).getLsbD k = true) (p : 12 ≤ k → s.protectedMode = true)
    (v : Bool) : Evolves s (s.setDirect k v) :=
  { Evolves.refl s with
    live := fun _ h => (getLsbD_setBit h).imp_right fun e => by subst e; exact ⟨d, p⟩ }

/-- TF, IF and DF exist on every class. -/
theorem directMask_low (c : CpuClass) {k : Nat} (h : k = tfBit ∨ k = ifBit ∨ k = dfBit) :
    (directMask c).getLsbD k = true := by
  rcases h with rfl | rfl | rfl <;> cases c <;> decide

theorem evolves_setDirect_low {k : Nat} (h : k = tfBit ∨ k = ifBit ∨ k = dfBit) (v : Bool) :
    Evolves s (s.setDirect k v) :=
  evolves_setDirect s (directMask_low s.cls h) (fun low => by
    rcases h with rfl | rfl | rfl <;> exact absurd low (by decide)) v

/-- NT exists on C286. -/
theorem directMask_nt {s : State} (p : s.protectedMode = true) : (directMask s.cls).getLsbD ntBit = true := by
  simp only [State.protectedMode, Bool.and_eq_true, beq_iff_eq] at p
  rw [p.1]
  decide

/-- What PS may hold in bits 15:12 outside protected mode is no direct bit (10 R39). -/
theorem psWritable_direct {s : State} {k : Nat} (h : 12 ≤ k) (w : s.psWritable.getLsbD k = true)
    (d : (directMask s.cls).getLsbD k = true) : s.protectedMode = true := by
  by_contra np
  have lt : k < 16 := BitVec.lt_of_getLsbD d
  have hk : k = 12 ∨ k = 13 ∨ k = 14 ∨ k = 15 := by omega
  unfold State.psWritable at w
  cases c : s.cls <;> rw [c] at d <;> rcases hk with rfl | rfl | rfl | rfl <;> simp_all [directMask]

theorem evolves_setPS (v mask : Word) : Evolves s (s.setPS v mask) :=
  { Evolves.refl s with
    live := fun k h => by
      simp only [State.setPS, BitVec.getLsbD_or, BitVec.getLsbD_and, Bool.or_eq_true, Bool.and_eq_true] at h
      rcases h with ⟨l, _⟩ | ⟨⟨_, w⟩, d, _⟩
      · exact .inl l
      · exact .inr ⟨d, fun h => psWritable_direct h w d⟩ }

/-- A change of CPL in protected mode (10 R47). -/
theorem evolves_setCpl (p : s.protectedMode = true) (v : BitVec 2) :
    Evolves s { s with sys := { s.sys with cpl := v } } :=
  { Evolves.refl s with cpl := .inr p }

/-! ## Segment loads (20 R118 to R128) -/

theorem checkStack_writable {s t : State} {sel : Word} {level : BitVec 2} {null outside bad : Exc} {d : Desc}
    (h : s.checkStack sel level null outside bad = .ok (d, t)) : d.writable = true := by
  simp only [State.checkStack, bind_eq_ok, raiseIf_eq_ok] at h
  obtain ⟨_, _, ⟨e, u⟩, _, _, w, _, _, _, _, h⟩ := h
  cases h
  simpa using w

theorem evolves_setStack (sel : Word) {d : Desc} (w : d.writable = true) : Evolves s (s.setStack sel d) :=
  (evolves_setAccessed s sel d).trans (evolves_setSeg_cache _ .ss sel fun _ => w)

theorem runs_loadDataOr (p : s.protectedMode = true) {r : SegReg} (hr : r = .ds ∨ r = .es) (sel : Word)
    (outside bad absent : Exc) : Runs s (s.loadDataOr r sel outside bad absent) := by
  unfold State.loadDataOr
  split
  · exact .ok (evolves_setSeg_nulled s p hr sel)
  · refine (gives_checkData s sel outside bad absent).bind fun (d, t) _ => .ok ?_
    exact (evolves_setAccessed t sel d).trans
      (evolves_setSeg_cache _ r sel fun e => by rcases hr with h | h <;> simp [e] at h)

theorem runs_loadSeg (r : SegReg) (sel : Word) : Runs s (s.loadSeg r sel) := by
  unfold State.loadSeg
  split
  · rename_i p
    cases r with
    | ss =>
      exact (gives_checkStack s sel _ _ _ _).bind_eq fun (d, t) e _ =>
        .ok (evolves_setStack t sel (checkStack_writable e))
    | es => exact runs_loadDataOr s p (.inr rfl) sel _ _ _
    | ds => exact runs_loadDataOr s p (.inl rfl) sel _ _ _
    | cs => exact .ok (evolves_setSeg_real s .cs sel)
  · exact .ok (evolves_setSeg_real s r sel)

theorem evolves_setCode (p : s.protectedMode = true) (sel : Word) (newRpl : BitVec 2) (d : Desc) :
    Evolves s (s.setCode sel newRpl d) := by
  have load := (evolves_setAccessed s sel d).trans
    (evolves_setSeg_cache _ .cs (errSel sel ||| newRpl.setWidth 16) (d := d) nofun)
  exact load.trans (evolves_setCpl _ (load.protected p) newRpl)

theorem evolves_farJumpReal (sel off : Word) : Evolves s (s.farJumpReal sel off) :=
  (evolves_setSeg_real s .cs sel).trans (evolves_jump _ off)

theorem runs_nearJump (target : Word) : Runs s (s.nearJump target) := .check fun _ => .ok (evolves_jump s target)

/-! ## Taking an exception or an interrupt (60 R920 to R942) -/

theorem runs_deliverReal (n : Byte) (savedIp : Word) : Runs s (s.deliverReal n savedIp) :=
  .check fun _ => ((runs_pushAll _ _).bind fun _ _ =>
    .ok ((evolves_clearDirect _ _).trans (evolves_farJumpReal _ _ _))).from
      ((evolves_busRead16 s _).trans (evolves_busRead16 _ _))

theorem gives_readGate (n : Byte) : Gives s (s.readGate n) := by
  refine .check fun _ => ?_
  have read := evolves_readDesc s (s.idtBase + BitVec.ofNat 32 (8 * n.toNat))
  generalize s.readDesc _ = x at read ⊢
  exact (Post.check fun _ => .ok (.refl _)).from read

theorem gives_tssStack (level : BitVec 2) : Gives s (s.tssStack level) :=
  .check fun _ => .ok ((evolves_busRead16 s _).trans (evolves_busRead16 _ _))

theorem gives_innerCheck (level : BitVec 2) : Gives s (s.innerCheck level) :=
  (gives_tssStack s level).bind fun (_, _) _ => (gives_checkStack _ _ _ _ _ _).bind fun (_, _) _ => .ok (.refl _)

theorem innerCheck_writable {s t : State} {level : BitVec 2} {nss nsp : Word} {d : Desc}
    (h : s.innerCheck level = .ok ((nss, nsp, d), t)) : d.writable = true := by
  simp only [State.innerCheck, bind_eq_ok] at h
  obtain ⟨⟨⟨_, _⟩, _⟩, _, ⟨_, _⟩, k, h⟩ := h
  cases h
  exact checkStack_writable k

theorem evolves_enterStack (p : s.protectedMode = true) (nss nsp : Word) {d : Desc} (w : d.writable = true)
    (level : BitVec 2) : Evolves s (s.enterStack nss nsp d level) := by
  have load : Evolves s ((s.setStack nss d).setReg .sp nsp) := (evolves_setStack s nss w).trans (.of_core rfl)
  exact load.trans (evolves_setCpl _ (load.protected p) level)

theorem gives_gateTarget (g : Desc) : Gives s (s.gateTarget g) :=
  .check fun _ => (gives_fetchDescOr s _ _).bind fun (_, _) _ =>
    .check fun _ => .check fun _ => .check fun _ => .ok (.refl _)

theorem runs_pushFrame (p : s.protectedMode = true) (t : Desc) (frame : List Word) : Runs s (s.pushFrame t frame) := by
  unfold State.pushFrame
  split
  · refine (gives_innerCheck s _).bind_eq fun ⟨⟨nss, nsp, d⟩, u⟩ e h => ?_
    exact (runs_pushAll _ _).from (evolves_enterStack u (h.protected p) nss nsp (innerCheck_writable e) _)
  · exact runs_pushAll s frame

theorem runs_deliverProtected (p : s.protectedMode = true) (n : Byte) (software : Bool) (savedIp : Word)
    (code : Option Word) : Runs s (s.deliverProtected n software savedIp code) :=
  (gives_readGate s n).bind fun (_, _) h₁ => .check fun _ => .check fun _ =>
    (gives_gateTarget _ _).bind fun (_, _) h₂ =>
      (runs_pushFrame _ (h₂.protected (h₁.protected p)) _ _).bind fun _ h₃ => .ok <|
        (evolves_setCode _ (h₃.protected (h₂.protected (h₁.protected p))) _ _ _).trans <|
          (evolves_jump _ _).trans (evolves_clearDirect _ _)

theorem runs_deliver (n : Byte) (software : Bool) (savedIp : Word) (code : Option Word) :
    Runs s (s.deliver n software savedIp code) := by
  unfold State.deliver
  split
  · exact runs_deliverProtected s ‹_› n software savedIp code
  · exact runs_deliverReal s n savedIp

/-- An exception that is taken, whether its delivery, that of #DF or neither completes (60 R970, R971). -/
theorem evolves_takeException (savedIp : Word) (e : Exc) : Evolves s (s.takeException savedIp e) := by
  have first := runs_deliver s e.vector false savedIp e.code
  unfold State.takeException
  split
  · rename_i h
    rwa [h] at first
  · rename_i r h
    rw [h] at first
    have second := runs_deliver (s.undo r.seen) Exc.df.vector false savedIp Exc.df.code
    split
    · rename_i k
      rw [k] at second
      exact first.undo.trans second
    · rename_i r2 k
      rw [k] at second
      exact (Evolves.trans first.undo second).undo.trans (.of_core rfl)

/-- The end of an instruction that raised (60 R911, 92 D65). -/
theorem evolves_deliverRaise {s : State} {r : Raise} (h : Evolves s r.seen) : Evolves s (s.deliverRaise r) := by
  unfold State.deliverRaise
  refine .trans ?_ (.of_core rfl) (t := if r.committed then _ else _)
  split
  · exact h.trans (evolves_takeException _ _ _)
  · exact h.undo.trans (evolves_takeException _ _ _)

theorem evolves_latchTrap (t : State) : Evolves t (s.latchTrap t) := by
  unfold State.latchTrap
  split <;> exact .of_core rfl

/-- An instruction whose body `Runs`, to its end. -/
theorem Post.finish {s t : State} {x : Res State} (hx : Runs s x) (h : s.finish x = .next t) : Evolves s t := by
  cases x with
  | ok u => cases h; exact Evolves.trans hx (evolves_latchTrap s u)
  | error r => cases h; exact evolves_deliverRaise hx

end Sys2Proof.Machine
end

section
namespace Sys2Proof.Machine

variable (s : State)

/-! ## Task switching (60 R960 to R962) -/

theorem evolves_tssWriteAll (ws : List Word) (lin : BitVec 32) : Evolves s (State.tssWriteAll ws lin s) := by
  induction ws generalizing lin s with
  | nil => exact .refl s
  | cons w ws ih => exact (evolves_busWrite16 s _ w).trans (ih _ _)

theorem evolves_markBusy (sel : Word) (busy : Bool) : Evolves s (s.markBusy sel busy) :=
  (evolves_busRead8 s _).trans (evolves_putAccess _ sel _)

/-- Fifteen reads, whatever a read does to the state. -/
theorem evolves_readTask : Evolves s s.readTask.2 := by
  have read : ∀ {t l}, Evolves s t → Evolves s (t.sysRead16 l).2 := fun h => h.trans (evolves_busRead16 _ _)
  unfold State.readTask
  generalize State.sysRead16 = r at *
  exact read (read (read (read (read (read (read (read (read (read (read (read (read (read (read (.refl s)))))))))))))))

/-- TR, LDTR and MSW.TS are free to change. -/
theorem evolves_setTask (tr : SysSegReg) :
    Evolves s { s with sys := { s.sys with tr := tr, msw := s.sys.msw ||| 0x0008 } } :=
  { Evolves.refl s with
    msw := fun k _ h => by simp [h]
    cpl := .inl rfl
    nulled := fun r h => .inl h
    live := fun k h => .inl h }

theorem evolves_setLdtr (ldtr : SysSegReg) : Evolves s { s with sys := { s.sys with ldtr := ldtr } } :=
  { Evolves.refl s with cpl := .inl rfl }

theorem evolves_commitTask (nsel : Word) (nd : Desc) (k : SwitchKind) : Evolves s (s.commitTask nsel nd k) := by
  have save : Evolves s s.saveTask := evolves_tssWriteAll s _ _
  have mark : ∀ {u sel busy}, Evolves s u → Evolves s (u.markBusy sel busy) :=
    fun h => h.trans (evolves_markBusy _ _ _)
  have link : ∀ {u lin v}, Evolves s u → Evolves s (u.sysWrite16 lin v) := fun h => h.trans (evolves_busWrite16 _ _ _)
  unfold State.commitTask
  generalize State.markBusy = f at *
  generalize State.sysWrite16 = g at *
  cases k with
  | jmp => exact (mark (mark save)).trans (evolves_setTask _ _)
  | call => exact (mark (link save)).trans (evolves_setTask _ _)
  | iret => exact (mark save).trans (evolves_setTask _ _)

/-- The new task's selectors and CPL, while the caches wait for their loads (60 R960). -/
theorem evolves_taskSelectors (p : s.protectedMode = true) (t : TaskImage) :
    Evolves s { s with
      segs := { es := { s.segs.es with selector := t.es }, cs := { s.segs.cs with selector := t.cs },
                ss := { s.segs.ss with selector := t.ss }, ds := { s.segs.ds with selector := t.ds } }
      sys := { s.sys with cpl := rpl t.cs, ldtr := { s.sys.ldtr with selector := t.ldt } } } :=
  { Evolves.refl s with
    cpl := .inr p
    accessed := fun r h => by cases r <;> exact h
    nulled := fun r h => by cases r <;> exact .inl h }

theorem evolves_enterTask (p : s.protectedMode = true) (k : SwitchKind) (t : TaskImage) :
    Evolves s (s.enterTask k t) := by
  have regs : Evolves s (({ s with regs := t.regs } : State).setPS t.ps 0xFFFF) :=
    Evolves.trans (t := { s with regs := t.regs }) (.of_core rfl) (evolves_setPS _ _ _)
  have rest : ∀ {u}, Evolves s u → Evolves s (State.jump _ t.ip) :=
    fun {u} h => h.trans <| (evolves_taskSelectors u (h.protected p) t).trans (evolves_jump _ _)
  cases k with
  | call =>
    have q := regs.protected p
    exact rest (regs.trans (evolves_setDirect _ (directMask_nt q) (fun _ => q) true))
  | jmp => exact rest regs
  | iret => exact rest regs

theorem runs_loadTaskLdt (sel : Word) : Runs s (s.loadTaskLdt sel) := by
  unfold State.loadTaskLdt
  split
  · exact .ok (evolves_setLdtr s _)
  · exact .check fun _ => (gives_fetchDescOr s _ _).bind fun (_, _) _ => .check fun _ => .ok (evolves_setLdtr _ _)

theorem runs_loadTaskCs (p : s.protectedMode = true) (sel : Word) : Runs s (s.loadTaskCs sel) :=
  .check fun _ => (gives_fetchDescOr s _ _).bind fun (_, _) h =>
    .check fun _ => .check fun _ => .check fun _ => .ok (evolves_setCode _ (h.protected p) _ _ _)

theorem runs_loadTaskSegs (p : s.protectedMode = true) (t : TaskImage) : Runs s (s.loadTaskSegs t) :=
  (runs_loadTaskLdt s _).bind fun _ h₁ => (runs_loadTaskCs _ (h₁.protected p) _).bind fun _ h₂ =>
    (gives_checkStack _ _ _ _ _ _).bind_eq fun (_, u) e h₃ =>
      have ss := evolves_setStack u t.ss (checkStack_writable e)
      have q := ss.protected (h₃.protected (h₂.protected (h₁.protected p)))
      Post.from ss <| (runs_loadDataOr _ q (.inl rfl) _ _ _ _).bind fun _ h₄ =>
        (runs_loadDataOr _ (h₄.protected q) (.inr rfl) _ _ _ _).bind fun _ _ => .check fun _ => .ok (.refl _)

theorem runs_committed {s : State} {x : Res State} (h : Runs s x) : Runs s (committed x) := by
  cases x <;> exact h

theorem runs_taskSwitch (p : s.protectedMode = true) (nsel : Word) (nd : Desc) (k : SwitchKind) :
    Runs s (s.taskSwitch nsel nd k) := by
  refine .check fun _ => ?_
  have read := (evolves_commitTask s nsel nd k).trans (evolves_readTask _)
  generalize (s.commitTask nsel nd k).readTask = x at read ⊢
  have enter := evolves_enterTask x.2 (read.protected p) k x.1
  exact (runs_committed (runs_loadTaskSegs _ (enter.protected (read.protected p)) x.1)).from (read.trans enter)

theorem runs_taskReturn (p : s.protectedMode = true) : Runs s s.taskReturn := by
  have read := evolves_busRead16 s (s.phys (s.sys.tr.base.setWidth 32))
  unfold State.taskReturn State.sysRead16
  generalize s.busRead16 _ = x at read ⊢
  exact Post.from read <| .check fun _ => (gives_fetchDescOr _ _ _).bind fun (_, _) h => .check fun _ => .check fun _ =>
    runs_taskSwitch _ (h.protected (read.protected p)) _ _ _

/-! ## Returning from an interrupt (60 R950, R951; 45 R684) -/

theorem gives_checkReturnCs (sel off : Word) : Gives s (s.checkReturnCs sel off) :=
  .check fun _ => .check fun _ => (gives_fetchDescOr s _ _).bind fun (_, _) _ =>
    .check fun _ => .check fun _ => .check fun _ => .check fun _ => .ok (.refl _)

theorem evolves_dropSeg (p : s.protectedMode = true) {r : SegReg} (hr : r = .ds ∨ r = .es) :
    Evolves s (s.dropSeg r) := by
  unfold State.dropSeg
  dsimp only
  split
  · exact evolves_setSeg_nulled s p hr 0
  · exact .refl s

/-- DS and ES at a return to an outer level (45 R684). -/
theorem evolves_dropData (p : s.protectedMode = true) : Evolves s ((s.dropSeg .ds).dropSeg .es) :=
  have ds := evolves_dropSeg s p (.inl rfl)
  ds.trans (evolves_dropSeg _ (ds.protected p) (.inr rfl))

theorem runs_iretReal : Runs s s.iretReal :=
  (gives_pop16 s).bind fun (_, _) _ => (gives_pop16 _).bind fun (_, _) _ => (gives_pop16 _).bind fun (_, _) _ =>
    .ok ((evolves_farJumpReal _ _ _).trans (evolves_setPS _ _ _))

/-- SS and SP, and the data segments, of the level returned to (45 R684, R951). -/
theorem evolves_leaveLevel (p : s.protectedMode = true) (nss nsp : Word) {d : Desc} (w : d.writable = true) :
    Evolves s ((((s.setStack nss d).setReg .sp nsp).dropSeg .ds).dropSeg .es) :=
  have ss : Evolves s ((s.setStack nss d).setReg .sp nsp) := (evolves_setStack s nss w).trans (.of_core rfl)
  ss.trans (evolves_dropData _ (ss.protected p))

theorem runs_iretOuter (p : s.protectedMode = true) (off sel f : Word) (d : Desc) :
    Runs s (s.iretOuter off sel f d) :=
  (gives_segRead16 s _ _).bind fun (_, _) h₁ => (gives_segRead16 _ _ _).bind fun (_, _) h₂ =>
    (gives_checkStack _ _ _ _ _ _).bind_eq fun (_, u) e h₃ =>
      have q := h₃.protected (h₂.protected (h₁.protected p))
      have cs := (evolves_setCode u q sel (rpl sel) d).trans <| (evolves_jump _ off).trans (evolves_setPS _ f 0xFFFF)
      .ok (cs.trans (evolves_leaveLevel _ (cs.protected q) _ _ (checkStack_writable e)))

theorem runs_iretCode (p : s.protectedMode = true) (off sel f : Word) : Runs s (s.iretCode off sel f) := by
  refine (gives_checkReturnCs s sel off).bind fun (d, t) h => ?_
  dsimp only
  split
  · exact .ok <| (evolves_setCode t (h.protected p) _ _ _).trans <| (evolves_jump _ _).trans <|
      (evolves_setPS _ _ _).trans (.of_core rfl)
  · exact runs_iretOuter t (h.protected p) off sel f d

theorem runs_iretProtected (p : s.protectedMode = true) : Runs s s.iretProtected := by
  unfold State.iretProtected
  split
  · exact runs_taskReturn s p
  · refine (gives_segRead16 s _ _).bind fun (_, _) h₁ => (gives_segRead16 _ _ _).bind fun (_, _) h₂ =>
      (gives_segRead16 _ _ _).bind fun (f, u) h₃ => ?_
    have q := h₃.protected (h₂.protected (h₁.protected p))
    dsimp only at q ⊢
    split
    · have sp : Evolves u (u.setReg .sp (u.regs.sp + 6)) := .of_core rfl
      exact (runs_taskReturn _ (sp.protected q)).from sp
    · exact runs_iretCode u q _ _ f

theorem runs_interruptReturn : Runs s s.interruptReturn := by
  unfold State.interruptReturn
  split
  · exact runs_iretProtected s ‹_›
  · exact runs_iretReal s

/-! ## The operands (30 R219 to R227, 42 R400) -/

theorem evolves_noteEa (off : Word) : Evolves s (s.noteEa off) := .of_core rfl

/-- The two marks of an operand in memory that is written. -/
theorem evolves_noteBoth (off : Word) : Evolves s ((s.noteEa off).noteWrite off) := .of_core rfl

theorem gives_readEb (e : RM Reg8) : Gives s (s.readEb e) := by
  cases e with
  | reg r => exact .ok (.refl s)
  | mem m => exact (gives_segRead8 _ _ _).from (evolves_noteEa s _)

theorem gives_readEw (e : RM Reg16) : Gives s (s.readEw e) := by
  cases e with
  | reg r => exact .ok (.refl s)
  | mem m => exact (gives_segRead16 _ _ _).from (evolves_noteEa s _)

theorem runs_writeEb (e : RM Reg8) (v : Byte) : Runs s (s.writeEb e v) := by
  cases e with
  | reg r => exact .ok (.of_core rfl)
  | mem m => exact (runs_segWrite8 _ _ _ _).from (evolves_noteBoth s _)

theorem runs_writeEw (e : RM Reg16) (v : Word) : Runs s (s.writeEw e v) := by
  cases e with
  | reg r => exact .ok (.of_core rfl)
  | mem m => exact (runs_segWrite16 _ _ _ _).from (evolves_noteBoth s _)

theorem gives_readPair (m : MemRef) : Gives s (s.readPair m) :=
  Post.from (evolves_noteEa s (s.ea m)) <| (gives_segRead16 _ _ _).bind fun (_, _) _ =>
    (gives_segRead16 _ _ _).bind fun (_, _) _ => .ok (.refl _)

end Sys2Proof.Machine
end

section
namespace Sys2Proof.Machine

variable (s : State)

/-! ## The forms of the operations (42 R400, 43 R510) -/

/-- A two-operand operation that changes the arithmetic flags and the draws only. -/
def BinOp.flagsOnly {n : Nat} (op : BinOp n) : Prop := ∀ d x s, (op d x s).2.core = s.core

/-- A one-operand operation of that kind. -/
def UnOp.flagsOnly {n : Nat} (op : UnOp n) : Prop := ∀ d s, (op d s).2.core = s.core

section
variable {op : BinOp 8} (h : op.flagsOnly)
include h

theorem runs_binEb (e : RM Reg8) (src : Byte) : Runs s (s.binEb op e src) :=
  (gives_readEb s e).bind fun (_, _) _ => (runs_writeEb _ e _).from (.of_core (h _ _ _))

theorem runs_binGb (g : Reg8) (e : RM Reg8) : Runs s (s.binGb op g e) :=
  (gives_readEb s e).bind fun (_, _) _ => .ok (.of_core (h _ _ _))

theorem runs_binReg8 (r : Reg8) (src : Byte) : Runs s (s.binReg8 op r src) := .ok (.of_core (h _ _ _))

theorem runs_testEb (e : RM Reg8) (src : Byte) : Runs s (s.testEb op e src) :=
  (gives_readEb s e).bind fun (_, _) _ => .ok (.of_core (h _ _ _))

theorem runs_testGb (g : Reg8) (e : RM Reg8) : Runs s (s.testGb op g e) :=
  (gives_readEb s e).bind fun (_, _) _ => .ok (.of_core (h _ _ _))
end

section
variable {op : BinOp 16} (h : op.flagsOnly)
include h

theorem runs_binEw (e : RM Reg16) (src : Word) : Runs s (s.binEw op e src) :=
  (gives_readEw s e).bind fun (_, _) _ => (runs_writeEw _ e _).from (.of_core (h _ _ _))

theorem runs_binGw (g : Reg16) (e : RM Reg16) : Runs s (s.binGw op g e) :=
  (gives_readEw s e).bind fun (_, _) _ => .ok (.of_core (h _ _ _))

theorem runs_binReg (r : Reg16) (src : Word) : Runs s (s.binReg op r src) := .ok (.of_core (h _ _ _))

theorem runs_testEw (e : RM Reg16) (src : Word) : Runs s (s.testEw op e src) :=
  (gives_readEw s e).bind fun (_, _) _ => .ok (.of_core (h _ _ _))

theorem runs_testGw (g : Reg16) (e : RM Reg16) : Runs s (s.testGw op g e) :=
  (gives_readEw s e).bind fun (_, _) _ => .ok (.of_core (h _ _ _))
end

theorem runs_unEb {op : UnOp 8} (h : op.flagsOnly) (e : RM Reg8) : Runs s (s.unEb op e) :=
  (gives_readEb s e).bind fun (_, _) _ => (runs_writeEb _ e _).from (.of_core (h _ _))

theorem runs_unEw {op : UnOp 16} (h : op.flagsOnly) (e : RM Reg16) : Runs s (s.unEw op e) :=
  (gives_readEw s e).bind fun (_, _) _ => (runs_writeEw _ e _).from (.of_core (h _ _))

/-- A shift's or rotate's way to set the flags changes nothing else. -/
def shiftFlagsOnly {n : Nat} (flags : State → ResultSize → Shifted n → Nat → State) : Prop :=
  ∀ s z x c, (flags s z x c).core = s.core

theorem setRotate_flagsOnly {n : Nat} : shiftFlagsOnly (State.setRotate (n := n)) := fun _ _ _ _ => rfl

theorem setShift_flagsOnly {n : Nat} : shiftFlagsOnly (State.setShift (n := n)) := fun _ _ _ _ => rfl

theorem runs_shift8 (f : Bool → Byte → Nat → Shifted 8) {flags : State → ResultSize → Shifted 8 → Nat → State}
    (h : shiftFlagsOnly flags) (e : RM Reg8) (count : Byte) : Runs s (s.shift8 f flags e count) := by
  refine (gives_readEb s e).bind fun (_, t) _ => ?_
  dsimp only
  split
  · exact .ok (.refl t)
  · exact (runs_writeEb _ e _).from (.of_core (h _ _ _ _))

theorem runs_shift16 (f : Bool → Word → Nat → Shifted 16) {flags : State → ResultSize → Shifted 16 → Nat → State}
    (h : shiftFlagsOnly flags) (e : RM Reg16) (count : Byte) : Runs s (s.shift16 f flags e count) := by
  refine (gives_readEw s e).bind fun (_, t) _ => ?_
  dsimp only
  split
  · exact .ok (.refl t)
  · exact (runs_writeEw _ e _).from (.of_core (h _ _ _ _))

/-! ## Multiplication, division and decimal adjustment (42) -/

theorem runs_mulByte (e : RM Reg8) : Runs s (s.mulByte e) :=
  (gives_readEb s e).bind fun (_, _) _ => .ok (.of_core rfl)

theorem runs_mulWord (e : RM Reg16) : Runs s (s.mulWord e) :=
  (gives_readEw s e).bind fun (_, _) _ => .ok (.of_core rfl)

theorem runs_imulByte (e : RM Reg8) : Runs s (s.imulByte e) :=
  (gives_readEb s e).bind fun (_, _) _ => .ok (.of_core rfl)

theorem runs_imulWord (e : RM Reg16) : Runs s (s.imulWord e) :=
  (gives_readEw s e).bind fun (_, _) _ => .ok (.of_core rfl)

theorem runs_imulImm (g : Reg16) (e : RM Reg16) (imm : Word) : Runs s (s.imulImm g e imm) :=
  (gives_readEw s e).bind fun (_, _) _ => .ok (.of_core rfl)

theorem runs_divByte (e : RM Reg8) : Runs s (s.divByte e) :=
  (gives_readEb s e).bind fun (_, _) _ => .check fun _ => .check fun _ => .ok (.of_core rfl)

theorem runs_divWord (e : RM Reg16) : Runs s (s.divWord e) :=
  (gives_readEw s e).bind fun (_, _) _ => .check fun _ => .check fun _ => .ok (.of_core rfl)

theorem runs_idivByte (e : RM Reg8) : Runs s (s.idivByte e) :=
  (gives_readEb s e).bind fun (_, _) _ => .check fun _ => .check fun _ => .ok (.of_core rfl)

theorem runs_idivWord (e : RM Reg16) : Runs s (s.idivWord e) :=
  (gives_readEw s e).bind fun (_, _) _ => .check fun _ => .check fun _ => .ok (.of_core rfl)

theorem runs_adjustMul (ib : Byte) : Runs s (s.adjustMul ib) := .check fun _ => .ok (.of_core rfl)

/-! ## Control transfers (45) -/

theorem evolves_setReg (r : Reg16) (v : Word) : Evolves s (s.setReg r v) := .of_core rfl

theorem runs_branchIf (c : Bool) (ib : Byte) : Runs s (s.branchIf c ib) := by
  unfold State.branchIf
  split
  · exact runs_nearJump s _
  · exact .ok (.refl s)

theorem runs_loopIf (c : Bool) (ib : Byte) : Runs s (s.loopIf c ib) :=
  (runs_branchIf _ _ ib).from (evolves_setReg s .cx _)

theorem runs_callNear (target : Word) : Runs s (s.callNear target) :=
  .check fun _ => (runs_push16 s _).bind fun _ _ => .ok (evolves_jump _ _)

theorem runs_callOperand (e : RM Reg16) : Runs s (s.callOperand e) :=
  (gives_readEw s e).bind fun (_, _) _ => runs_callNear _ _

theorem runs_jmpOperand (e : RM Reg16) : Runs s (s.jmpOperand e) :=
  (gives_readEw s e).bind fun (_, _) _ => runs_nearJump _ _

theorem runs_retNear (k : Word) : Runs s (s.retNear k) :=
  (gives_pop16 s).bind fun (_, _) _ => (runs_nearJump _ _).bind fun _ _ => .ok (.of_core rfl)

theorem runs_pushReturn (call : Bool) : Runs s (s.pushReturn call) := by
  cases call with
  | true => exact runs_pushAll s _
  | false => exact .ok (.refl s)

theorem runs_farCode (p : s.protectedMode = true) (call : Bool) (sel off : Word) (d : Desc) :
    Runs s (s.farCode call sel off d) :=
  .check fun _ => .check fun _ => .check fun _ => .check fun _ => (runs_pushReturn s call).bind fun _ h =>
    .ok ((evolves_setCode _ (h.protected p) _ _ _).trans (evolves_jump _ _))

theorem runs_onNewStack {s : State} {nss : Word} {x : Res State} (h : Runs s x) : Runs s (onNewStack nss x) := by
  cases x <;> exact h

/-- Giving a segment register back the cache it had. -/
theorem Evolves.restoreSeg {s t : State} (h : Evolves s t) (r : SegReg) : Evolves s (t.setSeg r (s.seg r)) :=
  { h with
    accessed := fun q hq => by
      simp only [State.seg, State.setSeg_segs, SegRegs.get_set]
      split
      · subst q; exact hq
      · exact h.accessed q hq
    nulled := fun q hq => by
      simp only [State.seg, State.setSeg_segs, SegRegs.get_set] at hq
      split at hq
      · subst q; exact .inl hq
      · exact h.nulled q hq
    stack := fun hs => by
      simp only [State.seg, State.setSeg_segs, SegRegs.get_set]
      split
      · rename_i e; subst e; exact hs
      · exact h.stack hs }

/-- Reading with another cache in a segment register, and giving it back the cache it had. -/
theorem core_setSeg_back {s t : State} {r : SegReg} {c : SegCache} (h : t.core = (s.setSeg r c).core) :
    (t.setSeg r (s.seg r)).core = s.core := by
  simp only [State.core, Prod.mk.injEq] at h ⊢
  obtain ⟨cfg, mem, live, segs, rest⟩ := h
  refine ⟨cfg, mem, live, ?_, rest⟩
  rw [State.setSeg_segs, segs]
  cases r <;> rfl

/-- A word of the old stack, with the new stack back in SS after it (45 R677). -/
theorem gives_readOldStack {s v : State} (h : Evolves s v) (off : Word) :
    Post s Prod.snd (v.readOldStack (s.seg .ss) off) := by
  unfold State.readOldStack State.segRead16 State.checkAccess
  split
  · refine h.trans (.of_core (core_setSeg_back (c := s.seg .ss) ?_))
    have core := (touches_segGet16 (v.setSeg .ss (s.seg .ss)) .ss off).core
    rwa [← State.segGet16_mem _ .ss off] at core
  · exact h.restoreSeg .ss

theorem runs_gateParams {s v : State} (h : Evolves s v) (osp nss : Word) (n : Nat) :
    Runs s (State.gateParams (s.seg .ss) osp nss n v) := by
  induction n generalizing v with
  | zero => exact h
  | succ n ih =>
    exact (gives_readOldStack h _).bind_base fun (w, t) _ h =>
      (runs_onNewStack ((runs_push16 t w).from h)).bind_base fun _ _ h => ih h

theorem runs_gateInner (p : s.protectedMode = true) (g t : Desc) : Runs s (s.gateInner g t) :=
  (gives_innerCheck s _).bind_base fun ⟨⟨_, _, _⟩, u⟩ e h =>
    have enter := h.trans (evolves_enterStack u (h.protected p) _ _ (innerCheck_writable e) t.dpl)
    (runs_onNewStack ((runs_pushAll _ _).from enter)).bind_base fun _ _ h =>
      (runs_gateParams h _ _ _).bind_base fun _ _ h =>
        (runs_onNewStack ((runs_pushAll _ _).from h)).bind_base fun _ _ h =>
          .ok (h.trans ((evolves_setCode _ (h.protected p) _ _ _).trans (evolves_jump _ _)))

theorem runs_callGate (p : s.protectedMode = true) (call : Bool) (gsel : Word) (g : Desc) :
    Runs s (s.callGate call gsel g) := by
  refine .check fun _ => .check fun _ => (gives_gateTarget s g).bind fun (t, u) h => .check fun _ => ?_
  have q := h.protected p
  split
  · exact runs_gateInner u q g t
  · exact (runs_pushReturn u call).bind fun _ h =>
      .ok ((evolves_setCode _ (h.protected q) _ _ _).trans (evolves_jump _ _))

theorem runs_taskGate (p : s.protectedMode = true) (call : Bool) (sel : Word) (g : Desc) :
    Runs s (s.taskGate call sel g) :=
  .check fun _ => .check fun _ => .check fun _ => (gives_fetchDescOr s _ _).bind fun (_, _) h =>
    .check fun _ => .check fun _ => runs_taskSwitch _ (h.protected p) _ _ _

theorem runs_taskDirect (p : s.protectedMode = true) (call : Bool) (sel : Word) (d : Desc) :
    Runs s (s.taskDirect call sel d) :=
  .check fun _ => .check fun _ => runs_taskSwitch s p _ _ _

theorem runs_farProtected (p : s.protectedMode = true) (call : Bool) (sel off : Word) :
    Runs s (s.farProtected call sel off) := by
  refine .check fun _ => (gives_fetchDescOr s _ _).bind fun (d, u) h => ?_
  have q := h.protected p
  dsimp only at q ⊢
  split
  · exact runs_farCode u q call sel off d
  split
  · exact runs_callGate u q call sel d
  split
  · exact runs_taskGate u q call sel d
  split
  · exact runs_taskDirect u q call sel d
  · exact .raise (.refl u)

theorem runs_farTransfer (call : Bool) (sel off : Word) : Runs s (s.farTransfer call sel off) := by
  unfold State.farTransfer
  split
  · exact runs_farProtected s ‹_› call sel off
  · exact (runs_pushReturn s call).bind fun _ _ => .ok (evolves_farJumpReal _ _ _)

theorem runs_farOperand (call : Bool) (m : MemRef) : Runs s (s.farOperand call m) :=
  (gives_readPair s m).bind fun ⟨⟨_, _⟩, _⟩ _ => runs_farTransfer _ _ _ _

theorem runs_farReturnOuter (p : s.protectedMode = true) (k off sel : Word) (d : Desc) :
    Runs s (s.farReturnOuter k off sel d) :=
  (gives_segRead16 s _ _).bind fun (_, _) h₁ => (gives_segRead16 _ _ _).bind fun (_, _) h₂ =>
    (gives_checkStack _ _ _ _ _ _).bind_eq fun (_, u) e h₃ =>
      have q := h₃.protected (h₂.protected (h₁.protected p))
      have cs := (evolves_setCode u q sel (rpl sel) d).trans (evolves_jump _ off)
      .ok (cs.trans (evolves_leaveLevel _ (cs.protected q) _ _ (checkStack_writable e)))

theorem runs_farReturnProtected (p : s.protectedMode = true) (k : Word) : Runs s (s.farReturnProtected k) := by
  refine (gives_segRead16 s _ _).bind fun (off, _) h₁ => (gives_segRead16 _ _ _).bind fun (sel, _) h₂ =>
    (gives_checkReturnCs _ _ _).bind fun (d, u) h₃ => ?_
  have q := h₃.protected (h₂.protected (h₁.protected p))
  dsimp only at q ⊢
  split
  · exact .ok <| (evolves_setCode u q _ _ _).trans <| (evolves_jump _ _).trans (evolves_setReg _ _ _)
  · exact runs_farReturnOuter u q k off sel d

theorem runs_farReturn (k : Word) : Runs s (s.farReturn k) := by
  unfold State.farReturn
  split
  · exact runs_farReturnProtected s ‹_› k
  · exact (gives_pop16 s).bind fun (_, _) _ => (gives_pop16 _).bind fun (_, _) _ =>
      .ok ((evolves_farJumpReal _ _ _).trans (evolves_setReg _ _ _))

theorem runs_softwareInt (n : Byte) : Runs s (s.softwareInt n) := runs_deliver s n true s.ip none

theorem runs_enterCopy (n : Nat) : Runs s (State.enterCopy n s) := by
  induction n generalizing s with
  | zero => exact .refl s
  | succ n ih =>
    exact Post.from (evolves_setReg s .bp (s.regs.bp - 2)) <| (gives_segRead16 _ _ _).bind fun (_, _) _ =>
      (runs_push16 _ _).bind fun t _ => ih t

theorem runs_enterLevels (level : Nat) (frame : Word) : Runs s (s.enterLevels level frame) := by
  unfold State.enterLevels
  split
  · exact .ok (.refl s)
  · exact (runs_enterCopy s _).bind fun _ _ => runs_push16 _ _

theorem runs_enterFrame (size : Word) (lev : Byte) : Runs s (s.enterFrame size lev) :=
  (runs_push16 s _).bind fun _ _ => (runs_enterLevels _ _ _).bind fun _ _ => .ok (.of_core rfl)

theorem runs_leaveFrame : Runs s s.leaveFrame :=
  Post.from (evolves_setReg s .sp s.regs.bp) <| (gives_pop16 _).bind fun (_, _) _ => .ok (evolves_setReg _ _ _)

theorem runs_bound (g : Reg16) (m : MemRef) : Runs s (s.bound g m) :=
  (gives_readPair s m).bind fun ⟨⟨_, _⟩, _⟩ _ => .check fun _ => .ok (.refl _)

/-! ## Data transfers (41) -/

theorem runs_loadReg8 (g : Reg8) (e : RM Reg8) : Runs s (s.loadReg8 g e) :=
  (gives_readEb s e).bind fun (_, _) _ => .ok (.of_core rfl)

theorem runs_loadReg16 (g : Reg16) (e : RM Reg16) : Runs s (s.loadReg16 g e) :=
  (gives_readEw s e).bind fun (_, _) _ => .ok (evolves_setReg _ _ _)

theorem evolves_loadCodeSeg (v : Word) : Evolves s (s.loadCodeSeg v) :=
  (evolves_setSeg_real s .cs v).trans (evolves_flushQueue _)

theorem runs_moveSeg (sr : SegReg) (e : RM Reg16) : Runs s (s.moveSeg sr e) := by
  cases sr with
  | es => exact (gives_readEw s e).bind fun (_, _) _ => runs_loadSeg _ _ _
  | ds => exact (gives_readEw s e).bind fun (_, _) _ => runs_loadSeg _ _ _
  | ss => exact (gives_readEw s e).bind fun (_, _) _ => (runs_loadSeg _ _ _).bind fun _ _ => .ok (.of_core rfl)
  | cs => exact .check fun _ => (gives_readEw s e).bind fun (_, _) _ => .ok (evolves_loadCodeSeg _ _)

theorem runs_xchg8 (e : RM Reg8) (g : Reg8) : Runs s (s.xchg8 e g) :=
  (gives_readEb s e).bind fun (_, _) _ => (runs_writeEb _ _ _).bind fun _ _ => .ok (.of_core rfl)

theorem runs_xchg16 (e : RM Reg16) (g : Reg16) : Runs s (s.xchg16 e g) :=
  (gives_readEw s e).bind fun (_, _) _ => (runs_writeEw _ _ _).bind fun _ _ => .ok (evolves_setReg _ _ _)

theorem runs_translate : Runs s s.translate :=
  (gives_segRead8 s _ _).bind fun (_, _) _ => .ok (.of_core rfl)

theorem runs_loadFar (r : SegReg) (g : Reg16) (m : MemRef) : Runs s (s.loadFar r g m) :=
  (gives_readPair s m).bind fun ⟨⟨_, _⟩, _⟩ _ => (runs_loadSeg _ _ _).bind fun _ _ => .ok (evolves_setReg _ _ _)

theorem runs_pushStackPtr : Runs s s.pushStackPtr := by
  unfold State.pushStackPtr
  split <;> exact runs_push16 s _

theorem runs_pushOperand (e : RM Reg16) : Runs s (s.pushOperand e) := by
  unfold State.pushOperand
  split
  · exact runs_pushStackPtr s
  · exact (gives_readEw s e).bind fun (_, _) _ => runs_push16 _ _

theorem runs_popSeg (r : SegReg) : Runs s (s.popSeg r) :=
  (gives_segRead16 s _ _).bind fun (_, _) _ => (runs_loadSeg _ _ _).bind fun _ _ => .ok (.of_core rfl)

theorem runs_popReg (r : Reg16) : Runs s (s.popReg r) :=
  (gives_pop16 s).bind fun (_, _) _ => .ok (evolves_setReg _ _ _)

theorem runs_popOperand (e : RM Reg16) : Runs s (s.popOperand e) := by
  refine (gives_segRead16 s _ _).bind fun (_, _) _ => ?_
  cases e with
  | reg r => exact .ok (.of_core rfl)
  | mem m => exact (runs_writeEw _ _ _).bind fun _ _ => .ok (evolves_setReg _ _ _)

theorem runs_popCodeSeg : Runs s s.popCodeSeg :=
  (gives_pop16 s).bind fun (_, _) _ => .ok (evolves_loadCodeSeg _ _)

theorem runs_popAllRegs : Runs s s.popAllRegs :=
  (gives_pop16 s).bind fun (_, _) _ => (gives_pop16 _).bind fun (_, _) _ => (gives_pop16 _).bind fun (_, _) _ =>
    (gives_pop16 _).bind fun (_, _) _ => (gives_pop16 _).bind fun (_, _) _ => (gives_pop16 _).bind fun (_, _) _ =>
    (gives_pop16 _).bind fun (_, _) _ => (gives_pop16 _).bind fun (_, _) _ => .ok (.of_core rfl)

theorem runs_popFlags : Runs s s.popFlags :=
  (gives_pop16 s).bind fun (_, _) _ => .ok (evolves_setPS _ _ _)

theorem runs_inByte (port : Word) : Runs s (s.inByte port) :=
  .check fun _ => .ok ((evolves_ioRead s port 1).trans (.of_core rfl))

theorem runs_inWord (port : Word) : Runs s (s.inWord port) :=
  .check fun _ => .ok ((evolves_ioRead s port 2).trans (evolves_setReg _ _ _))

theorem runs_outByte (port : Word) : Runs s (s.outByte port) := .check fun _ => .ok (.of_core rfl)

theorem runs_outWord (port : Word) : Runs s (s.outWord port) := .check fun _ => .ok (.of_core rfl)

/-! ## Flag and processor control (46) -/

theorem runs_setIf : Runs s s.setIf :=
  .check fun _ => .ok ((evolves_setDirect_low s (.inr (.inl rfl)) true).trans (.of_core rfl))

theorem runs_clearIf : Runs s s.clearIf := .check fun _ => .ok (evolves_setDirect_low s (.inr (.inl rfl)) false)

theorem evolves_setDf (v : Bool) : Evolves s (s.setDirect dfBit v) := evolves_setDirect_low s (.inr (.inr rfl)) v

theorem runs_halt : Runs s s.halt := .check fun _ => .ok (.of_core rfl)

theorem runs_escape (e : RM Reg16) : Runs s (s.escape e) := by
  refine .check fun _ => ?_
  cases e with
  | reg r => exact .ok (.refl s)
  | mem m => exact .ok (evolves_noteEa s _)

theorem runs_waitInstr : Runs s s.waitInstr := .check fun _ => .ok (.refl s)

/-! ## Strings (44) -/

theorem Prefetch.ok.rewind {q : Prefetch} {m : Model} (h : q.ok m) (delta : Nat) (off : Word) :
    (q.rewind (Prefetch.ringSize m) delta off).ok m := by
  unfold Prefetch.rewind
  split
  · rename_i c
    simp only [Bool.and_eq_true, decide_eq_true_eq] at c
    obtain ⟨slots, head, tail, queued, valid, room, ring⟩ := h
    have lt : delta % Prefetch.ringSize m = delta := Nat.mod_eq_of_lt (by omega)
    refine ⟨slots, head, Nat.mod_lt _ (by omega), c.1, valid, c.2, ?_⟩
    dsimp only
    rw [lt, Nat.mod_add_mod, show q.tail + Prefetch.ringSize m - delta + (q.queuedBytes + delta) =
      q.tail + q.queuedBytes + Prefetch.ringSize m by omega, Nat.add_mod_right, ring]
  · exact h.flush off

theorem evolves_suspend (i : Instr) (k : RepKind) : Evolves s (s.suspend i k) :=
  { Evolves.refl s with
    queues := fun ⟨q, _⟩ => ⟨q.rewind _ _, fun p hp => by cases hp; exact q⟩ }

theorem evolves_endRepeat : Evolves s { s with rep := none } :=
  { Evolves.refl s with queues := fun h => ⟨h.1, fun _ hp => by cases hp⟩ }

/-- One iteration, whatever it repeats (44 R602). -/
theorem runs_repeated (i : Instr) (stops : RepKind → State → Bool) {element : State → Res State}
    (h : Runs s (element s)) : Runs s (s.repeated i stops element) := by
  unfold State.repeated
  split
  · exact h
  split
  · exact .ok (evolves_endRepeat s)
  · refine h.bind fun t _ => ?_
    dsimp only
    split
    · exact .ok ((evolves_setReg t .cx _).trans (evolves_endRepeat _))
    · exact .ok ((evolves_setReg t .cx _).trans (evolves_suspend _ _ _))

theorem runs_movsB : Runs s s.movsB :=
  (gives_segRead8 s _ _).bind fun (_, _) _ => (runs_segWrite8 _ _ _ _).bind fun _ _ => .ok (.of_core rfl)

theorem runs_movsW : Runs s s.movsW :=
  (gives_segRead16 s _ _).bind fun (_, _) _ => (runs_segWrite16 _ _ _ _).bind fun _ _ => .ok (.of_core rfl)

theorem runs_cmpsB : Runs s s.cmpsB :=
  (gives_segRead8 s _ _).bind fun (_, _) _ => (gives_segRead8 _ _ _).bind fun (_, _) _ => .ok (.of_core rfl)

theorem runs_cmpsW : Runs s s.cmpsW :=
  (gives_segRead16 s _ _).bind fun (_, _) _ => (gives_segRead16 _ _ _).bind fun (_, _) _ => .ok (.of_core rfl)

theorem runs_scasB : Runs s s.scasB := (gives_segRead8 s _ _).bind fun (_, _) _ => .ok (.of_core rfl)

theorem runs_scasW : Runs s s.scasW := (gives_segRead16 s _ _).bind fun (_, _) _ => .ok (.of_core rfl)

theorem runs_lodsB : Runs s s.lodsB := (gives_segRead8 s _ _).bind fun (_, _) _ => .ok (.of_core rfl)

theorem runs_lodsW : Runs s s.lodsW := (gives_segRead16 s _ _).bind fun (_, _) _ => .ok (.of_core rfl)

theorem runs_stosB : Runs s s.stosB := (runs_segWrite8 s _ _ _).bind fun _ _ => .ok (.of_core rfl)

theorem runs_stosW : Runs s s.stosW := (runs_segWrite16 s _ _ _).bind fun _ _ => .ok (.of_core rfl)

theorem runs_insB : Runs s s.insB :=
  .check fun _ => .access <| Post.from (evolves_ioRead s (s.reg .dx) 1) <|
    (runs_segWrite8 _ _ _ _).bind fun _ _ => .ok (.of_core rfl)

theorem runs_insW : Runs s s.insW :=
  .check fun _ => .access <| Post.from (evolves_ioRead s (s.reg .dx) 2) <|
    (runs_segWrite16 _ _ _ _).bind fun _ _ => .ok (.of_core rfl)

theorem runs_outsB : Runs s s.outsB :=
  .check fun _ => (gives_segRead8 s _ _).bind fun (_, _) _ => .ok (.of_core rfl)

theorem runs_outsW : Runs s s.outsW :=
  .check fun _ => (gives_segRead16 s _ _).bind fun (_, _) _ => .ok (.of_core rfl)

/-! ## System instructions (47) -/

theorem runs_storeLdtr (e : RM Reg16) : Runs s (s.storeLdtr e) := .check fun _ => runs_writeEw s e _

theorem runs_storeTr (e : RM Reg16) : Runs s (s.storeTr e) := .check fun _ => runs_writeEw s e _

theorem runs_ldtrFrom (sel : Word) : Runs s (s.ldtrFrom sel) :=
  .check fun _ => (gives_fetchDescOr s _ _).bind fun (_, _) _ =>
    .check fun _ => .check fun _ => .ok (evolves_setLdtr _ _)

theorem runs_loadLdtr (e : RM Reg16) : Runs s (s.loadLdtr e) := by
  refine .check fun _ => .check fun _ => (gives_readEw s e).bind fun (sel, t) _ => ?_
  dsimp only
  split
  · exact .ok (evolves_setLdtr t _)
  · exact runs_ldtrFrom t sel

theorem evolves_setTr (tr : SysSegReg) : Evolves s { s with sys := { s.sys with tr := tr } } :=
  { Evolves.refl s with cpl := .inl rfl }

theorem runs_loadTr (e : RM Reg16) : Runs s (s.loadTr e) := by
  refine .check fun _ => .check fun _ => (gives_readEw s e).bind fun (sel, t) _ => .check fun _ => .check fun _ =>
    (gives_fetchDescOr _ _ _).bind fun (d, u) _ => .check fun _ => .check fun _ => .ok ?_
  have put := evolves_putAccess u sel (d.access ||| 2)
  generalize u.putAccess sel (d.access ||| 2) = v at put ⊢
  exact put.trans (evolves_setTr v _)

theorem evolves_lookup (sel : Word) : Evolves s (s.lookup sel).2 := by
  unfold State.lookup
  split
  · exact .refl s
  · dsimp only
    exact evolves_readDesc s _

theorem runs_verify (ok : Desc → Bool) (e : RM Reg16) : Runs s (s.verify ok e) := by
  refine .check fun _ => (gives_readEw s e).bind fun (sel, t) _ => ?_
  have look := evolves_lookup t sel
  dsimp only
  split <;> rename_i h <;> rw [h] at look <;> exact .ok (look.trans (.of_core rfl))

theorem runs_accessQuery (types : Desc → Bool) (value : Desc → Word) (g : Reg16) (e : RM Reg16) :
    Runs s (s.accessQuery types value g e) := by
  refine .check fun _ => (gives_readEw s e).bind fun (sel, t) _ => ?_
  have look := evolves_lookup t sel
  dsimp only
  split <;> rename_i h <;> rw [h] at look
  · split <;> exact .ok (look.trans (.of_core rfl))
  · exact .ok (look.trans (.of_core rfl))

theorem runs_adjustRpl (e : RM Reg16) (g : Reg16) : Runs s (s.adjustRpl e g) := by
  refine .check fun _ => (gives_readEw s e).bind fun (d, t) _ => ?_
  dsimp only
  split
  · exact (runs_writeEw t e _).bind fun _ _ => .ok (.of_core rfl)
  · cases e with
    | reg r => exact .ok (.of_core rfl)
    | mem m => exact .access (.ok (.of_core rfl))

theorem runs_storeTable (r : TableReg) (m : MemRef) : Runs s (s.storeTable r m) :=
  Post.from (evolves_noteBoth s (s.ea m)) <| .access <| (runs_segWrite16 _ _ _ _).bind fun _ _ =>
    (runs_segWrite16 _ _ _ _).bind fun _ _ => (runs_segWrite8 _ _ _ _).bind fun _ _ => runs_segWrite8 _ _ _ _

theorem gives_readTable (m : MemRef) : Gives s (s.readTable m) :=
  Post.from (evolves_noteEa s (s.ea m)) <| .access <| (gives_segRead16 _ _ _).bind fun (_, _) _ =>
    (gives_segRead16 _ _ _).bind fun (_, _) _ => (gives_segRead8 _ _ _).bind fun (_, _) _ => .ok (.refl _)

/-- LMSW and CLTS: bits 15:4 of MSW stay, and PE is not cleared (10 R44). -/
theorem evolves_setMsw {v : Word} (h : ∀ k, k = 0 ∨ 4 ≤ k → s.sys.msw.getLsbD k = true → v.getLsbD k = true) :
    Evolves s { s with sys := { s.sys with msw := v } } :=
  { Evolves.refl s with
    msw := h
    cpl := .inl rfl
    live := fun _ h => .inl h
    nulled := fun _ h => .inl h }

/-- A mask of 16 bits with PE and bits 15:4 in it keeps them. -/
theorem keeps_mswBits {w m : Word} (h : ∀ k < 16, k = 0 ∨ 4 ≤ k → m.getLsbD k = true) (k : Nat) (hk : k = 0 ∨ 4 ≤ k)
    (b : w.getLsbD k = true) : (w &&& m).getLsbD k = true := by
  rw [BitVec.getLsbD_and, b, h k (BitVec.lt_of_getLsbD b) hk]
  rfl

theorem runs_loadMsw (e : RM Reg16) : Runs s (s.loadMsw e) :=
  .check fun _ => (gives_readEw s e).bind fun (_, _) _ => .ok <| evolves_setMsw _ fun k hk b => by
    rw [BitVec.getLsbD_or, keeps_mswBits (by decide) k hk b, Bool.true_or]

theorem runs_clearTs : Runs s s.clearTs :=
  .check fun _ => .ok (evolves_setMsw s (keeps_mswBits (by decide)))

end Sys2Proof.Machine
end

section
namespace Sys2Proof.Machine

variable {s t : State}

/-! ## What an instruction can do -/

/-- The ways an instruction can end: with a state the machine's own rules make, after a completed LGDT or LIDT, and
after host code that suppressed an INT (45 R700). -/
inductive ExecEffect (i : Instr) (s t : State) : Prop where
  | evolves (h : Evolves s t)
  | gdtr (m : MemRef) (u : State) (r : TableReg) (instr : i = .lgdtMs m)
      (allowed : s.protectedMode = true → s.sys.cpl = 0) (before : Evolves s u)
      (after : Evolves { u with sys := { u.sys with gdtr := r } } t)
  | idtr (m : MemRef) (u : State) (r : TableReg) (instr : i = .lidtMs m)
      (allowed : s.protectedMode = true → s.sys.cpl = 0) (before : Evolves s u)
      (after : Evolves { u with sys := { u.sys with idtr := r } } t)
  | host (n : Byte) (calls : List HostCall) (u : State) (answer : s.intercept n = (.suppress calls, u))
      (after : t = s.latchTrap (State.applyCalls calls u))

theorem ExecEffect.of_runs {i : Instr} {x : Res State} (h : s.finish x = .next t) (hx : Runs s x) :
    ExecEffect i s t := .evolves (hx.finish h)

theorem evolves_intercept (s : State) (n : Byte) : Evolves s (s.intercept n).2 := by
  unfold State.intercept
  split
  · split
    · exact .refl s
    · rename_i e
      exact { Evolves.refl s with intercepts := by rw [e]; exact List.subset_cons_self _ _ }
  · exact .refl s

theorem intInstr_effect {n : Byte} (h : s.finish (s.intInstr n) = .next t) : ExecEffect (.intIb n) s t := by
  have ask := evolves_intercept s n
  unfold State.intInstr at h
  split at h <;> rename_i e
  · rw [e] at ask
    exact .of_runs h ((runs_softwareInt _ n).from ask)
  · cases h
    exact .host n _ _ e rfl

/-- LGDT and LIDT up to their table register: a fault, or a table read at CPL 0 or in real mode (47 R812, R813). -/
theorem readTable_effect {m : MemRef} {load : TableReg → State → State}
    (h : s.finish (do s.checkCpl0; let (r, u) ← s.readTable m; return load r u) = .next t) :
    Evolves s t ∨ ∃ r u, (s.protectedMode = true → s.sys.cpl = 0) ∧ Evolves s u ∧ Evolves (load r u) t := by
  have table := gives_readTable s m
  have raised : Post s (fun _ => s) (do s.checkCpl0; let (r, u) ← s.readTable m; return load r u) :=
    .check fun _ => table.bind_base fun _ _ _ => .ok (.refl s)
  generalize e : (do s.checkCpl0; let (r, u) ← s.readTable m; return load r u : Res State) = x at h raised
  cases x with
  | error r => cases h; exact .inl (evolves_deliverRaise raised)
  | ok v =>
    cases h
    simp only [bind_eq_ok, State.checkCpl0, raiseIf_eq_ok] at e
    obtain ⟨_, allowed, ⟨r, u⟩, read, e⟩ := e
    cases e
    rw [read] at table
    exact .inr ⟨r, u, by simpa using allowed, table, evolves_latchTrap s _⟩

theorem runs_into (s : State) : Runs s (if s.flags.of then s.softwareInt 4 else .ok s) := by
  split
  · exact runs_softwareInt s 4
  · exact .ok (.refl s)

/-- The byte operations on two operands. -/
theorem aluForm8_effect {i : Instr} {x} (form : aluForm8 i = some x) (h : exec i s = .next t) : ExecEffect i s t := by
  cases i <;> cases form <;> unfold exec at h <;> dsimp only at h
  case addEbGb | addEbIb | orEbGb | orEbIb | adcEbGb | adcEbIb | sbbEbGb | sbbEbIb | andEbGb | andEbIb | subEbGb |
      subEbIb | xorEbGb | xorEbIb =>
    exact .of_runs h (runs_binEb s (fun _ _ _ => rfl) _ _)
  case addGbEb | orGbEb | adcGbEb | sbbGbEb | andGbEb | subGbEb | xorGbEb =>
    exact .of_runs h (runs_binGb s (fun _ _ _ => rfl) _ _)
  case addAlIb | orAlIb | adcAlIb | sbbAlIb | andAlIb | subAlIb | xorAlIb =>
    exact .of_runs h (runs_binReg8 s (fun _ _ _ => rfl) _ _)
  case cmpEbGb | cmpAlIb | cmpEbIb | testEbGb | testAlIb | testEbIb | testEbIb1 =>
    exact .of_runs h (runs_testEb s (fun _ _ _ => rfl) _ _)
  case cmpGbEb => exact .of_runs h (runs_testGb s (fun _ _ _ => rfl) _ _)

/-- The word operations on two operands. -/
theorem aluForm16_effect {i : Instr} {x} (form : aluForm16 i = some x) (h : exec i s = .next t) : ExecEffect i s t := by
  cases i <;> cases form <;> unfold exec at h <;> dsimp only at h
  case addEwGw | addEwIw | addEwIbs | orEwGw | orEwIw | orEwIbs | adcEwGw | adcEwIw | adcEwIbs | sbbEwGw | sbbEwIw |
      sbbEwIbs | andEwGw | andEwIw | andEwIbs | subEwGw | subEwIw | subEwIbs | xorEwGw | xorEwIw | xorEwIbs =>
    exact .of_runs h (runs_binEw s (fun _ _ _ => rfl) _ _)
  case addGwEw | orGwEw | adcGwEw | sbbGwEw | andGwEw | subGwEw | xorGwEw =>
    exact .of_runs h (runs_binGw s (fun _ _ _ => rfl) _ _)
  case addAxIw | orAxIw | adcAxIw | sbbAxIw | andAxIw | subAxIw | xorAxIw =>
    exact .of_runs h (runs_binReg s (fun _ _ _ => rfl) _ _)
  case cmpEwGw | cmpAxIw | cmpEwIw | cmpEwIbs | testEwGw | testAxIw | testEwIw | testEwIw1 =>
    exact .of_runs h (runs_testEw s (fun _ _ _ => rfl) _ _)
  case cmpGwEw => exact .of_runs h (runs_testGw s (fun _ _ _ => rfl) _ _)

/-- The byte shifts and rotates. -/
theorem shiftForm8_effect {i : Instr} {x} (form : shiftForm8 i = some x) (h : exec i s = .next t) :
    ExecEffect i s t := by
  cases i <;> cases form <;> unfold exec at h <;> dsimp only at h
  case rolEbIb | rorEbIb | rclEbIb | rcrEbIb | rolEb1 | rorEb1 | rclEb1 | rcrEb1 | rolEbCl | rorEbCl | rclEbCl |
      rcrEbCl =>
    exact .of_runs h (runs_shift8 s _ setRotate_flagsOnly _ _)
  case shlEbIb | shrEbIb | sarEbIb | shlEb1 | shrEb1 | sarEb1 | shlEbCl | shrEbCl | sarEbCl =>
    exact .of_runs h (runs_shift8 s _ setShift_flagsOnly _ _)

/-- The word shifts and rotates. -/
theorem shiftForm16_effect {i : Instr} {x} (form : shiftForm16 i = some x) (h : exec i s = .next t) :
    ExecEffect i s t := by
  cases i <;> cases form <;> unfold exec at h <;> dsimp only at h
  case rolEwIb | rorEwIb | rclEwIb | rcrEwIb | rolEw1 | rorEw1 | rclEw1 | rcrEw1 | rolEwCl | rorEwCl | rclEwCl |
      rcrEwCl =>
    exact .of_runs h (runs_shift16 s _ setRotate_flagsOnly _ _)
  case shlEwIb | shrEwIb | sarEwIb | shlEw1 | shrEw1 | sarEw1 | shlEwCl | shrEwCl | sarEwCl =>
    exact .of_runs h (runs_shift16 s _ setShift_flagsOnly _ _)

/-- The conditional jumps. -/
theorem condForm_effect {i : Instr} {x} (form : condForm i = some x) (h : exec i s = .next t) : ExecEffect i s t := by
  cases i <;> cases form <;> unfold exec at h <;> exact .of_runs h (runs_branchIf s _ _)

/-- Every instruction, by the form of its meaning. -/
theorem exec_effect {i : Instr} (h : exec i s = .next t) : ExecEffect i s t := by
  cases i
  case addEbGb | addEbIb | orEbGb | orEbIb | adcEbGb | adcEbIb | sbbEbGb | sbbEbIb | andEbGb | andEbIb | subEbGb |
      subEbIb | xorEbGb | xorEbIb | addGbEb | orGbEb | adcGbEb | sbbGbEb | andGbEb | subGbEb | xorGbEb | addAlIb |
      orAlIb | adcAlIb | sbbAlIb | andAlIb | subAlIb | xorAlIb | cmpEbGb | cmpAlIb | cmpEbIb | testEbGb | testAlIb |
      testEbIb | testEbIb1 | cmpGbEb =>
    exact aluForm8_effect rfl h
  case addEwGw | addEwIw | addEwIbs | orEwGw | orEwIw | orEwIbs | adcEwGw | adcEwIw | adcEwIbs | sbbEwGw | sbbEwIw |
      sbbEwIbs | andEwGw | andEwIw | andEwIbs | subEwGw | subEwIw | subEwIbs | xorEwGw | xorEwIw | xorEwIbs |
      addGwEw | orGwEw | adcGwEw | sbbGwEw | andGwEw | subGwEw | xorGwEw | addAxIw | orAxIw | adcAxIw | sbbAxIw |
      andAxIw | subAxIw | xorAxIw | cmpEwGw | cmpAxIw | cmpEwIw | cmpEwIbs | testEwGw | testAxIw | testEwIw |
      testEwIw1 | cmpGwEw =>
    exact aluForm16_effect rfl h
  case rolEbIb | rorEbIb | rclEbIb | rcrEbIb | rolEb1 | rorEb1 | rclEb1 | rcrEb1 | rolEbCl | rorEbCl | rclEbCl |
      rcrEbCl | shlEbIb | shrEbIb | sarEbIb | shlEb1 | shrEb1 | sarEb1 | shlEbCl | shrEbCl | sarEbCl =>
    exact shiftForm8_effect rfl h
  case rolEwIb | rorEwIb | rclEwIb | rcrEwIb | rolEw1 | rorEw1 | rclEw1 | rcrEw1 | rolEwCl | rorEwCl | rclEwCl |
      rcrEwCl | shlEwIb | shrEwIb | sarEwIb | shlEw1 | shrEw1 | sarEw1 | shlEwCl | shrEwCl | sarEwCl =>
    exact shiftForm16_effect rfl h
  case joJb | jnoJb | jbJb | jnbJb | jzJb | jnzJb | jbeJb | jaJb | jsJb | jnsJb | jpJb | jnpJb | jlJb | jgeJb |
      jleJb | jgJb | joJb60 | jnoJb61 | jbJb62 | jnbJb63 | jzJb64 | jnzJb65 | jbeJb66 | jaJb67 | jsJb68 | jnsJb69 |
      jpJb6A | jnpJb6B | jlJb6C | jgeJb6D | jleJb6E | jgJb6F =>
    exact condForm_effect rfl h
  all_goals unfold exec at h; dsimp only at h
  case incR16 | decR16 | notEw | negEw | incEw | decEw => exact .of_runs h (runs_unEw s (fun _ _ => rfl) _)
  case pushR16 | pushIw | pushIbs | pushEs | pushCs | pushSs | pushDs | pushf => exact .of_runs h (runs_push16 s _)
  case popR16 => exact .of_runs h (runs_popReg s _)
  case boundGwMa => exact .of_runs h (runs_bound s _ _)
  case arplEwGw => exact .of_runs h (runs_adjustRpl s _ _)
  case imulGwEwIw | imulGwEwIbs => exact .of_runs h (runs_imulImm s _ _ _)
  case jcxzJb => exact .of_runs h (runs_branchIf s _ _)
  case xchgEbGb => exact .of_runs h (runs_xchg8 s _ _)
  case xchgEwGw | xchgAxCx | xchgAxDx | xchgAxBx | xchgAxSp | xchgAxBp | xchgAxSi | xchgAxDi =>
    exact .of_runs h (runs_xchg16 s _ _)
  case movEbGb | movObAl | movEbIb => exact .of_runs h (runs_writeEb s _ _)
  case movEwGw | movEwSw | movEwSwHigh | movOwAx | movEwIw | smswEw => exact .of_runs h (runs_writeEw s _ _)
  case movGbEb | movAlOb => exact .of_runs h (runs_loadReg8 s _ _)
  case movGwEw | movAxOw => exact .of_runs h (runs_loadReg16 s _ _)
  case movSwEw | movCsEw | movSwEwHigh => exact .of_runs h (runs_moveSeg s _ _)
  case popEw => exact .of_runs h (runs_popOperand s _)
  case callAp | jmpAp => exact .of_runs h (runs_farTransfer s _ _ _)
  case retIwC0 | retIw | retC1 | ret => exact .of_runs h (runs_retNear s _)
  case lesGwMp | ldsGwMp => exact .of_runs h (runs_loadFar s _ _ _)
  case enterIwIb => exact .of_runs h (runs_enterFrame s _ _)
  case retfIwC8 | retfIw | retfC9 | retf => exact .of_runs h (runs_farReturn s _)
  case aamIb => exact .of_runs h (runs_adjustMul s _)
  case esc => exact .of_runs h (runs_escape s _)
  case loopnzJb | loopzJb | loopJb => exact .of_runs h (runs_loopIf s _ _)
  case inAlIb | inAlDx => exact .of_runs h (runs_inByte s _)
  case inAxIb | inAxDx => exact .of_runs h (runs_inWord s _)
  case outIbAl | outDxAl => exact .of_runs h (runs_outByte s _)
  case outIbAx | outDxAx => exact .of_runs h (runs_outWord s _)
  case callJw => exact .of_runs h (runs_callNear s _)
  case jmpJw | jmpJb => exact .of_runs h (runs_nearJump s _)
  case notEb | negEb | incEb | decEb => exact .of_runs h (runs_unEb s (fun _ _ => rfl) _)
  case mulEb => exact .of_runs h (runs_mulByte s _)
  case imulEb => exact .of_runs h (runs_imulByte s _)
  case divEb => exact .of_runs h (runs_divByte s _)
  case idivEb => exact .of_runs h (runs_idivByte s _)
  case mulEw => exact .of_runs h (runs_mulWord s _)
  case imulEw => exact .of_runs h (runs_imulWord s _)
  case divEw => exact .of_runs h (runs_divWord s _)
  case idivEw => exact .of_runs h (runs_idivWord s _)
  case callEw => exact .of_runs h (runs_callOperand s _)
  case callMp | jmpMp => exact .of_runs h (runs_farOperand s _ _)
  case jmpEw => exact .of_runs h (runs_jmpOperand s _)
  case pushEw => exact .of_runs h (runs_pushOperand s _)
  case sldtEw => exact .of_runs h (runs_storeLdtr s _)
  case strEw => exact .of_runs h (runs_storeTr s _)
  case lldtEw => exact .of_runs h (runs_loadLdtr s _)
  case ltrEw => exact .of_runs h (runs_loadTr s _)
  case verrEw | verwEw => exact .of_runs h (runs_verify s _ _)
  case sgdtMs | sidtMs => exact .of_runs h (runs_storeTable s _ _)
  case lmswEw => exact .of_runs h (runs_loadMsw s _)
  case larGwEw | lslGwEw => exact .of_runs h (runs_accessQuery s _ _ _ _)
  case popEs | popSs | popDs => exact .of_runs h (runs_popSeg s _)
  case popCs => exact .of_runs h (runs_popCodeSeg s)
  case pushSp | pushSpFF => exact .of_runs h (runs_pushStackPtr s)
  case pusha => exact .of_runs h (runs_pushAll s _)
  case popa => exact .of_runs h (runs_popAllRegs s)
  case wait => exact .of_runs h (runs_waitInstr s)
  case popf => exact .of_runs h (runs_popFlags s)
  case leave => exact .of_runs h (runs_leaveFrame s)
  case int3 => exact .of_runs h (runs_softwareInt s _)
  case iret => exact .of_runs h (runs_interruptReturn s)
  case xlat => exact .of_runs h (runs_translate s)
  case hlt => exact .of_runs h (runs_halt s)
  case cli => exact .of_runs h (runs_clearIf s)
  case sti => exact .of_runs h (runs_setIf s)
  case clts => exact .of_runs h (runs_clearTs s)
  case leaGwM | movR8Ib | movR16Iw | aadIb | daa | das | aaa | aas | nop | cbw | cwd | sahf | lahf | salc | cmc |
      clc | stc =>
    exact .of_runs h (.ok (.of_core rfl))
  case cld | std => exact .of_runs h (.ok (evolves_setDf s _))
  case movsb => exact .of_runs h (runs_repeated s _ _ (runs_movsB s))
  case movsw => exact .of_runs h (runs_repeated s _ _ (runs_movsW s))
  case cmpsb => exact .of_runs h (runs_repeated s _ _ (runs_cmpsB s))
  case cmpsw => exact .of_runs h (runs_repeated s _ _ (runs_cmpsW s))
  case scasb => exact .of_runs h (runs_repeated s _ _ (runs_scasB s))
  case scasw => exact .of_runs h (runs_repeated s _ _ (runs_scasW s))
  case lodsb => exact .of_runs h (runs_repeated s _ _ (runs_lodsB s))
  case lodsw => exact .of_runs h (runs_repeated s _ _ (runs_lodsW s))
  case stosb => exact .of_runs h (runs_repeated s _ _ (runs_stosB s))
  case stosw => exact .of_runs h (runs_repeated s _ _ (runs_stosW s))
  case insb => exact .of_runs h (runs_repeated s _ _ (runs_insB s))
  case insw => exact .of_runs h (runs_repeated s _ _ (runs_insW s))
  case outsb => exact .of_runs h (runs_repeated s _ _ (runs_outsB s))
  case outsw => exact .of_runs h (runs_repeated s _ _ (runs_outsW s))
  case invalidOpcode => exact .of_runs h (.raise (.refl s))
  case into => exact .of_runs h (runs_into s)
  case prefixEs | prefixCs | prefixSs | prefixDs | prefixLock | prefixLockF1 | prefixRepne | prefixRep =>
    cases h
    exact .evolves (.of_core rfl)
  case reservedC86 | loadall => cases h
  case intIb n => exact intInstr_effect h
  case lgdtMs m =>
    rcases readTable_effect (load := fun r u => { u with sys := { u.sys with gdtr := r } }) h with
      e | ⟨r, u, allowed, before, after⟩
    · exact .evolves e
    · exact .gdtr m u r rfl allowed before after
  case lidtMs m =>
    rcases readTable_effect (load := fun r u => { u with sys := { u.sys with idtr := r } }) h with
      e | ⟨r, u, allowed, before, after⟩
    · exact .evolves e
    · exact .idtr m u r rfl allowed before after

end Sys2Proof.Machine
end

section
namespace Sys2Proof.Machine

variable {s t : State}

/-! ## The tables -/

theorem State.quiet.not_suppress (q : s.quiet) {n : Byte} {calls : List HostCall} {u : State} :
    s.intercept n ≠ (.suppress calls, u) := by
  unfold State.intercept
  split
  · split
    · simp
    · rename_i e
      simp [q.intr _ (e ▸ List.mem_cons_self)]
  · simp

/-- Settles O5, from what each instruction can do: PE is never cleared, and the tables change by LGDT and LIDT alone,
each behind its CPL check. -/
theorem tablesGuarded : Obligations.TablesGuarded := by
  intro s t i quiet h
  rcases exec_effect h with e | ⟨m, u, r, rfl, allowed, before, after⟩ | ⟨m, u, r, rfl, allowed, before, after⟩ |
    ⟨n, calls, u, answer, -⟩
  · exact ⟨e.protected, fun c => absurd e.gdtr c, fun c => absurd e.idtr c⟩
  · exact ⟨fun p => after.protected (before.protected p), fun _ => ⟨⟨m, rfl⟩, allowed⟩,
      fun c => absurd (after.idtr.trans before.idtr) c⟩
  · exact ⟨fun p => after.protected (before.protected p), fun c => absurd (after.gdtr.trans before.gdtr) c,
      fun _ => ⟨⟨m, rfl⟩, allowed⟩⟩
  · exact absurd answer quiet.not_suppress

end Sys2Proof.Machine
end

section
namespace Sys2Proof.Machine

variable {s t : State}

/-! ## The prefetch queue (20 R141 to R160) -/

theorem Prefetch.capacity_pos (m : Model) : 0 < Prefetch.capacity m := by cases m <;> decide

/-- One byte leaves the ring. -/
theorem Prefetch.ok.dropTail {q : Prefetch} {m : Model} (h : q.ok m) (some : 0 < q.queuedBytes) :
    ({ q with tail := (q.tail + 1) % Prefetch.ringSize m, queuedBytes := q.queuedBytes - 1 } : Prefetch).ok m where
  slots := h.slots
  head := h.head
  tail := Nat.mod_lt _ (Nat.zero_lt_of_lt h.head)
  queued := (Nat.sub_le _ 1).trans h.queued
  valid := h.valid
  room := Nat.lt_of_le_of_lt (Nat.sub_le _ 1) h.room
  ring := by
    have e : q.tail + 1 + (q.queuedBytes - 1) = q.tail + q.queuedBytes := by omega
    rw [Nat.mod_add_mod, e, h.ring]

/-- One byte enters a ring that holds less than it can. -/
theorem Prefetch.ok.prefetchOne (h : s.queue.ok s.cfg.model)
    (room : s.queue.queuedBytes < Prefetch.capacity s.cfg.model) : s.prefetchOne.queue.ok s.cfg.model where
  slots := by simp [State.prefetchOne, h.slots]
  head := Nat.mod_lt _ (Nat.zero_lt_of_lt h.head)
  tail := h.tail
  queued := by
    have := h.queued
    simp only [Prefetch.capacity, State.prefetchOne] at room ⊢
    omega
  valid := Nat.min_le_left _ _
  room := by
    simp only [Prefetch.capacity, State.prefetchOne] at room ⊢
    omega
  ring := by simp [State.prefetchOne, ← h.ring, ← Nat.add_assoc]

/-- A change of the queue that keeps its order. -/
theorem evolves_withQueue {q : Prefetch} (h : s.queue.ok s.cfg.model → q.ok s.cfg.model) :
    Evolves s { s with queue := q } :=
  { Evolves.refl s with queues := fun ⟨ok, ahead⟩ => ⟨h ok, ahead⟩ }

theorem evolves_prefetchOne (room : s.queue.queuedBytes < Prefetch.capacity s.cfg.model) : Evolves s s.prefetchOne :=
  evolves_withQueue fun h => h.prefetchOne room

theorem evolves_fillQueue {n : Nat} (h : n ≤ Prefetch.capacity s.cfg.model - s.queue.queuedBytes) :
    Evolves s (State.fillQueue n s) := by
  induction n generalizing s with
  | zero => exact .refl s
  | succ n ih =>
    unfold State.fillQueue
    split
    · refine (evolves_prefetchOne (by omega)).trans (ih ?_)
      show n ≤ Prefetch.capacity s.cfg.model - (s.queue.queuedBytes + 1)
      omega
    · exact .refl s

theorem evolves_consumeOne (s : State) : Evolves s s.consumeOne := by
  unfold State.consumeOne
  split
  · exact (evolves_prefetchOne (by have := Prefetch.capacity_pos s.cfg.model; omega)).trans
      (evolves_withQueue fun h => h.dropTail (Nat.succ_pos _))
  · exact evolves_withQueue fun h => h.dropTail (by omega)

theorem evolves_consume (n : Nat) (s : State) : Evolves s (State.consume n s) := by
  induction n generalizing s with
  | zero => exact .refl s
  | succ n ih => exact (evolves_consumeOne s).trans (ih _)

theorem evolves_latchNext (s : State) : Evolves s s.latchNext := by
  unfold State.latchNext
  split
  · exact evolves_withQueue fun h => ⟨h.slots, h.head, h.tail, h.queued, h.valid, h.room, h.ring⟩
  · exact .refl s

theorem evolves_reread (s : State) : Evolves s s.reread := by
  have ok := fun h : s.queue.ok s.cfg.model => h.reread
  obtain ⟨cells, l, -, e⟩ := s.reread_only
  rw [e] at ok ⊢
  exact evolves_withQueue ok

theorem evolves_refill (s : State) : Evolves s s.refill := by
  have fill : Evolves s.reread (State.fillQueue (Prefetch.capacity s.cfg.model - s.queue.queuedBytes) s.reread) := by
    apply evolves_fillQueue
    obtain ⟨cells, l, -, e⟩ := s.reread_only
    rw [e]
  exact ((evolves_reread s).trans fill).trans (evolves_latchNext _)

theorem evolves_queueAfter (s : State) (len : Nat) : Evolves s (s.queueAfter len) := by
  unfold State.queueAfter
  split
  · refine (evolves_consume len s).trans (.trans ?_ (evolves_refill _))
    split
    · exact evolves_withQueue fun h => h.flush _
    · exact .refl _
  · exact .refl s

/-! ## Fetching (30 R200) -/

theorem evolves_drawnFetch (s : State) : Evolves s s.drawnFetch := by
  unfold State.drawnFetch
  split
  · exact .of_core rfl
  · exact .refl s

theorem evolves_noteAll (l : List Nat) (e : Nat → BusEvent) (s : State) :
    Evolves s (l.foldl (fun t k => t.note (e k)) s) := by
  induction l generalizing s with
  | nil => exact .refl s
  | cons k l ih => exact .trans (t := s.note (e k)) (.of_core rfl) (ih _)

theorem evolves_noteFetch (s : State) (len : Nat) : Evolves s (s.noteFetch len) := evolves_noteAll _ _ s

theorem evolves_fetchAdvance (s : State) (len : Nat) : Evolves s (s.fetchAdvance len) :=
  (evolves_noteFetch s len).trans ((evolves_queueAfter _ len).trans ((evolves_drawnFetch _).trans (.of_core rfl)))

theorem evolves_fetchInstr {i : Instr} (h : s.fetchInstr = .decoded i t) : Evolves s t := by
  unfold State.fetchInstr at h
  split at h
  · cases h
  · split at h
    · cases h
    · cases h
      exact evolves_fetchAdvance s _

theorem evolves_fetchRaise {r : Raise} (h : s.fetchInstr = .raised r) : Evolves s r.seen := by
  unfold State.fetchInstr at h
  split at h
  · cases h
  · split at h
    · cases h
      exact (evolves_noteFetch s _).trans (evolves_drawnFetch _)
    · cases h

/-- With no repetition unfinished, the queue alone matters. -/
theorem State.queuesOk.of_none (h : s.rep = none) (ok : s.queue.ok s.cfg.model) : s.queuesOk :=
  ⟨ok, fun _ hp => absurd (h.symm.trans hp) nofun⟩

theorem evolves_resume {p : RepeatPending} (h : s.rep = some p) : Evolves s (s.resume p) :=
  .trans (t := { s with
      ip := p.nextIp
      queue := p.ahead
      rep := none
      scratch := { Scratch.atBoundary p.startIp with
        lastPrefixIp := p.lastPrefixIp, override := p.override, rep := some p.rep, lock := p.lock } })
    { Evolves.refl s with queues := fun ⟨_, ahead⟩ => .of_none rfl (ahead p h) } (evolves_fetchAdvance _ 0)

/-! ## The event check (60 R900 to R906) -/

theorem evolves_deliverHardware (s : State) (v : Byte) : Evolves s (s.deliverHardware v) := by
  have post := runs_deliver s v false s.ip none
  unfold State.deliverHardware
  split <;> rename_i e <;> rw [e] at post
  · exact post
  · exact post.undo.trans (evolves_takeException _ _ _)

theorem evolves_pic (s : State) : Evolves s s.pic.2 := by
  unfold State.pic
  split
  · exact .refl s
  · exact .of_core rfl

theorem evolves_takeIntr (s : State) : Evolves s s.takeIntr.2 := by
  have ask := evolves_pic s
  unfold State.takeIntr
  split <;> rename_i e <;> rw [e] at ask <;> refine ask.trans ?_
  · exact Evolves.trans (by exact .of_core rfl) (evolves_deliverHardware _ _)
  · exact .of_core rfl
  · exact .refl _

theorem evolves_takeTrap (s : State) : Evolves s s.takeTrap :=
  .trans (t := { s with intFlags := { s.intFlags with trap := false } }) (.of_core rfl) (evolves_takeException _ _ _)

theorem evolves_dmaWrites (ws : List Host.Cell) (s : State) : Evolves s (State.dmaWrites ws s) := by
  induction ws generalizing s with
  | nil => exact .refl s
  | cons w ws ih => exact (evolves_busWrite8 s w.1 w.2).trans (ih _)

theorem evolves_dma (s : State) : Evolves s s.dma.2 := by
  unfold State.dma
  split
  · exact .refl s
  · exact Evolves.trans (by exact .of_core rfl) (evolves_dmaWrites _ _)

theorem evolves_tickDma (s : State) : Evolves s s.tickDma := by
  unfold State.tickDma
  split
  · exact evolves_dma s
  · exact (evolves_dma s).trans (.of_core rfl)

theorem evolves_checkIntr (s : State) : Evolves s s.checkIntr.2 := by
  unfold State.checkIntr
  split
  · exact evolves_takeTrap s
  split
  · exact evolves_takeIntr s
  split
  · exact evolves_takeTrap s
  split
  · exact evolves_tickDma s
  · exact .refl s

theorem evolves_checkEvents (s : State) : Evolves s s.checkEvents.2 := by
  unfold State.checkEvents
  split
  · split
    · exact (evolves_checkIntr s).trans (evolves_endRepeat _)
    · exact evolves_checkIntr s
  · exact .refl s

/-! ## A step from its parts (60 R900) -/

section
variable {P : State → Prop} (evolve : ∀ s t, Evolves s t → P s → P t)
  (run : ∀ i s t, P s → exec i s = .next t → P t)
include evolve run

theorem fetchExec_keep (n : Nat) (hs : P s) (h : State.fetchExec n s = .next t) : P t := by
  induction n generalizing s with
  | zero => cases h
  | succ n ih =>
    unfold State.fetchExec at h
    split at h <;> rename_i e
    · cases h
    · cases h
      exact evolve _ _ (evolves_deliverRaise (evolves_fetchRaise e)) hs
    · have fetched := evolve _ _ (evolves_fetchInstr e) hs
      split at h
      · split at h
        case h_1 prefixed => exact ih (run _ _ _ fetched prefixed) h
        all_goals cases h
      · exact run _ _ _ fetched h

theorem dispatch_keep (hs : P s) (h : s.dispatch = .next t) : P t := by
  unfold State.dispatch at h
  split at h <;> rename_i e
  · exact run _ _ _ (evolve _ _ (evolves_resume e) hs) h
  · exact fetchExec_keep evolve run _ (evolve s { s with scratch := .atBoundary s.ip } (.of_core rfl) hs) h

theorem afterEvents_keep (taken : Bool) (hs : P s) (h : State.afterEvents taken s = .next t) : P t := by
  unfold State.afterEvents at h
  split at h
  · cases h; exact hs
  split at h
  · cases h; exact evolve s _ (.of_core rfl) hs
  split at h
  · cases h; exact evolve s _ (.of_core rfl) hs
  · exact dispatch_keep evolve run (evolve s { s with nointr := false } (.of_core rfl) hs) h

theorem boundary_keep (notify : ∀ s, P s → P s.returnNotify) (hs : P s) (h : s.boundary = .next t) : P t := by
  unfold State.boundary at h
  dsimp only at h
  have notified := notify s hs
  split at h
  · cases h; exact notified
  · have scratch : Evolves s.returnNotify s.returnNotify.boundaryScratch := .of_core rfl
    exact afterEvents_keep evolve run _ (evolve _ _ (scratch.trans (evolves_checkEvents _)) notified) h

/-- What every change the machine makes, every instruction and every callback keep, a step keeps. -/
theorem step_keep (notify : ∀ s, P s → P s.returnNotify) (hs : P s) (h : step s = .next t) : P t := by
  unfold step at h
  split at h
  · cases h
  · cases h
  · exact running_keep (fun t => evolve t t.settled (.of_core rfl)) (fun _ _ => dispatch_keep evolve run)
      (fun _ _ => boundary_keep evolve run notify) hs h

end

end Sys2Proof.Machine
end

section
namespace Sys2Proof.Machine

variable {s t : State}

/-! ## The invariants, bit by bit -/

theorem and_eq_right_iff_getLsbD {w m : Word} :
    w &&& m = m ↔ ∀ k, m.getLsbD k = true → w.getLsbD k = true := by
  constructor
  · intro h k hk
    rw [← h, BitVec.getLsbD_and, Bool.and_eq_true] at hk
    exact hk.1
  · intro h
    refine BitVec.eq_of_getLsbD_eq fun k _ => ?_
    rw [BitVec.getLsbD_and]
    cases c : m.getLsbD k
    · exact Bool.and_false _
    · rw [h k c]; rfl

theorem and_eq_zero_iff_getLsbD {w m : Word} :
    w &&& m = 0 ↔ ∀ k, w.getLsbD k = true → m.getLsbD k = false := by
  constructor
  · intro h k hk
    have e := congrArg (BitVec.getLsbD · k) h
    simpa [hk] using e
  · intro h
    refine BitVec.eq_of_getLsbD_eq fun k _ => ?_
    rw [BitVec.getLsbD_and]
    cases c : w.getLsbD k
    · simp
    · simp [h k c]

theorem and_not_eq_zero_iff_getLsbD {w m : Word} :
    w &&& ~~~m = 0 ↔ ∀ k, w.getLsbD k = true → m.getLsbD k = true := by
  rw [and_eq_zero_iff_getLsbD]
  refine forall_congr' fun k => imp_congr_right fun hk => ?_
  simp [BitVec.lt_of_getLsbD hk]

/-- Bits 15:4 of MSW. -/
theorem four_le_of_mswBit {k : Nat} (h : (0xFFF0 : Word).getLsbD k = true) : 4 ≤ k := by
  by_contra c
  have : k = 0 ∨ k = 1 ∨ k = 2 ∨ k = 3 := by omega
  rcases this with rfl | rfl | rfl | rfl <;> exact absurd h (by decide)

/-- IOPL and NT. -/
theorem levelBit_of_lt {k : Nat} (h : k < 12) : (0x7000 : Word).getLsbD k = false := by
  revert k
  decide

/-! ## What the machine does keeps them -/

theorem Evolves.inv (e : Evolves s t) (h : s.Inv) : t.Inv := by
  have queues := e.queues ⟨h.queue, h.ahead⟩
  refine ⟨e.memory h.memory, ?_, ?_, queues.1, queues.2⟩
  · have msw := and_eq_right_iff_getLsbD.mp h.msw
    exact and_eq_right_iff_getLsbD.mpr fun k hk => e.msw k (.inr (four_le_of_mswBit hk)) (msw k hk)
  · have live := and_not_eq_zero_iff_getLsbD.mp h.live
    have cls : t.cls = s.cls := by rw [State.cls, e.cfg, State.cls]
    refine and_not_eq_zero_iff_getLsbD.mpr fun k hk => ?_
    rw [cls]
    exact (e.live k hk).elim (live k) And.left

theorem Evolves.modeInv (e : Evolves s t) (h : s.ModeInv) : t.ModeInv := by
  have real (p : t.protectedMode = false) : s.protectedMode = false := by
    cases c : s.protectedMode
    · rfl
    · exact (e.protected c).symm.trans p
  refine ⟨⟨e.notify.trans h.quiet.notify, fun a ha => h.quiet.intr a (e.intercepts ha)⟩, fun p => ?_, fun p => ?_,
    fun r hr => ?_, e.stack h.stack, fun r => e.accessed r (h.accessed r)⟩
  · rcases e.cpl with same | q
    · exact same.trans (h.cpl (real p))
    · exact absurd (q.symm.trans p) nofun
  · have direct := and_eq_zero_iff_getLsbD.mp (h.direct (real p))
    refine and_eq_zero_iff_getLsbD.mpr fun k hk => ?_
    rcases e.live k hk with old | ⟨-, high⟩
    · exact direct k old
    · exact levelBit_of_lt (Nat.lt_of_not_le fun le => absurd ((high le).symm.trans p) nofun)
  · rcases e.nulled r hr with old | new
    · exact (h.null r old).imp_left e.protected
    · exact new

/-! ## What host code does keeps memory, MSW, the direct bits and the queue in order -/

theorem core_updateIntrs (bs : List Bool) (s : State) : (State.updateIntrs bs s).core = s.core := by
  induction bs generalizing s with
  | nil => rfl
  | cons b bs ih => exact ih (s.updateIntr b)

theorem evolves_updateAllTimers (s : State) : Evolves s s.updateAllTimers := by
  unfold State.updateAllTimers
  split
  · exact .of_core rfl
  · exact .of_core (core_updateIntrs _ _)

theorem inv_resetCpu (h : s.Inv) : s.resetCpu.Inv where
  memory := h.memory
  msw := by simp [State.resetCpu, resetSys]
  live := by simp [State.resetCpu]
  queue := Prefetch.ok_emptyAt _ _
  ahead := (State.queuesOk.of_none (s := s.resetCpu) rfl (Prefetch.ok_emptyAt _ _)).2

theorem inv_setRepeat (h : s.Inv) (p : Option RepeatPending) : (s.setRepeat p).Inv where
  memory := h.memory
  msw := h.msw
  live := h.live
  queue := h.queue
  ahead q hq := by
    obtain ⟨r, -, rfl⟩ := Option.map_eq_some_iff.mp hq
    exact Prefetch.ok_emptyAt _ _

theorem inv_setMsw (h : s.Inv) (v : Word) : ({ s with sys := { s.sys with msw := v ||| 0xFFF0 } } : State).Inv where
  memory := h.memory
  msw := and_eq_right_iff_getLsbD.mpr fun k hk => by rw [BitVec.getLsbD_or, hk, Bool.or_true]
  live := h.live
  queue := h.queue
  ahead := h.ahead

theorem applyCall_inv (h : s.Inv) (c : HostCall) : (s.applyCall c).Inv := by
  cases c
  case setA20 on => exact (evolves_flushQueue { s with a20 := on }).inv ⟨h.memory, h.msw, h.live, h.queue, h.ahead⟩
  case enterStepCpu n =>
    exact (evolves_updateAllTimers _).inv ⟨h.memory, h.msw, h.live, h.queue, h.ahead⟩
  case reset => exact inv_resetCpu h
  case writeByte a v => exact (evolves_busWrite8 s _ v).inv h
  case setByte a v => exact ⟨Memory.wf_write a v h.memory, h.msw, h.live, h.queue, h.ahead⟩
  case setIp v => exact (evolves_jump s v).inv h
  case setPs v => exact (evolves_setPS s v _).inv h
  case setRepeat p => exact inv_setRepeat h p
  case flushQueue => exact (evolves_flushQueue s).inv h
  case setSeg r c => exact (evolves_flushQueue (s.setSeg r c)).inv ⟨h.memory, h.msw, h.live, h.queue, h.ahead⟩
  case setMsw v => exact inv_setMsw h v
  all_goals exact ⟨h.memory, h.msw, h.live, h.queue, h.ahead⟩

theorem applyCalls_inv (h : s.Inv) (cs : List HostCall) : (State.applyCalls cs s).Inv := by
  induction cs generalizing s with
  | nil => exact h
  | cons c cs ih => exact ih (applyCall_inv h c)

theorem returnNotify_inv (h : s.Inv) : s.returnNotify.Inv := by
  unfold State.returnNotify
  split
  · exact h
  · unfold State.runCallback
    split
    · exact ⟨h.memory, h.msw, h.live, h.queue, h.ahead⟩
    · refine applyCalls_inv ?_ _
      exact ⟨h.memory, h.msw, h.live, h.queue, h.ahead⟩

theorem exec_inv {i : Instr} (h : s.Inv) (e : exec i s = .next t) : t.Inv := by
  rcases exec_effect e with e | ⟨m, u, r, -, -, before, after⟩ | ⟨m, u, r, -, -, before, after⟩ |
    ⟨n, calls, u, answer, rfl⟩
  · exact e.inv h
  · have k := before.inv h
    exact after.inv ⟨k.memory, k.msw, k.live, k.queue, k.ahead⟩
  · have k := before.inv h
    exact after.inv ⟨k.memory, k.msw, k.live, k.queue, k.ahead⟩
  · have asked := evolves_intercept s n
    rw [answer] at asked
    exact (evolves_latchTrap s _).inv (applyCalls_inv (asked.inv h) calls)

/-- Settles O3: the machine, every instruction and host code keep `State.Inv`, and a step is made of these. -/
theorem stepKeepsInv : Obligations.StepKeepsInv := fun _ _ =>
  step_keep (P := State.Inv) (fun _ _ => Evolves.inv) (fun _ _ _ => exec_inv) (fun _ => returnNotify_inv)

/-! ## With host code idle, the modes are kept -/

theorem exec_modeInv {i : Instr} (h : s.ModeInv) (e : exec i s = .next t) : t.ModeInv := by
  rcases exec_effect e with e | ⟨m, u, r, -, -, before, after⟩ | ⟨m, u, r, -, -, before, after⟩ |
    ⟨n, calls, u, answer, -⟩
  · exact e.modeInv h
  · have k := before.modeInv h
    exact after.modeInv ⟨⟨k.quiet.notify, k.quiet.intr⟩, k.cpl, k.direct, k.null, k.stack, k.accessed⟩
  · have k := before.modeInv h
    exact after.modeInv ⟨⟨k.quiet.notify, k.quiet.intr⟩, k.cpl, k.direct, k.null, k.stack, k.accessed⟩
  · exact absurd answer h.quiet.not_suppress

theorem State.quiet.returnNotify_eq (h : s.quiet) : s.returnNotify = s := by
  simp [State.returnNotify, h.notify]

/-- Settles O4: the machine and every instruction keep `State.ModeInv`, and an empty registry runs no callback. -/
theorem stepKeepsModes : Obligations.StepKeepsModes := fun _ _ =>
  step_keep (P := State.ModeInv) (fun _ _ => Evolves.modeInv) (fun _ _ _ => exec_modeInv)
    (fun _ h => by rwa [h.quiet.returnNotify_eq])

end Sys2Proof.Machine
end

section
namespace Sys2Proof.Machine

/-! ## The byte registers (10 R22) -/

theorem reg_eq_halves (s : State) : s.reg .ax = s.reg8 .ah ++ s.reg8 .al ∧ s.reg .cx = s.reg8 .ch ++ s.reg8 .cl ∧
    s.reg .dx = s.reg8 .dh ++ s.reg8 .dl ∧ s.reg .bx = s.reg8 .bh ++ s.reg8 .bl :=
  ⟨(mkWord_lo_hi _).symm, (mkWord_lo_hi _).symm, (mkWord_lo_hi _).symm, (mkWord_lo_hi _).symm⟩

theorem reg8_setReg8 (s : State) (r q : Reg8) (v : Byte) :
    (s.setReg8 r v).reg8 q = if q = r then v else s.reg8 q := by
  split
  · subst q; exact reg8_setReg8_same s r v
  · exact reg8_setReg8_ne s ‹_› v

/-- The four registers without byte halves. -/
theorem reg_setReg8_pointer (s : State) (r : Reg8) (v : Byte) {q : Reg16}
    (h : q = .sp ∨ q = .bp ∨ q = .si ∨ q = .di) : (s.setReg8 r v).reg q = s.reg q := by
  rcases h with rfl | rfl | rfl | rfl <;> cases r <;> rfl

/-! ## The status word (10 R27, R36 to R40) -/

theorem encode_flags (f : Flags) (z : ResultSize) : (FlagTriple.encode f z).flags = f := by
  obtain ⟨cf, pf, af, zf, sf, of⟩ := f
  revert cf pf af zf sf of
  cases z <;> decide +kernel

theorem ofWord_toWord (f : Flags) : Flags.ofWord f.toWord = f := by
  obtain ⟨cf, pf, af, zf, sf, of⟩ := f
  revert cf pf af zf sf of
  decide +kernel

/-- The arithmetic flags are the bits of 0x08D5. -/
theorem toWord_ofWord (v : Word) : (Flags.ofWord v).toWord = v &&& 0x08D5 := by
  have bits : (Flags.ofWord v).toWord = (v &&& .twoPow 16 0) ||| (v &&& .twoPow 16 2) ||| (v &&& .twoPow 16 4) |||
      (v &&& .twoPow 16 6) ||| (v &&& .twoPow 16 7) ||| (v &&& .twoPow 16 11) := by
    simp only [BitVec.and_twoPow]
    rfl
  rw [bits]
  simp only [← BitVec.and_or_distrib_left]
  rfl

theorem fixedBits_eq (c : Config) :
    fixedBits c = if c.cpuClass ≠ .c286 ∧ c.psHigh = .ones then 0xF002 else 0x0002 := by
  unfold fixedBits
  split <;> simp_all

/-- No direct and no fixed bit is an arithmetic flag's. -/
theorem directMask_and_arith (c : CpuClass) : directMask c &&& 0x08D5 = 0 := by cases c <;> rfl

theorem fixedBits_and_arith (c : Config) : fixedBits c &&& 0x08D5 = 0 := by
  rw [fixedBits_eq]
  split <;> rfl

theorem toWord_and_arith (f : Flags) : f.toWord &&& 0x08D5 = f.toWord := by
  rw [← toWord_ofWord, ofWord_toWord]

theorem getPS_and_arith (s : State) : s.getPS &&& 0x08D5 = s.flags.toWord := by
  rw [State.getPS, BitVec.and_or_distrib_right, BitVec.and_or_distrib_right, BitVec.and_assoc, directMask_and_arith,
    fixedBits_and_arith, toWord_and_arith]
  simp

theorem ofWord_getPS (s : State) : Flags.ofWord s.getPS = s.flags := by
  rw [← ofWord_toWord (.ofWord s.getPS), toWord_ofWord, getPS_and_arith, ofWord_toWord]

/-- A bit of PS that no arithmetic flag has. -/
theorem getPS_getLsbD (s : State) {k : Nat} (h : (0x08D5 : Word).getLsbD k = false) :
    s.getPS.getLsbD k = ((s.live.getLsbD k && (directMask s.cls).getLsbD k) || (fixedBits s.cfg).getLsbD k) := by
  have arith : s.flags.toWord.getLsbD k = false := by
    rw [← toWord_and_arith, BitVec.getLsbD_and, h, Bool.and_false]
  simp [State.getPS, BitVec.getLsbD_or, arith]

theorem fixedBits_low (c : Config) {k : Nat} (h : k < 12) : (fixedBits c).getLsbD k = decide (k = 1) := by
  rw [fixedBits_eq]
  revert k
  split <;> decide

theorem directMask_bits (c : CpuClass) : ∀ k < 12, (directMask c).getLsbD k = decide (8 ≤ k ∧ k ≤ 10) := by
  cases c <;> decide

/-- PS below bit 12: bit 1 is set, bits 3 and 5 are clear, and TF, IF and DF stand at their places. -/
theorem getPS_low (s : State) : s.getPS.getLsbD 1 = true ∧ s.getPS.getLsbD 3 = false ∧ s.getPS.getLsbD 5 = false ∧
    s.getPS.getLsbD 8 = s.tf ∧ s.getPS.getLsbD 9 = s.ifl ∧ s.getPS.getLsbD 10 = s.df := by
  have bit {k : Nat} (h : (0x08D5 : Word).getLsbD k = false) (low : k < 12) :
      s.getPS.getLsbD k = ((s.live.getLsbD k && decide (8 ≤ k ∧ k ≤ 10)) || decide (k = 1)) := by
    rw [getPS_getLsbD s h, directMask_bits _ _ low, fixedBits_low _ low]
  refine ⟨?_, ?_, ?_, ?_, ?_, ?_⟩ <;> rw [bit (by decide) (by decide)] <;>
    simp [State.tf, State.ifl, State.df, tfBit, ifBit, dfBit]

theorem directMask_high (c : CpuClass) : ∀ k < 16, 12 ≤ k →
    (directMask c).getLsbD k = (decide (c = .c286) && decide (k < 15)) := by
  cases c <;> decide

theorem fixedBits_high (c : Config) {k : Nat} (h : 12 ≤ k) (lt : k < 16) :
    (fixedBits c).getLsbD k = decide (c.cpuClass ≠ .c286 ∧ c.psHigh = .ones) := by
  have bits : ∀ k < 16, 12 ≤ k → (0xF002 : Word).getLsbD k = true ∧ (0x0002 : Word).getLsbD k = false := by decide
  rw [fixedBits_eq]
  split <;> rename_i e
  · rw [(bits k lt h).1, decide_eq_true e]
  · rw [(bits k lt h).2, decide_eq_false e]

/-- PS from bit 12 up: IOPL, NT and a clear bit on C286, four fixed bits on C86 and C186. -/
theorem getPS_high (s : State) {k : Nat} (h : 12 ≤ k) (lt : k < 16) :
    s.getPS.getLsbD k =
      if s.cls = .c286 then s.live.getLsbD k && decide (k < 15) else decide (s.cfg.psHigh = .ones) := by
  have arith : (0x08D5 : Word).getLsbD k = false := by
    have : ∀ k < 16, 12 ≤ k → (0x08D5 : Word).getLsbD k = false := by decide
    exact this k lt h
  rw [getPS_getLsbD s arith, directMask_high _ k lt h, fixedBits_high _ h lt]
  split <;> simp_all [State.cls]

theorem getPS_level (s : State) (h : s.cls = .c286) :
    s.getPS.extractLsb' 12 2 = s.iopl ∧ s.getPS.getLsbD 14 = s.nt ∧ s.getPS.getLsbD 15 = false := by
  refine ⟨BitVec.eq_of_getLsbD_eq fun k hk => ?_, ?_, ?_⟩
  · have low : 12 + k < 15 := by omega
    simp only [State.iopl, BitVec.getLsbD_extractLsb', getPS_high s (Nat.le_add_right 12 k) (by omega), h, low,
      if_true, decide_true, Bool.and_true]
  · rw [getPS_high s (by decide) (by decide), if_pos h]
    exact Bool.and_true _
  · rw [getPS_high s (by decide) (by decide), if_pos h]
    exact Bool.and_false _

theorem getPS_ones (s : State) (h : s.cls ≠ .c286) :
    s.getPS.extractLsb' 12 4 = if s.cfg.psHigh = .ones then 0xF else 0 := by
  refine BitVec.eq_of_getLsbD_eq fun k hk => ?_
  simp only [BitVec.getLsbD_extractLsb', hk, getPS_high s (Nat.le_add_right 12 k) (by omega), h, if_false,
    decide_true, Bool.true_and]
  revert k
  split <;> rename_i e <;> simp only [e] <;> decide

/-! ## Writing the status word (10 R39) -/

theorem setPS_flags (s : State) (v m : Word) : (s.setPS v m).flags = .ofWord v := encode_flags _ _

/-- The bits of PS that the live word keeps. -/
def isDirectBit (c : CpuClass) (k : Nat) : Prop :=
  k = 8 ∨ k = 9 ∨ k = 10 ∨ (c = .c286 ∧ (k = 12 ∨ k = 13 ∨ k = 14))

theorem psWritable_getLsbD (s : State) {k : Nat} (h : isDirectBit s.cls k) :
    s.psWritable.getLsbD k = (decide (k ≤ 10) || s.protectedMode) := by
  unfold State.psWritable
  split <;> rename_i e <;> simp only [Bool.and_eq_true, beq_iff_eq, Bool.not_eq_true'] at e
  · obtain ⟨-, real⟩ := e
    rcases h with rfl | rfl | rfl | ⟨-, rfl | rfl | rfl⟩ <;> rw [real] <;> rfl
  · rcases h with rfl | rfl | rfl | ⟨c, rfl | rfl | rfl⟩ <;> simp_all

theorem directMask_getLsbD {c : CpuClass} {k : Nat} (h : isDirectBit c k) : (directMask c).getLsbD k = true := by
  rcases h with h | h | h | ⟨rfl, h⟩
  · exact directMask_low c (.inl h)
  · exact directMask_low c (.inr (.inl h))
  · exact directMask_low c (.inr (.inr h))
  · rcases h with rfl | rfl | rfl <;> rfl

theorem setPS_live (s : State) (v m : Word) {k : Nat} (h : isDirectBit s.cls k) :
    (s.setPS v m).live.getLsbD k =
      if m.getLsbD k then v.getLsbD k && (decide (k ≤ 10) || s.protectedMode) else s.live.getLsbD k := by
  have lt : k < 16 := by rcases h with rfl | rfl | rfl | ⟨-, rfl | rfl | rfl⟩ <;> decide
  simp only [State.setPS, BitVec.getLsbD_or, BitVec.getLsbD_and, BitVec.getLsbD_not, directMask_getLsbD h,
    psWritable_getLsbD s h, lt]
  cases m.getLsbD k <;> simp

theorem and_eq_self_of_and_not_eq_zero {v m : Word} (h : v &&& ~~~m = 0) : v &&& m = v :=
  (BitVec.and_comm v m).trans (and_eq_right_iff_getLsbD.mpr (and_not_eq_zero_iff_getLsbD.mp h))

/-- A PS without IOPL and NT in real mode is written whole. -/
theorem and_psWritable {s : State} {v : Word} (h : s.cls = .c286 → s.protectedMode = false → v &&& 0x7000 = 0) :
    v &&& s.psWritable = v := by
  unfold State.psWritable
  split <;> rename_i e
  · simp only [Bool.and_eq_true, beq_iff_eq, Bool.not_eq_true'] at e
    exact and_eq_self_of_and_not_eq_zero (h e.1 e.2)
  · exact BitVec.and_allOnes

theorem setPS_live_and_directMask {s : State} {v : Word}
    (h : s.cls = .c286 → s.protectedMode = false → v &&& 0x7000 = 0) :
    (s.setPS v 0xFFFF).live &&& directMask s.cls = v &&& directMask s.cls := by
  have all : directMask s.cls &&& 0xFFFF = directMask s.cls := BitVec.and_allOnes
  simp only [State.setPS, all, and_psWritable h]
  refine BitVec.eq_of_getLsbD_eq fun k hk => ?_
  simp only [BitVec.getLsbD_and, BitVec.getLsbD_or, BitVec.getLsbD_not, hk]
  cases (directMask s.cls).getLsbD k <;> simp

theorem getPS_setPS (s : State) (v : Word) (bits : v &&& ~~~(0x08D5 ||| directMask s.cls) = 0)
    (real : s.cls = .c286 → s.protectedMode = false → v &&& 0x7000 = 0) :
    (s.setPS v 0xFFFF).getPS = v ||| (if s.cls ≠ .c286 ∧ s.cfg.psHigh = .ones then 0xF002 else 0x0002) := by
  have shown : v &&& directMask s.cls ||| v &&& 0x08D5 = v := by
    rw [← BitVec.and_or_distrib_left, BitVec.or_comm, and_eq_self_of_and_not_eq_zero bits]
  calc (s.setPS v 0xFFFF).getPS
    _ = ((s.setPS v 0xFFFF).live &&& directMask s.cls) ||| (s.setPS v 0xFFFF).flags.toWord ||| fixedBits s.cfg := rfl
    _ = v ||| fixedBits s.cfg := by rw [setPS_live_and_directMask real, setPS_flags, toWord_ofWord, shown]
    _ = _ := by rw [fixedBits_eq]; rfl

/-- Settles O9, byte registers and status word each by their own lemmas. -/
theorem registersAndStatus : Obligations.RegistersAndStatus := by
  refine ⟨⟨reg_eq_halves, reg8_setReg8, fun s r v q => reg_setReg8_pointer s r v, rfl⟩, encode_flags, fun s => ?_,
    fun s v m k => ⟨setPS_flags s v m, setPS_live s v m⟩, getPS_setPS⟩
  obtain ⟨b1, b3, b5, tf, ifl, df⟩ := getPS_low s
  exact ⟨ofWord_getPS s, b1, b3, b5, tf, ifl, df, getPS_level s, getPS_ones s⟩

end Sys2Proof.Machine
end

section
/-! Memory and its checks: bytes of each kind of block, words that are written and read back, and where they lie
(20_memory.md R101 to R134). -/

namespace Sys2Proof.Machine

variable {s t : State}

/-! ## Bytes (20 R101, R104) -/

theorem busRead8_plain {p : Nat} (h : s.kindAt p = .ram ∨ s.kindAt p = .rom) :
    s.busRead8 p = (Memory.read s.mem p, s) := by
  rcases h with h | h <;> rw [State.busRead8, h]

theorem busRead8_unmapped {p : Nat} (h : s.kindAt p = .unmapped) : s.busRead8 p = (0, s) := by
  rw [State.busRead8, h]

theorem busWrite8_ignored {p : Nat} (h : s.kindAt p = .rom ∨ s.kindAt p = .unmapped) (v : Byte) :
    s.busWrite8 p v = s := by
  rcases h with h | h <;> rw [State.busWrite8, h]

theorem busRead8_device_calls {p d : Nat} (h : s.kindAt p = .device d) :
    (s.busRead8 p).2.host.calls = .deviceRead p 1 :: s.host.calls := by
  rw [State.busRead8, h]
  rfl

theorem busWrite8_device {p d : Nat} (h : s.kindAt p = .device d) (v : Byte) :
    s.busWrite8 p v = s.note (.deviceWrite p 1 (zext16 v)) := by
  rw [State.busWrite8, h]

/-! ## Words (20 R105, R106, R116, R117) -/

/-- Two byte reads of `ram`. -/
theorem busReadBytes_ram {p q : Nat} (hp : s.kindAt p = .ram) (hq : s.kindAt q = .ram) :
    s.busReadBytes p q = (mkWord (Memory.read s.mem p) (Memory.read s.mem q), s) := by
  simp only [State.busReadBytes, busRead8_plain (.inl hp), busRead8_plain (.inl hq)]

/-- A word whose bytes lie in `ram` is those bytes, and reading it changes nothing. -/
theorem segGet16_ram {r : SegReg} {off : Word} (lo : s.kindAt (s.wordAddrs r off).1 = .ram)
    (hi : s.kindAt (s.wordAddrs r off).2 = .ram) :
    s.segGet16 r off =
      (mkWord (Memory.read s.mem (s.wordAddrs r off).1) (Memory.read s.mem (s.wordAddrs r off).2), s) := by
  unfold State.wordAddrs at *
  unfold State.segGet16 State.busRead16
  dsimp only at *
  split
  · rename_i wraps
    rw [if_pos wraps] at hi
    exact busReadBytes_ram lo hi
  · rename_i within
    rw [if_neg within] at hi
    split
    · rename_i last
      rw [if_pos last] at hi
      exact busReadBytes_ram lo hi
    · rename_i inner
      rw [lo]

theorem segRead16_of_access {r : SegReg} {off : Word} (h : s.accessFault r off 1 false = none) :
    s.segRead16 r off = .ok (s.segGet16 r off) := by
  rw [State.segRead16, checkAccess_eq_ok (u := ()).mpr h]
  rfl

theorem segWrite16_of_access {r : SegReg} {off : Word} (h : s.accessFault r off 1 true = none) (v : Word) :
    s.segWrite16 r off v = .ok (s.segPut16 r off v) := by
  rw [State.segWrite16, checkAccess_eq_ok (u := ()).mpr h]
  rfl

/-- Settles O10: bytes by the kind of their block, and a word of `ram` by what its store holds and leaves. -/
theorem memoryAccesses : Obligations.MemoryAccesses := by
  refine ⟨fun s p q v => ⟨busRead8_plain, fun h => ⟨busRead8_unmapped h, busWrite8_ignored (.inr h) v⟩,
    fun h => busWrite8_ignored (.inl h) v, fun h => read_busWrite8_ram h v q, fun d h => ?_, wf_busWrite8 p v⟩,
    fun s r off v readable writable lo hi => ?_⟩
  · rw [busWrite8_device h]
    exact ⟨State.busRead8_mem s p, rfl, busRead8_device_calls h, rfl⟩
  · obtain ⟨touches, holdsLo, holdsHi⟩ := segPut16_spec s r off v
    have low := holdsLo lo
    have high := holdsHi hi
    refine ⟨⟨_, segWrite16_of_access writable v, ?_, low, high, touches.memory⟩, ?_⟩
    · rw [segRead16_of_access (by rw [touches.accessFault]; exact readable),
        segGet16_ram (by rw [touches.wordAddrs, touches.kindAt]; exact lo)
          (by rw [touches.wordAddrs, touches.kindAt]; exact hi), touches.wordAddrs, low, high, mkWord_lo_hi]
    · rw [segRead16_of_access readable, segGet16_ram lo hi]

/-! ## Addresses (20 R102, R103, R113, R117) -/

theorem phys_toNat (s : State) (l : BitVec 32) : s.phys l = l.toNat &&& s.addrMask.toNat := BitVec.toNat_and _ _

theorem segAddr_eq (s : State) (r : SegReg) (off : Word) :
    s.segAddr r off = ((s.seg r).base.toNat + off.toNat) &&& s.addrMask.toNat := by
  rw [State.segAddr, phys_toNat, linear_toNat]

theorem addrMask_eq (s : State) :
    s.addrMask =
      (if s.cls = .c286 then
        if s.a20 then 0xFFFFFF else if s.cfg.a20OffMask = .low20 then 0x0FFFFF else 0xEFFFFF
      else if s.a20 then 0x1FFFFF else 0x0FFFFF) := by
  unfold State.addrMask
  cases s.cls <;> cases s.a20 <;> cases s.cfg.a20OffMask <;> rfl

/-- But for 0xEFFFFF the mask keeps the low bits of an address, 20 at least. -/
theorem addrMask_keeps_low {s : State} (h : s.addrMask ≠ 0xEFFFFF) :
    ∃ n, 20 ≤ n ∧ n ≤ 24 ∧ s.addrMask.toNat = 2 ^ n - 1 := by
  rw [addrMask_eq] at h ⊢
  split
  · split
    · exact ⟨24, by decide, by decide, rfl⟩
    · split
      · exact ⟨20, by decide, by decide, rfl⟩
      · simp_all
  · split
    · exact ⟨21, by decide, by decide, rfl⟩
    · exact ⟨20, by decide, by decide, rfl⟩

/-- The last of `2 ^ n` numbers is the last of a run of `2 ^ b` of them. -/
theorem last_mod {x b n : Nat} (le : b ≤ n) (h : x + 1 = 2 ^ n) : x % 2 ^ b = 2 ^ b - 1 := by
  obtain ⟨c, e⟩ := Nat.pow_dvd_pow 2 le
  have pos := Nat.two_pow_pos b
  obtain ⟨k, rfl⟩ : ∃ k, c = k + 1 := ⟨c - 1, by have := Nat.two_pow_pos n; cases c <;> simp_all⟩
  rw [Nat.mul_add_one] at e
  rw [show x = 2 ^ b * k + (2 ^ b - 1) by omega, Nat.mul_add_mod, Nat.mod_eq_of_lt (by omega)]

/-- Off the end of the 64 KiB, the second byte of a word is the next offset's, with every mask but 0xEFFFFF (20 R105,
R116). -/
theorem wordAddrs_succ {s : State} {r : SegReg} {off : Word} (inner : off ≠ 0xFFFF) (mask : s.addrMask ≠ 0xEFFFFF)
    (shift : s.cfg.blockShift ≤ 20) : (s.wordAddrs r off).2 = s.segAddr r (off + 1) := by
  obtain ⟨n, lower, upper, low⟩ := addrMask_keeps_low mask
  have below : off.toNat < 0xFFFF := by bv_omega
  have succ : (off + 1).toNat = off.toNat + 1 := by bv_omega
  have here : s.segAddr r off = ((s.seg r).base.toNat + off.toNat) % 2 ^ n := by
    rw [segAddr_eq, low, Nat.and_two_pow_sub_one_eq_mod]
  have there : s.segAddr r (off + 1) = (s.segAddr r off + 1) % 2 ^ n := by
    rw [segAddr_eq, succ, low, Nat.and_two_pow_sub_one_eq_mod, here, Nat.mod_add_mod, Nat.add_assoc]
  have lt : s.segAddr r off < 2 ^ n := here ▸ Nat.mod_lt _ (Nat.two_pow_pos n)
  unfold State.wordAddrs
  rw [if_neg inner, there]
  split
  · have small : s.segAddr r off + 1 < 2 ^ 32 := by
      have := Nat.pow_le_pow_right (n := 2) (by decide) upper
      omega
    rw [State.physNext, phys_toNat, low, Nat.and_two_pow_sub_one_eq_mod, BitVec.toNat_ofNat, Nat.mod_eq_of_lt small]
  · rename_i notLast
    refine (Nat.mod_eq_of_lt (Nat.lt_of_le_of_ne lt fun last => notLast ?_)).symm
    simpa [State.lastOfBlock] using last_mod (shift.trans lower) last

/-- The second byte of a word at offset 0xFFFF (20 R117). -/
theorem wordAddrs_wrap (s : State) (r : SegReg) : (s.wordAddrs r 0xFFFF).2 = s.wrapAddr r := rfl

theorem wrapAddr_c86 {s : State} (h : s.cls = .c86) (r : SegReg) : s.wrapAddr r = s.segAddr r 0 := by
  rw [State.wrapAddr, h]

theorem wrapAddr_later {s : State} (h : s.cls ≠ .c86) (r : SegReg) :
    s.wrapAddr r = ((s.seg r).base.toNat + 0x10000) &&& s.addrMask.toNat := by
  have past : ((s.seg r).base.setWidth 32 + 0x10000 : BitVec 32).toNat = (s.seg r).base.toNat + 0x10000 := by
    have := (s.seg r).base.isLt
    bv_omega
  rw [← past, ← phys_toNat]
  unfold State.wrapAddr
  split
  · exact absurd ‹_› h
  · rfl
  · rfl

/-! ## The check of a segment access (20 R130 to R134) -/

theorem protectedMode_iff : s.protectedMode = true ↔ s.cls = .c286 ∧ s.sys.msw.getLsbD 0 = true := by
  rw [State.protectedMode, Bool.and_eq_true, beq_iff_eq]

theorem protectedMode_eq_msw (h : s.cls = .c286) : s.protectedMode = s.sys.msw.getLsbD 0 := by
  rw [State.protectedMode, h]
  rfl

theorem segFault_eq (r : SegReg) : segFault r = if r = .ss then .ss 0 else .gp 0 := by cases r <;> rfl

theorem accessFault_unchecked {s : State} (h : s.cls ≠ .c286) (r : SegReg) (off : Word) (extra : Nat) (w : Bool) :
    s.accessFault r off extra w = none := by
  unfold State.accessFault
  split
  · rfl
  · rfl
  · exact absurd ‹_› h

theorem accessFault_real {s : State} (h : s.cls = .c286) (pe : s.protectedMode = false) (r : SegReg) (off : Word)
    (extra : Nat) (w : Bool) :
    s.accessFault r off extra w = if 0xFFFF < off.toNat + extra then some (segFault r) else none := by
  simp only [State.accessFault, h, pe, Bool.false_eq_true, if_false]

theorem accessFault_protected {s : State} (pe : s.protectedMode = true) (r : SegReg) (off : Word) (extra : Nat)
    (w : Bool) :
    s.accessFault r off extra w =
      if (s.seg r).nullLoaded then some (.gp 0)
      else if (s.seg r).outside off extra then some (segFault r)
      else if (s.seg r).forbids w then some (.gp 0)
      else none := by
  have c := (protectedMode_iff.mp pe).1
  simp only [State.accessFault, c, pe, if_true]

theorem outside_iff (c : SegCache) (off : Word) (extra : Nat) :
    c.outside off extra = true ↔
      if c.access.getLsbD 2 = true ∧ c.access.getLsbD 3 = false then
        off.toNat ≤ c.limit.toNat ∨ 0xFFFF < off.toNat + extra
      else c.limit.toNat < off.toNat + extra := by
  simp only [SegCache.outside, accBit2, accExec, Bool.and_eq_true, Bool.not_eq_true']
  split <;> simp

theorem forbids_iff (c : SegCache) (w : Bool) :
    c.forbids w = true ↔
      (w = false ∧ c.access.getLsbD 3 = true ∧ c.access.getLsbD 1 = false) ∨
        (w = true ∧ (c.access.getLsbD 3 = true ∨ c.access.getLsbD 1 = false)) := by
  cases w <;> simp [SegCache.forbids, accExec, accBit1]

/-- Settles O11, from the mask as a power of two and from the cases of the access check. -/
theorem addressing : Obligations.Addressing := by
  refine ⟨fun s r off => ⟨segAddr_eq s r off, addrMask_eq s, rfl, fun inner wf mask => ?_, ?_, ?_⟩,
    fun s r off extra w outside e => ⟨fun h => accessFault_unchecked h r off extra w, fun h pe => ?_,
      fun h pe e ed wr limit he hed hwr hl => ?_⟩⟩
  · simp only [Config.wf, Bool.and_eq_true, decide_eq_true_eq] at wf
    exact wordAddrs_succ inner mask wf.2
  · rintro rfl c
    exact wrapAddr_c86 c r
  · rintro rfl c
    exact wrapAddr_later c r
  · rw [accessFault_real h ((protectedMode_eq_msw h).trans pe), segFault_eq, e]
  · rw [accessFault_protected ((protectedMode_eq_msw h).trans pe), segFault_eq, ‹outside = _›]
    subst he hed hwr hl
    simp only [outside_iff, forbids_iff, ite_or]

end Sys2Proof.Machine
end

section
/-! The memory accesses of an instruction in their order (20_memory.md R129, 60_exceptions.md R911): an operation
`Follows` a list of accesses when the first of them to fail its check decides how it ends. The rules build an
instruction's body from its operations, the list growing with them. -/

namespace Sys2Proof.Machine

variable {α β : Type} {s t u : State} {l l' : List MemAccess}

/-! ## The relation -/

/-- The operation raises what the first access of the list to fail its check raises. -/
def Meets (s : State) (l : List MemAccess) (x : Res α) : Prop := ∀ e, s.firstFault l = some e → Raises x e

/-- It does, and where that is the first access at all, nothing has been asked of the host or drawn before. -/
structure Follows (s : State) (l : List MemAccess) (x : Res α) : Prop where
  raises : Meets s l x
  atOnce : ∀ a e, l.head? = some a → s.faultOf a = some e →
    ∃ u, x = .error { exc := e, seen := u, committed := false } ∧ u.host = s.host ∧ u.draws = s.draws

/-- It does, and where every check passes it answers a value and a state that differs by what a read leaves. -/
structure Reads (s : State) (l : List MemAccess) (x : Res (α × State)) : Prop extends Follows s l x where
  completes : s.firstFault l = none → ∃ v t, x = .ok (v, t) ∧ Touches s t [] []

theorem Raises.bind {x : Res α} {e : Exc} (h : Raises x e) (f : α → Res β) : Raises (x >>= f) e := by
  obtain ⟨u, rfl⟩ := h
  exact ⟨u, rfl⟩

theorem Meets.nil (x : Res α) : Meets s [] x := nofun

theorem Follows.nil (x : Res α) : Follows s [] x := ⟨.nil x, nofun⟩

/-- What comes after the last access of the list. -/
theorem Meets.bind {x : Res α} (h : Meets s l x) (f : α → Res β) : Meets s l (x >>= f) := fun e he => (h e he).bind f

theorem Follows.bind {x : Res α} (h : Follows s l x) (f : α → Res β) : Follows s l (x >>= f) := by
  refine ⟨h.raises.bind f, fun a e ha he => ?_⟩
  obtain ⟨u, rfl, fresh⟩ := h.atOnce a e ha he
  exact ⟨u, rfl, fresh⟩

theorem firstFault_append (s : State) (l l' : List MemAccess) :
    s.firstFault (l ++ l') = (s.firstFault l).or (s.firstFault l') := List.findSome?_append

/-- The accesses of an operation, then those of what follows it where it completes. -/
theorem Meets.append {x : Res α} {f : α → Res β} (h : Meets s l x)
    (rest : s.firstFault l = none → ∃ a, x = .ok a ∧ Meets s l' (f a)) : Meets s (l ++ l') (x >>= f) := by
  intro e he
  rw [firstFault_append] at he
  cases c : s.firstFault l with
  | some e' =>
    rw [c] at he
    cases he
    exact (h e c).bind f
  | none =>
    rw [c] at he
    obtain ⟨a, rfl, k⟩ := rest c
    exact k e he

/-- The same of an operation that makes an access. -/
theorem Follows.append {x : Res α} {f : α → Res β} (h : Follows s l x) (ne : l ≠ [])
    (rest : s.firstFault l = none → ∃ a, x = .ok a ∧ Meets s l' (f a)) : Follows s (l ++ l') (x >>= f) := by
  refine ⟨h.raises.append rest, fun a e ha he => (h.bind f).atOnce a e ?_ he⟩
  cases l with
  | nil => exact absurd rfl ne
  | cons b l => exact ha

/-- Checks read nothing that an operation on operands changes. -/
theorem Touches.faultOf {d : List Reg16} {a : List Nat} (h : Touches s t d a) : t.faultOf = s.faultOf :=
  funext fun x => h.accessFault x.1 x.2.1 x.2.2.1 x.2.2.2

theorem Meets.from {x : Res α} (same : t.faultOf = s.faultOf) (h : Meets t l x) : Meets s l x := by
  intro e he
  refine h e ?_
  rwa [State.firstFault, same]

theorem Follows.from {x : Res α} (same : t.faultOf = s.faultOf) (host : t.host = s.host) (draws : t.draws = s.draws)
    (h : Follows t l x) : Follows s l x := by
  refine ⟨h.raises.from same, fun a e ha he => ?_⟩
  obtain ⟨u, hu, k, k'⟩ := h.atOnce a e ha (by rwa [same])
  exact ⟨u, hu, k.trans host, k'.trans draws⟩

/-- A read, then what follows it in a state with the same operands and checks. -/
theorem Reads.then {x : Res (α × State)} {f : α × State → Res β} (h : Reads s l x) (ne : l ≠ [])
    (rest : ∀ v t, Touches s t [] [] → Meets s l' (f (v, t))) : Follows s (l ++ l') (x >>= f) := by
  refine h.toFollows.append ne fun c => ?_
  obtain ⟨v, t, hx, touches⟩ := h.completes c
  exact ⟨(v, t), hx, rest v t touches⟩

/-! ## Checked accesses -/

theorem firstFault_cons (s : State) (a : MemAccess) (l : List MemAccess) :
    s.firstFault (a :: l) = (s.faultOf a).or (s.firstFault l) := by
  rw [State.firstFault, List.findSome?_cons]
  cases s.faultOf a <;> rfl

theorem firstFault_singleton (s : State) (a : MemAccess) : s.firstFault [a] = s.faultOf a := by
  rw [firstFault_cons]
  exact Option.or_none

theorem follows_checkAccess (s : State) (r : SegReg) (off : Word) (n : Nat) (w : Bool) (f : Unit → Res β) :
    Follows s [(r, off, n, w)] (s.checkAccess r off n w >>= f) := by
  have raised (e : Exc) (he : s.faultOf (r, off, n, w) = some e) :
      s.checkAccess r off n w >>= f = .error { exc := e, seen := s, committed := false } := by
    rw [State.checkAccess, show s.accessFault r off n w = some e from he]
    rfl
  constructor
  · intro e he
    rw [firstFault_singleton] at he
    exact ⟨s, raised e he⟩
  · intro a e ha he
    cases ha
    exact ⟨s, raised e he, rfl, rfl⟩

theorem reads_segRead8 (s : State) (r : SegReg) (off : Word) : Reads s [(r, off, 0, false)] (s.segRead8 r off) where
  toFollows := follows_checkAccess s r off 0 false _
  completes h := by
    rw [firstFault_singleton] at h
    refine ⟨(s.busRead8 (s.segAddr r off)).1, (s.busRead8 (s.segAddr r off)).2, ?_, touches_busRead8 s _⟩
    rw [State.segRead8, checkAccess_eq_ok (u := ()).mpr h]
    rfl

theorem reads_segRead16 (s : State) (r : SegReg) (off : Word) : Reads s [(r, off, 1, false)] (s.segRead16 r off) where
  toFollows := follows_checkAccess s r off 1 false _
  completes h := by
    rw [firstFault_singleton] at h
    exact ⟨_, _, segRead16_of_access h, touches_segGet16 s r off⟩

theorem follows_segWrite8 (s : State) (r : SegReg) (off : Word) (v : Byte) :
    Follows s [(r, off, 0, true)] (s.segWrite8 r off v) := follows_checkAccess s r off 0 true _

theorem follows_segWrite16 (s : State) (r : SegReg) (off v : Word) :
    Follows s [(r, off, 1, true)] (s.segWrite16 r off v) := follows_checkAccess s r off 1 true _

/-! ## Operands in memory (30 R219, R227) -/

/-- Reading with an effective address noted. -/
theorem Reads.noteEa {x : Res (α × State)} (w : Word) (h : Reads (s.noteEa w) l x) : Reads s l x where
  toFollows := h.toFollows.from (touches_noteEa s w).faultOf rfl rfl
  completes c := by
    obtain ⟨v, t, hx, touches⟩ := h.completes (by
      rwa [State.firstFault, (touches_noteEa s w).faultOf])
    exact ⟨v, t, hx, (touches_noteEa s w).trans touches⟩

theorem reads_readEb (s : State) (m : MemRef) : Reads s (s.readsOf 0 (.mem m : RM Reg8)) (s.readEb (.mem m)) :=
  (reads_segRead8 _ _ _).noteEa _

theorem reads_readEw (s : State) (m : MemRef) : Reads s (s.readsOf 1 (.mem m : RM Reg16)) (s.readEw (.mem m)) :=
  (reads_segRead16 _ _ _).noteEa _

theorem follows_readEb (s : State) (e : RM Reg8) : Follows s (s.readsOf 0 e) (s.readEb e) := by
  cases e with
  | reg r => exact .nil _
  | mem m => exact (reads_readEb s m).toFollows

theorem follows_readEw (s : State) (e : RM Reg16) : Follows s (s.readsOf 1 e) (s.readEw e) := by
  cases e with
  | reg r => exact .nil _
  | mem m => exact (reads_readEw s m).toFollows

theorem follows_writeEb (s : State) (e : RM Reg8) (v : Byte) : Follows s (s.writesOf 0 e) (s.writeEb e v) := by
  cases e with
  | reg r => exact .nil _
  | mem m =>
    exact (follows_segWrite8 _ _ _ v).from ((touches_noteEa s _).trans (touches_noteWrite _ _)).faultOf rfl rfl

theorem follows_writeEw (s : State) (e : RM Reg16) (v : Word) : Follows s (s.writesOf 1 e) (s.writeEw e v) := by
  cases e with
  | reg r => exact .nil _
  | mem m =>
    exact (follows_segWrite16 _ _ _ v).from ((touches_noteEa s _).trans (touches_noteWrite _ _)).faultOf rfl rfl

theorem Touches.writesOf {ρ : Type} {a : List Nat} (h : Touches s t [] a) (n : Nat) (e : RM ρ) :
    t.writesOf n e = s.writesOf n e := by
  cases e with
  | reg r => rfl
  | mem m => simp only [State.writesOf, State.writeOf, h.ea, h.opSeg]

/-- A write of an operand that was read in `s`, from a state with the same operands. -/
theorem Touches.meets_writeEb {a : List Nat} (h : Touches s t [] a) (e : RM Reg8) (v : Byte) :
    Meets s (s.writesOf 0 e) (t.writeEb e v) :=
  .from h.faultOf (h.writesOf 0 e ▸ (follows_writeEb t e v).raises)

theorem Touches.meets_writeEw {a : List Nat} (h : Touches s t [] a) (e : RM Reg16) (v : Word) :
    Meets s (s.writesOf 1 e) (t.writeEw e v) :=
  .from h.faultOf (h.writesOf 1 e ▸ (follows_writeEw t e v).raises)

/-- A byte operand that is read and then written, with changes of the flags and draws between. -/
theorem follows_modifyEb (s : State) (e : RM Reg8) {f : Byte × State → Res β}
    (h : ∀ v t, Touches s t [] [] → Meets s (s.writesOf 0 e) (f (v, t))) :
    Follows s (s.readsOf 0 e ++ s.writesOf 0 e) (s.readEb e >>= f) := by
  cases e with
  | reg r => exact .nil _
  | mem m => exact (reads_readEb s m).then nofun h

theorem follows_modifyEw (s : State) (e : RM Reg16) {f : Word × State → Res β}
    (h : ∀ v t, Touches s t [] [] → Meets s (s.writesOf 1 e) (f (v, t))) :
    Follows s (s.readsOf 1 e ++ s.writesOf 1 e) (s.readEw e >>= f) := by
  cases e with
  | reg r => exact .nil _
  | mem m => exact (reads_readEw s m).then nofun h

/-- The second of two reads. -/
theorem Reads.cons {x : Res (α × State)} {f : α × State → Res (β × State)} (h : Reads s l x) (ne : l ≠ [])
    (rest : ∀ v t, Touches s t [] [] → Reads t l' (f (v, t))) : Reads s (l ++ l') (x >>= f) where
  toFollows := h.then ne fun v t touches => (rest v t touches).raises.from touches.faultOf
  completes c := by
    rw [firstFault_append, Option.or_eq_none_iff] at c
    obtain ⟨v, t, rfl, touches⟩ := h.completes c.1
    obtain ⟨w, u, hx, touches'⟩ := (rest v t touches).completes (by
      rw [State.firstFault, touches.faultOf]
      exact c.2)
    exact ⟨w, u, hx, touches.trans touches'⟩

/-- What a read answers may be renamed. -/
theorem Reads.map {x : Res (α × State)} (h : Reads s l x) (g : α → β) :
    Reads s l (x >>= fun p => .ok (g p.1, p.2)) where
  toFollows := h.toFollows.bind _
  completes c := by
    obtain ⟨v, t, rfl, touches⟩ := h.completes c
    exact ⟨g v, t, rfl, touches⟩

theorem reads_readPair (s : State) (m : MemRef) : Reads s (s.pairReads m) (s.readPair m) :=
  .noteEa _ ((reads_segRead16 _ _ _).cons nofun fun a t _ =>
    ((reads_segRead16 t _ _).map fun b => (a, b)))

/-! ## Two operands, one operand, shifts and moves -/

/-- An operation that changes no operand. -/
theorem follows_binEb {op : BinOp 8} (h : ∀ d x s, Touches s (op d x s).2 [] []) (e : RM Reg8) (src : Byte) :
    Follows s (s.readsOf 0 e ++ s.writesOf 0 e) (s.binEb op e src) :=
  follows_modifyEb s e fun v t touches => (touches.trans (h v src t)).meets_writeEb e _

theorem follows_binEw {op : BinOp 16} (h : ∀ d x s, Touches s (op d x s).2 [] []) (e : RM Reg16) (src : Word) :
    Follows s (s.readsOf 1 e ++ s.writesOf 1 e) (s.binEw op e src) :=
  follows_modifyEw s e fun v t touches => (touches.trans (h v src t)).meets_writeEw e _

theorem follows_unEb {op : UnOp 8} (h : ∀ d s, Touches s (op d s).2 [] []) (e : RM Reg8) :
    Follows s (s.readsOf 0 e ++ s.writesOf 0 e) (s.unEb op e) :=
  follows_modifyEb s e fun v t touches => (touches.trans (h v t)).meets_writeEb e _

theorem follows_unEw {op : UnOp 16} (h : ∀ d s, Touches s (op d s).2 [] []) (e : RM Reg16) :
    Follows s (s.readsOf 1 e ++ s.writesOf 1 e) (s.unEw op e) :=
  follows_modifyEw s e fun v t touches => (touches.trans (h v t)).meets_writeEw e _

/-- The accesses of a shift. -/
theorem follows_shift8 (f : Bool → Byte → Nat → Shifted 8) {flags : State → ResultSize → Shifted 8 → Nat → State}
    (h : ∀ t z x c, Touches t (flags t z x c) [] []) (e : RM Reg8) (count : Byte) :
    Follows s (s.readsOf 0 e ++ if s.shiftCount count = 0 then [] else s.writesOf 0 e) (s.shift8 f flags e count) := by
  unfold State.shift8
  split
  · rw [List.append_nil]
    exact (follows_readEb s e).bind _
  · exact follows_modifyEb s e fun v t touches => (touches.trans (h t _ _ _)).meets_writeEb e _

theorem follows_shift16 (f : Bool → Word → Nat → Shifted 16) {flags : State → ResultSize → Shifted 16 → Nat → State}
    (h : ∀ t z x c, Touches t (flags t z x c) [] []) (e : RM Reg16) (count : Byte) :
    Follows s (s.readsOf 1 e ++ if s.shiftCount count = 0 then [] else s.writesOf 1 e) (s.shift16 f flags e count) := by
  unfold State.shift16
  split
  · rw [List.append_nil]
    exact (follows_readEw s e).bind _
  · exact follows_modifyEw s e fun v t touches => (touches.trans (h t _ _ _)).meets_writeEw e _

theorem follows_xchg8 (e : RM Reg8) (g : Reg8) : Follows s (s.readsOf 0 e ++ s.writesOf 0 e) (s.xchg8 e g) :=
  follows_modifyEb s e fun _ _ touches => (touches.meets_writeEb e _).bind _

theorem follows_xchg16 (e : RM Reg16) (g : Reg16) : Follows s (s.readsOf 1 e ++ s.writesOf 1 e) (s.xchg16 e g) :=
  follows_modifyEw s e fun _ _ touches => (touches.meets_writeEw e _).bind _

/-! ## The stack (41 R330) -/

theorem ofNat_two_mul_succ (k : Nat) : BitVec.ofNat 16 (2 * (k + 1)) = 2 + BitVec.ofNat 16 (2 * k) := by
  rw [Nat.mul_add_one, Nat.add_comm, BitVec.ofNat_add]
  rfl

theorem pushes_succ (s : State) (n : Nat) : s.pushes (n + 1) = (.ss, s.regs.sp - 2, 1, true) ::
    (List.range n).map fun k => (.ss, s.regs.sp - 2 - BitVec.ofNat 16 (2 * (k + 1)), 1, true) := by
  rw [State.pushes, List.range_succ_eq_map, List.map_cons, List.map_map]
  refine congrArg₂ _ rfl (List.map_congr_left fun k _ => ?_)
  rw [Function.comp_apply, ofNat_two_mul_succ (k + 1), ← BitVec.sub_sub]
  rfl

theorem pops_succ (s : State) (n : Nat) : s.pops (n + 1) = (.ss, s.regs.sp, 1, false) ::
    (List.range n).map fun k => (.ss, s.regs.sp + 2 + BitVec.ofNat 16 (2 * k), 1, false) := by
  rw [State.pops, List.range_succ_eq_map, List.map_cons, List.map_map]
  refine congrArg₂ _ ?_ (List.map_congr_left fun k _ => ?_)
  · exact congrArg (fun o => (SegReg.ss, o, 1, false)) (BitVec.add_zero s.regs.sp)
  · rw [Function.comp_apply, ofNat_two_mul_succ, ← BitVec.add_assoc]
    rfl

theorem follows_push16 (s : State) (v : Word) : Follows s (s.pushes 1) (s.push16 v) :=
  (follows_segWrite16 s _ _ v).bind _

/-- A push and what follows it. -/
theorem follows_push16_bind {v : Word} {f : State → Res β}
    (h : ∀ t a, Touches s t [.sp] a → t.regs.sp = s.regs.sp - 2 → Meets t l (f t)) :
    Follows s ((.ss, s.regs.sp - 2, 1, true) :: l) (s.push16 v >>= f) := by
  refine (follows_push16 s v).append nofun fun c => ?_
  rw [pushes_succ, List.range_zero, List.map_nil, firstFault_singleton] at c
  obtain ⟨t, run, -, sp, touches, -⟩ := push16_ok c v
  exact ⟨t, run, (h t _ touches sp).from touches.faultOf⟩

theorem follows_pushAll (ws : List Word) (s : State) : Follows s (s.pushes ws.length) (State.pushAll ws s) := by
  induction ws generalizing s with
  | nil => exact .nil _
  | cons w ws ih =>
    rw [List.length_cons, pushes_succ]
    refine follows_push16_bind fun t _ _ sp => ?_
    rw [← sp]
    exact (ih t).raises

theorem pops_one (s : State) : s.pops 1 = [(.ss, s.regs.sp, 1, false)] := by
  rw [pops_succ, List.range_zero, List.map_nil]

theorem follows_pushAllRegs (s : State) : Follows s (s.pushes 8) s.pushAllRegs :=
  follows_pushAll [_, _, _, _, _, _, _, _] s

theorem reads_top (s : State) : Reads s (s.pops 1) (s.segRead16 .ss s.regs.sp) := by
  rw [pops_one]
  exact reads_segRead16 s _ _

theorem follows_pop16 (s : State) : Follows s (s.pops 1) s.pop16 := (reads_top s).toFollows.bind _

/-- A pop and what follows it. -/
theorem follows_pop16_bind {n : Nat} {f : Word × State → Res β} (h : ∀ v t, Follows t (t.pops n) (f (v, t))) :
    Follows s (s.pops (n + 1)) (s.pop16 >>= f) := by
  have top := follows_pop16 s
  rw [pops_one] at top
  rw [pops_succ]
  refine top.append nofun fun c => ?_
  rw [firstFault_singleton] at c
  have touches := (touches_segGet16 s .ss s.regs.sp).trans
    (touches_setReg (s.segGet16 .ss s.regs.sp).2 .sp (s.regs.sp + 2))
  exact ⟨_, pop16_ok c, .from touches.faultOf (h _ _).raises⟩

theorem follows_popAllRegs (s : State) : Follows s (s.pops 8) s.popAllRegs :=
  follows_pop16_bind fun _ _ => follows_pop16_bind fun _ _ => follows_pop16_bind fun _ _ =>
    follows_pop16_bind fun _ _ => follows_pop16_bind fun _ _ => follows_pop16_bind fun _ _ =>
      follows_pop16_bind fun _ t => (follows_pop16 t).bind _

theorem follows_iretReal (s : State) : Follows s (s.pops 3) s.iretReal :=
  follows_pop16_bind fun _ _ => follows_pop16_bind fun _ t => (follows_pop16 t).bind _

/-- A word at an offset from the top of the stack, read without a pop, and what follows it. -/
theorem Touches.meets_readStack (h : Touches s t [] []) (k : Word) {f : Word × State → Res β}
    (rest : ∀ v u, Touches s u [] [] → Meets s l (f (v, u))) :
    Meets s ((.ss, s.regs.sp + k, 1, false) :: l) (t.segRead16 .ss (t.regs.sp + k) >>= f) := by
  have sp : t.regs.sp = s.regs.sp := h.regs .sp nofun
  rw [sp]
  exact ((reads_segRead16 t _ _).then (l' := l) nofun fun v u k =>
    (rest v u (h.trans k)).from h.faultOf.symm).raises.from h.faultOf

theorem follows_farReturnProtected (s : State) (k : Word) : Follows s (s.pops 2) (s.farReturnProtected k) :=
  (reads_top s).then nofun fun _ _ h => h.meets_readStack 2 fun _ _ _ => .nil _

theorem follows_iretProtected (h : s.iretIsTask = false) (pe : s.protectedMode = true) :
    Follows s (s.pops 3) s.iretProtected := by
  rw [State.iretIsTask, pe, Bool.true_and] at h
  rw [State.iretProtected, h]
  exact (reads_top s).then nofun fun _ _ h => h.meets_readStack 2 fun _ _ h => h.meets_readStack 4 fun _ _ _ => .nil _

theorem follows_farReturn (s : State) (k : Word) : Follows s (s.pops 2) (s.farReturn k) := by
  unfold State.farReturn
  split
  · exact follows_farReturnProtected s k
  · exact follows_pop16_bind fun _ t => (follows_pop16 t).bind _

theorem follows_interruptReturn (s : State) :
    Follows s (if s.iretIsTask then [] else s.pops 3) s.interruptReturn := by
  unfold State.interruptReturn
  split
  · exact .nil _
  · split
    · exact follows_iretProtected (by simpa using ‹¬s.iretIsTask = true›) ‹_›
    · exact follows_iretReal s

theorem follows_popSeg (s : State) (r : SegReg) : Follows s (s.pops 1) (s.popSeg r) := (reads_top s).toFollows.bind _

theorem follows_popOperand (s : State) (e : RM Reg16) : Follows s (s.pops 1 ++ s.writesOf 1 e) (s.popOperand e) := by
  cases e with
  | reg r => exact ((reads_top s).toFollows.bind _ : Follows s (s.pops 1) _)
  | mem m => exact (reads_top s).then nofun fun v _ h => (h.meets_writeEw (.mem m) v).bind _

theorem follows_leaveFrame (s : State) : Follows s [(.ss, s.reg .bp, 1, false)] s.leaveFrame := by
  have pop := follows_pop16 (s.setReg .sp s.regs.bp)
  rw [pops_one] at pop
  exact (pop.from (touches_setReg s _ _).faultOf rfl rfl).bind _

theorem follows_pushStackPtr (s : State) : Follows s (s.pushes 1) s.pushStackPtr := by
  unfold State.pushStackPtr
  split <;> exact follows_push16 s _

/-- A push from a state with the same stack. -/
theorem Touches.meets_push16 (h : Touches s t [] []) (v : Word) : Meets s (s.pushes 1) (t.push16 v) := by
  have sp : t.pushes 1 = s.pushes 1 := by rw [State.pushes, h.regs .sp nofun]; rfl
  exact sp ▸ (follows_push16 t v).raises.from h.faultOf

theorem follows_pushOperand (s : State) (e : RM Reg16) :
    Follows s (s.readsOf 1 e ++ s.pushes 1) (s.pushOperand e) := by
  cases e with
  | reg r =>
    unfold State.pushOperand
    split
    · exact follows_pushStackPtr s
    · exact follows_push16 s _
  | mem m =>
    rw [State.pushOperand, if_neg nofun]
    exact (reads_readEw s m).then nofun fun v _ h => h.meets_push16 v

/-! ## ENTER (45 R710) -/

/-- The accesses of that many copies of frame pointers, from where BP and SP point, and of the push after them. -/
def copyAccesses (bp sp : Word) (n : Nat) : List MemAccess :=
  ((List.range n).flatMap fun k =>
    [(.ss, bp - BitVec.ofNat 16 (2 * (k + 1)), 1, false), (.ss, sp - BitVec.ofNat 16 (2 * (k + 1)), 1, true)]) ++
  [(.ss, sp - BitVec.ofNat 16 (2 * (n + 1)), 1, true)]

theorem sub_two_mul_succ (x : Word) (k : Nat) :
    x - BitVec.ofNat 16 (2 * (k + 1 + 1)) = x - 2 - BitVec.ofNat 16 (2 * (k + 1)) := by
  rw [ofNat_two_mul_succ (k + 1), ← BitVec.sub_sub]

theorem copyAccesses_succ (bp sp : Word) (n : Nat) : copyAccesses bp sp (n + 1) =
    (.ss, bp - 2, 1, false) :: (.ss, sp - 2, 1, true) :: copyAccesses (bp - 2) (sp - 2) n := by
  simp only [copyAccesses, List.range_succ_eq_map, List.flatMap_cons, List.flatMap_map, sub_two_mul_succ]
  rfl

theorem enterCopy_succ_bind (n : Nat) (s : State) (f : State → Res β) :
    State.enterCopy (n + 1) s >>= f =
      ((s.setReg .bp (s.regs.bp - 2)).segRead16 .ss (s.regs.bp - 2) >>= fun p =>
        p.2.push16 p.1 >>= fun u => State.enterCopy n u >>= f) := by
  simp only [State.enterCopy, bind_assoc]

/-- ENTER's copies and the push after them. -/
theorem meets_enterCopy (n : Nat) (frame : Word) (s : State) :
    Meets s (copyAccesses s.regs.bp s.regs.sp n) (State.enterCopy n s >>= fun t => t.push16 frame) := by
  induction n generalizing s with
  | zero => exact (follows_push16 s frame).raises
  | succ n ih =>
    rw [copyAccesses_succ, enterCopy_succ_bind]
    refine .from (touches_setReg s .bp (s.regs.bp - 2)).faultOf
      ((reads_segRead16 _ .ss (s.regs.bp - 2)).then nofun fun v t read => .from read.faultOf ?_).raises
    have sp : t.regs.sp = s.regs.sp := read.regs .sp nofun
    have bp : t.regs.bp = s.regs.bp - 2 := read.regs .bp nofun
    rw [← sp, ← bp]
    refine (follows_push16_bind fun u _ pushed sp' => ?_).raises
    rw [← sp', ← show u.regs.bp = t.regs.bp from pushed.regs .bp (by decide)]
    exact ih u

theorem enterAccesses_succ (s : State) (n : Nat) : s.enterAccesses (n + 1) =
    (.ss, s.regs.sp - 2, 1, true) :: copyAccesses s.regs.bp (s.regs.sp - 2) n := by
  simp only [State.enterAccesses, copyAccesses, ← sub_two_mul_succ]
  rfl

theorem follows_enterFrame (s : State) (size : Word) (lev : Byte) :
    Follows s (s.enterAccesses (lev.toNat % 32)) (s.enterFrame size lev) := by
  unfold State.enterFrame
  cases lev.toNat % 32 with
  | zero => exact (follows_push16 s _).bind _
  | succ n =>
    rw [enterAccesses_succ]
    refine follows_push16_bind fun t _ pushed sp => ?_
    rw [← sp, ← show t.regs.bp = s.regs.bp from pushed.regs .bp (by decide)]
    exact (meets_enterCopy n t.regs.sp t).bind _

/-! ## Transfers (45 R669 to R684) -/

theorem Follows.ite {c : Prop} [Decidable c] {x : Res α} (h : c → Follows s l x) :
    Follows s (if c then l else []) x := by
  split
  · exact h ‹_›
  · exact .nil x

theorem follows_callNear (s : State) (target : Word) :
    Follows s (if s.inCode target then s.pushes 1 else []) (s.callNear target) := .ite fun inCode => by
  have passes : (s.protectedMode && decide ((s.seg .cs).limit.toNat < target.toNat)) = false := by
    simpa [State.inCode] using inCode
  rw [State.callNear, passes]
  exact (follows_push16 s _).bind _

/-- A near call from a state with the same stack and code segment. -/
theorem Touches.meets_callNear (h : Touches s t [] []) (target : Word) :
    Meets s (if s.inCode target then s.pushes 1 else []) (t.callNear target) := by
  have pushes : t.pushes 1 = s.pushes 1 := by rw [State.pushes, h.regs .sp nofun]; rfl
  have inCode : t.inCode target = s.inCode target := by rw [State.inCode, h.protectedMode, h.seg]
  have call := (follows_callNear t target).raises
  simp only [pushes, inCode] at call
  exact call.from h.faultOf

theorem follows_callOperand (s : State) (e : RM Reg16) :
    Follows s (s.readsOf 1 e ++ if s.inCode (s.valueEw e) then s.pushes 1 else []) (s.callOperand e) := by
  cases e with
  | reg r => exact follows_callNear s _
  | mem m =>
    refine (reads_readEw s m).toFollows.append nofun fun c => ?_
    have readable : s.canReadEw (.mem m) := (firstFault_singleton s _).symm.trans c
    exact ⟨_, readEw_ok readable, (touches_afterEw s (.mem m)).meets_callNear _⟩

theorem follows_farCall (s : State) (sel off : Word) : Follows s s.realCallPushes (s.farTransfer true sel off) := by
  unfold State.realCallPushes State.farTransfer
  split
  · exact .nil _
  · exact (follows_pushAll [(s.seg .cs).selector, s.ip] s).bind _

theorem Touches.realCallPushes (h : Touches s t [] []) : t.realCallPushes = s.realCallPushes := by
  rw [State.realCallPushes, h.protectedMode, State.pushes, h.regs .sp nofun]
  rfl

theorem follows_farCallOperand (s : State) (m : MemRef) :
    Follows s (s.pairReads m ++ s.realCallPushes) (s.farOperand true m) :=
  (reads_readPair s m).then nofun fun v t h =>
    h.realCallPushes ▸ (follows_farCall t v.2 v.1).raises.from h.faultOf

theorem follows_farJumpOperand (s : State) (m : MemRef) : Follows s (s.pairReads m) (s.farOperand false m) :=
  (reads_readPair s m).toFollows.bind _

/-! ## Strings (44 R600 to R612) -/

/-- A string instruction, where its element runs. -/
theorem follows_repeated {port : Bool} {element : State → Res State} (i : Instr) (stops : RepKind → State → Bool)
    (h : (port && s.ioplDenies) = false → Follows s l (element s)) :
    Follows s (if s.elementRuns port then l else []) (s.repeated i stops element) := .ite fun runs => by
  simp only [State.elementRuns, Bool.and_eq_true, Bool.or_eq_true, beq_iff_eq, bne_iff_ne, Bool.not_eq_true'] at runs
  obtain ⟨repeats, allowed⟩ := runs
  unfold State.repeated
  split
  · exact h allowed
  · rename_i prefixed
    have more : s.reg .cx ≠ 0 := repeats.resolve_left (prefixed ▸ nofun)
    rw [if_neg more]
    exact (h allowed).bind _

theorem Touches.meets_segWrite8 (h : Touches s t [] []) (r : SegReg) (off : Word) (v : Byte) :
    Meets s [(r, off, 0, true)] (t.segWrite8 r off v) := (follows_segWrite8 t r off v).raises.from h.faultOf

theorem Touches.meets_segWrite16 (h : Touches s t [] []) (r : SegReg) (off : Word) (v : Word) :
    Meets s [(r, off, 1, true)] (t.segWrite16 r off v) := (follows_segWrite16 t r off v).raises.from h.faultOf

theorem Touches.meets_segRead8 (h : Touches s t [] []) (r : SegReg) (off : Word) :
    Meets s [(r, off, 0, false)] (t.segRead8 r off) := (reads_segRead8 t r off).raises.from h.faultOf

theorem Touches.meets_segRead16 (h : Touches s t [] []) (r : SegReg) (off : Word) :
    Meets s [(r, off, 1, false)] (t.segRead16 r off) := (reads_segRead16 t r off).raises.from h.faultOf

theorem follows_movsB (s : State) : Follows s (s.elementAccesses .movsb) s.movsB :=
  (reads_segRead8 s _ _).then nofun fun v _ h => (h.meets_segWrite8 .es (s.reg .di) v).bind _

theorem follows_movsW (s : State) : Follows s (s.elementAccesses .movsw) s.movsW :=
  (reads_segRead16 s _ _).then nofun fun v _ h => (h.meets_segWrite16 .es (s.reg .di) v).bind _

theorem follows_cmpsB (s : State) : Follows s (s.elementAccesses .cmpsb) s.cmpsB :=
  (reads_segRead8 s _ _).then nofun fun _ _ h => (h.meets_segRead8 .es (s.reg .di)).bind _

theorem follows_cmpsW (s : State) : Follows s (s.elementAccesses .cmpsw) s.cmpsW :=
  (reads_segRead16 s _ _).then nofun fun _ _ h => (h.meets_segRead16 .es (s.reg .di)).bind _

theorem checkIopl_ok (h : (true && s.ioplDenies) = false) : s.checkIopl = .ok () := raiseIf_eq_ok.mpr h

theorem follows_insB (h : (true && s.ioplDenies) = false) : Follows s (s.elementAccesses .insb) s.insB := by
  rw [State.insB, checkIopl_ok h]
  exact follows_checkAccess s _ _ 0 true _

theorem follows_insW (h : (true && s.ioplDenies) = false) : Follows s (s.elementAccesses .insw) s.insW := by
  rw [State.insW, checkIopl_ok h]
  exact follows_checkAccess s _ _ 1 true _

theorem follows_outsB (h : (true && s.ioplDenies) = false) : Follows s (s.elementAccesses .outsb) s.outsB := by
  rw [State.outsB, checkIopl_ok h]
  exact (reads_segRead8 s _ _).toFollows.bind _

theorem follows_outsW (h : (true && s.ioplDenies) = false) : Follows s (s.elementAccesses .outsw) s.outsW := by
  rw [State.outsW, checkIopl_ok h]
  exact (reads_segRead16 s _ _).toFollows.bind _

/-! ## System instructions (47 R800 to R816) -/

theorem checkProtected_ok (h : s.protectedMode = true) : s.checkProtected = .ok () :=
  raiseIf_eq_ok.mpr (by rw [h]; rfl)

theorem checkCpl0_ok (h : s.privileged = true) : s.checkCpl0 = .ok () := by
  refine raiseIf_eq_ok.mpr ?_
  unfold State.privileged at h
  generalize s.protectedMode = p at *
  cases p <;> simp_all

/-- Behind the check of the mode. -/
theorem follows_protected {f : Unit → Res β} (h : Follows s l (f ())) :
    Follows s (if s.protectedMode then l else []) (s.checkProtected >>= f) := .ite fun pe => by
  rw [checkProtected_ok pe]
  exact h

/-- Behind the check of CPL. -/
theorem follows_privileged {f : Unit → Res β} (h : Follows s l (f ())) :
    Follows s (if s.privileged then l else []) (s.checkCpl0 >>= f) := .ite fun allowed => by
  rw [checkCpl0_ok allowed]
  exact h

/-- Behind both. -/
theorem follows_protected_privileged {g : Unit → Res β} (h : Follows s l (g ())) :
    Follows s (if s.protectedMode && s.privileged then l else [])
      (s.checkProtected >>= fun _ => s.checkCpl0 >>= g) := .ite fun both => by
  obtain ⟨pe, allowed⟩ := Bool.and_eq_true_iff.mp both
  rw [checkProtected_ok pe, ok_bind, checkCpl0_ok allowed]
  exact h

theorem follows_storeTable (s : State) (r : TableReg) (m : MemRef) : Follows s [s.writeOf m 5] (s.storeTable r m) :=
  (follows_checkAccess _ _ _ 5 true _).from ((touches_noteEa s _).trans (touches_noteWrite _ _)).faultOf rfl rfl

theorem follows_readTable (s : State) (m : MemRef) : Follows s [s.readOf m 4] (s.readTable m) :=
  (follows_checkAccess _ _ _ 4 false _).from (touches_noteEa s _).faultOf rfl rfl

/-- ARPL checks its write even where it writes nothing. -/
theorem follows_adjustRpl (s : State) (e : RM Reg16) (g : Reg16) :
    Follows s (if s.protectedMode then s.readsOf 1 e ++ s.writesOf 1 e else []) (s.adjustRpl e g) := by
  refine follows_protected (follows_modifyEw s e fun v t h => ?_)
  dsimp only
  split
  · exact (h.meets_writeEw e _).bind _
  · cases e with
    | reg r => exact .nil _
    | mem m =>
      dsimp only
      rw [h.opSeg, h.ea]
      exact (follows_checkAccess t _ _ 1 true _).raises.from h.faultOf

theorem follows_moveSeg (s : State) (r : SegReg) (e : RM Reg16) :
    Follows s (if r = .cs then [] else s.readsOf 1 e) (s.moveSeg r e) := by
  cases r with
  | cs => exact .nil _
  | es => exact (follows_readEw s e).bind _
  | ss => exact (follows_readEw s e).bind _
  | ds => exact (follows_readEw s e).bind _

/-! ## The accesses of each instruction -/

/-- The parts of `State.accesses`, but for the strings, which stand after the tenth. -/
def State.accessParts (s : State) (i : Instr) : List (List MemAccess) :=
  [accessesOf (s.aluAccesses 1) (aluForm16 i), accessesOf (s.aluAccesses 0) (aluForm8 i),
    accessesOf (s.unaryAccesses 1) (unaryForm16 i), accessesOf (s.unaryAccesses 0) (unaryForm8 i),
    accessesOf (s.shiftAccesses 1) (shiftForm16 i), accessesOf (s.shiftAccesses 0) (shiftForm8 i),
    accessesOf (s.moveAccesses 1) (moveForm16 i), accessesOf (s.moveAccesses 0) (moveForm8 i),
    accessesOf (fun x => s.readsOf 1 x.1 ++ s.writesOf 1 x.1) (exchangeForm16 i),
    s.operandAccesses i, s.stackAccesses i, s.transferAccesses i, s.systemAccesses i]

theorem accesses_eq (s : State) (i : Instr) :
    s.accesses i =
      ((s.accessParts i).take 10).flatten ++ s.stringAccesses i ++ ((s.accessParts i).drop 10).flatten := by
  simp only [State.accesses, State.formAccesses, State.accessParts, List.take_succ_cons, List.take_zero,
    List.drop_succ_cons, List.drop_zero, List.flatten_cons, List.flatten_nil, List.append_nil, List.append_assoc]

/-- An instruction that is no string instruction makes the accesses of the one part it belongs to. -/
theorem accesses_at {i : Instr} (k m : Nat) (e : s.elementAccesses i = [])
    (h : s.accessParts i = List.replicate k [] ++ l :: List.replicate m []) : s.accesses i = l := by
  have noString : s.stringAccesses i = [] := by rw [State.stringAccesses, e, ite_self]
  rw [accesses_eq, noString, List.append_nil, ← List.flatten_append, List.take_append_drop, h, List.flatten_append,
    List.flatten_cons, List.flatten_replicate_nil, List.flatten_replicate_nil, List.append_nil, List.nil_append]

/-- A string instruction makes those of its element. -/
theorem accesses_string {i : Instr} (h : s.accessParts i = List.replicate 13 []) :
    s.accesses i = s.stringAccesses i := by
  rw [accesses_eq, h]
  exact List.append_nil _

/-! ## What an instruction does when an access fails -/

/-- What the obligation says of an instruction. -/
def FaultsFirst (i : Instr) (s : State) : Prop :=
  (∀ e, s.firstFault (s.accesses i) = some e → Traps i s e) ∧
  ∀ a e, (s.accesses i).head? = some a → s.faultOf a = some e → TrapsAtOnce i s e

/-- Of the state an exception was raised in, only the host's side and the draws count (60 R911). -/
theorem deliverRaise_uncommitted (s u : State) (e : Exc) :
    s.deliverRaise { exc := e, seen := u, committed := false } =
      { (s.undo u).takeException (s.savedIp e) e with handlerEntry := true } := rfl

/-- An instruction whose body follows its accesses. -/
theorem FaultsFirst.of_follows {i : Instr} {x : Res State} (acc : s.accesses i = l) (run : exec i s = s.finish x)
    (h : Follows s l x) : FaultsFirst i s := by
  subst acc
  constructor
  · intro e he
    obtain ⟨u, rfl⟩ := h.raises e he
    exact ⟨u, run⟩
  · intro a e ha he
    obtain ⟨u, rfl, host, draws⟩ := h.atOnce a e ha he
    have undone : s.undo u = s.undo s := by rw [State.undo, host, draws]; rfl
    rw [TrapsAtOnce, run, finish_error, deliverRaise_uncommitted, deliverRaise_uncommitted, undone]

/-- An instruction that makes no access. -/
theorem FaultsFirst.of_none {i : Instr} (h : s.accesses i = []) : FaultsFirst i s := by
  rw [FaultsFirst, h]
  exact ⟨nofun, nofun⟩

section
variable {ρ : Type} {n k : Nat} {o : AluOp} {e : RM ρ} {x : Src ρ n} {y : Res State}

/-- An operation on a destination and a source that is not in memory. -/
theorem Follows.aluDest (w : o.writes = true) (r : s.sourceReads k x = [])
    (h : Follows s (s.readsOf k e ++ s.writesOf k e) y) : Follows s (s.aluAccesses k (o, e, x)) y := by
  rwa [State.aluAccesses, r, w, List.append_nil, if_pos rfl]

/-- A comparison of an operand with a source that is not in memory. -/
theorem Follows.aluTest (w : o.writes = false) (r : s.sourceReads k x = []) (h : Follows s (s.readsOf k e) y) :
    Follows s (s.aluAccesses k (o, e, x)) y := by
  rwa [State.aluAccesses, r, w, List.append_nil, if_neg nofun, List.append_nil]

/-- An operation on a register and a source. -/
theorem Follows.aluSource {g : ρ} (h : Follows s (s.sourceReads k x) y) :
    Follows s (s.aluAccesses k (o, .reg g, x)) y := by
  rwa [State.aluAccesses, State.writesOf, ite_self, List.append_nil]

/-- A move of what is not in memory. -/
theorem Follows.moveDest (r : s.sourceReads k x = []) (h : Follows s (s.writesOf k e) y) :
    Follows s (s.moveAccesses k (e, x)) y := by
  rwa [State.moveAccesses, r, List.nil_append]

/-- A move to a register. -/
theorem Follows.moveSource {g : ρ} (h : Follows s (s.sourceReads k x) y) :
    Follows s (s.moveAccesses k (.reg g, x)) y := by
  rwa [State.moveAccesses, State.writesOf, List.append_nil]

end

theorem accesses_alu16 {i : Instr} {x} (form : aluForm16 i = some x) : s.accesses i = s.aluAccesses 1 x := by
  cases i <;> cases form <;> exact accesses_at 0 12 rfl rfl

theorem accesses_alu8 {i : Instr} {x} (form : aluForm8 i = some x) : s.accesses i = s.aluAccesses 0 x := by
  cases i <;> cases form <;> exact accesses_at 1 11 rfl rfl

theorem accesses_unary16 {i : Instr} {x} (form : unaryForm16 i = some x) : s.accesses i = s.unaryAccesses 1 x := by
  cases i <;> cases form <;> exact accesses_at 2 10 rfl rfl

theorem accesses_unary8 {i : Instr} {x} (form : unaryForm8 i = some x) : s.accesses i = s.unaryAccesses 0 x := by
  cases i <;> cases form <;> exact accesses_at 3 9 rfl rfl

theorem accesses_shift16 {i : Instr} {x} (form : shiftForm16 i = some x) : s.accesses i = s.shiftAccesses 1 x := by
  cases i <;> cases form <;> exact accesses_at 4 8 rfl rfl

theorem accesses_shift8 {i : Instr} {x} (form : shiftForm8 i = some x) : s.accesses i = s.shiftAccesses 0 x := by
  cases i <;> cases form <;> exact accesses_at 5 7 rfl rfl

theorem accesses_move16 {i : Instr} {x} (form : moveForm16 i = some x) : s.accesses i = s.moveAccesses 1 x := by
  cases i <;> cases form <;> exact accesses_at 6 6 rfl rfl

theorem accesses_move8 {i : Instr} {x} (form : moveForm8 i = some x) : s.accesses i = s.moveAccesses 0 x := by
  cases i <;> cases form <;> exact accesses_at 7 5 rfl rfl

theorem accesses_exchange16 {i : Instr} {x} (form : exchangeForm16 i = some x) :
    s.accesses i = s.readsOf 1 x.1 ++ s.writesOf 1 x.1 := by
  cases i <;> cases form <;> exact accesses_at 8 4 rfl rfl

theorem aluForm16_faults {i : Instr} {x} (form : aluForm16 i = some x) : FaultsFirst i s := by
  have acc := accesses_alu16 (s := s) form
  cases i <;> cases form
  case addEwGw | addEwIw | addEwIbs | orEwGw | orEwIw | orEwIbs | adcEwGw | adcEwIw | adcEwIbs | sbbEwGw | sbbEwIw |
      sbbEwIbs | andEwGw | andEwIw | andEwIbs | subEwGw | subEwIw | subEwIbs | xorEwGw | xorEwIw | xorEwIbs =>
    exact .of_follows acc rfl (.aluDest rfl rfl (follows_binEw (fun _ _ _ => .quiet rfl) _ _))
  case addGwEw | orGwEw | adcGwEw | sbbGwEw | andGwEw | subGwEw | xorGwEw | cmpGwEw =>
    exact .of_follows acc rfl (.aluSource ((follows_readEw s _).bind _))
  case addAxIw | orAxIw | adcAxIw | sbbAxIw | andAxIw | subAxIw | xorAxIw | cmpAxIw | testAxIw => exact .of_none acc
  case cmpEwGw | cmpEwIw | cmpEwIbs | testEwGw | testEwIw | testEwIw1 =>
    exact .of_follows acc rfl (.aluTest rfl rfl ((follows_readEw s _).bind _))

theorem aluForm8_faults {i : Instr} {x} (form : aluForm8 i = some x) : FaultsFirst i s := by
  have acc := accesses_alu8 (s := s) form
  cases i <;> cases form
  case addEbGb | addEbIb | orEbGb | orEbIb | adcEbGb | adcEbIb | sbbEbGb | sbbEbIb | andEbGb | andEbIb | subEbGb |
      subEbIb | xorEbGb | xorEbIb =>
    exact .of_follows acc rfl (.aluDest rfl rfl (follows_binEb (fun _ _ _ => .quiet rfl) _ _))
  case addGbEb | orGbEb | adcGbEb | sbbGbEb | andGbEb | subGbEb | xorGbEb | cmpGbEb =>
    exact .of_follows acc rfl (.aluSource ((follows_readEb s _).bind _))
  case addAlIb | orAlIb | adcAlIb | sbbAlIb | andAlIb | subAlIb | xorAlIb | cmpAlIb | testAlIb => exact .of_none acc
  case cmpEbGb | cmpEbIb | testEbGb | testEbIb | testEbIb1 =>
    exact .of_follows acc rfl (.aluTest rfl rfl ((follows_readEb s _).bind _))

theorem unaryForm16_faults {i : Instr} {x} (form : unaryForm16 i = some x) : FaultsFirst i s := by
  have acc := accesses_unary16 (s := s) form
  cases i <;> cases form <;> exact .of_follows acc rfl (follows_unEw (fun _ _ => .quiet rfl) _)

theorem unaryForm8_faults {i : Instr} {x} (form : unaryForm8 i = some x) : FaultsFirst i s := by
  have acc := accesses_unary8 (s := s) form
  cases i <;> cases form <;> exact .of_follows acc rfl (follows_unEb (fun _ _ => .quiet rfl) _)

theorem shiftForm16_faults {i : Instr} {x} (form : shiftForm16 i = some x) : FaultsFirst i s := by
  have acc := accesses_shift16 (s := s) form
  cases i <;> cases form <;> exact .of_follows acc rfl (follows_shift16 _ (fun _ _ _ _ => .quiet rfl) _ _)

theorem shiftForm8_faults {i : Instr} {x} (form : shiftForm8 i = some x) : FaultsFirst i s := by
  have acc := accesses_shift8 (s := s) form
  cases i <;> cases form <;> exact .of_follows acc rfl (follows_shift8 _ (fun _ _ _ _ => .quiet rfl) _ _)

theorem follows_loadReg16 (g : Reg16) (e : RM Reg16) :
    Follows s (s.sourceReads 1 (.e e : Src Reg16 16)) (s.loadReg16 g e) :=
  (follows_readEw s e).bind _

theorem follows_loadReg8 (g : Reg8) (e : RM Reg8) :
    Follows s (s.sourceReads 0 (.e e : Src Reg8 8)) (s.loadReg8 g e) :=
  (follows_readEb s e).bind _

theorem moveForm16_faults {i : Instr} {x} (form : moveForm16 i = some x) : FaultsFirst i s := by
  have acc := accesses_move16 (s := s) form
  cases i <;> cases form
  case movGwEw | movAxOw => exact .of_follows acc rfl (.moveSource (follows_loadReg16 _ _))
  case movR16Iw => exact .of_none acc
  case movEwGw | movEwIw | movOwAx => exact .of_follows acc rfl (.moveDest rfl (follows_writeEw s _ _))

theorem moveForm8_faults {i : Instr} {x} (form : moveForm8 i = some x) : FaultsFirst i s := by
  have acc := accesses_move8 (s := s) form
  cases i <;> cases form
  case movGbEb | movAlOb => exact .of_follows acc rfl (.moveSource (follows_loadReg8 _ _))
  case movR8Ib => exact .of_none acc
  case movEbGb | movEbIb | movObAl => exact .of_follows acc rfl (.moveDest rfl (follows_writeEb s _ _))

theorem exchangeForm16_faults {i : Instr} {x} (form : exchangeForm16 i = some x) : FaultsFirst i s := by
  have acc := accesses_exchange16 (s := s) form
  cases i <;> cases form <;> exact .of_follows acc rfl (follows_xchg16 _ _)

/-- Every instruction, by the part its accesses are in. -/
theorem faultsFirst (i : Instr) (s : State) : FaultsFirst i s := by
  cases i
  case addEwGw | addEwIw | addEwIbs | orEwGw | orEwIw | orEwIbs | adcEwGw | adcEwIw | adcEwIbs | sbbEwGw | sbbEwIw |
      sbbEwIbs | andEwGw | andEwIw | andEwIbs | subEwGw | subEwIw | subEwIbs | xorEwGw | xorEwIw | xorEwIbs |
      addGwEw | orGwEw | adcGwEw | sbbGwEw | andGwEw | subGwEw | xorGwEw | addAxIw | orAxIw | adcAxIw | sbbAxIw |
      andAxIw | subAxIw | xorAxIw | cmpEwGw | cmpAxIw | cmpEwIw | cmpEwIbs | testEwGw | testAxIw | testEwIw |
      testEwIw1 | cmpGwEw =>
    exact aluForm16_faults rfl
  case addEbGb | addEbIb | orEbGb | orEbIb | adcEbGb | adcEbIb | sbbEbGb | sbbEbIb | andEbGb | andEbIb | subEbGb |
      subEbIb | xorEbGb | xorEbIb | addGbEb | orGbEb | adcGbEb | sbbGbEb | andGbEb | subGbEb | xorGbEb | addAlIb |
      orAlIb | adcAlIb | sbbAlIb | andAlIb | subAlIb | xorAlIb | cmpEbGb | cmpAlIb | cmpEbIb | testEbGb | testAlIb |
      testEbIb | testEbIb1 | cmpGbEb =>
    exact aluForm8_faults rfl
  case incR16 | decR16 | notEw | negEw | incEw | decEw => exact unaryForm16_faults rfl
  case notEb | negEb | incEb | decEb => exact unaryForm8_faults rfl
  case rolEwIb | rorEwIb | rclEwIb | rcrEwIb | rolEw1 | rorEw1 | rclEw1 | rcrEw1 | rolEwCl | rorEwCl | rclEwCl |
      rcrEwCl | shlEwIb | shrEwIb | sarEwIb | shlEw1 | shrEw1 | sarEw1 | shlEwCl | shrEwCl | sarEwCl =>
    exact shiftForm16_faults rfl
  case rolEbIb | rorEbIb | rclEbIb | rcrEbIb | rolEb1 | rorEb1 | rclEb1 | rcrEb1 | rolEbCl | rorEbCl | rclEbCl |
      rcrEbCl | shlEbIb | shrEbIb | sarEbIb | shlEb1 | shrEb1 | sarEb1 | shlEbCl | shrEbCl | sarEbCl =>
    exact shiftForm8_faults rfl
  case movEwGw | movGwEw | movR16Iw | movEwIw | movAxOw | movOwAx => exact moveForm16_faults rfl
  case movEbGb | movGbEb | movR8Ib | movEbIb | movAlOb | movObAl => exact moveForm8_faults rfl
  case xchgEwGw | xchgAxCx | xchgAxDx | xchgAxBx | xchgAxSp | xchgAxBp | xchgAxSi | xchgAxDi =>
    exact exchangeForm16_faults rfl
  case xchgEbGb => exact .of_follows (accesses_at 9 3 rfl rfl) rfl (follows_xchg8 _ _)
  case xlat => exact .of_follows (accesses_at 9 3 rfl rfl) rfl ((reads_segRead8 s _ _).toFollows.bind _)
  case mulEb | imulEb | divEb | idivEb =>
    exact .of_follows (accesses_at 9 3 rfl rfl) rfl ((follows_readEb s _).bind _)
  case mulEw | imulEw | divEw | idivEw | imulGwEwIw | imulGwEwIbs =>
    exact .of_follows (accesses_at 9 3 rfl rfl) rfl ((follows_readEw s _).bind _)
  case movEwSw | movEwSwHigh | smswEw =>
    exact .of_follows (accesses_at 9 3 rfl rfl) rfl (follows_writeEw s _ _)
  case pushR16 | pushIw | pushIbs | pushEs | pushCs | pushSs | pushDs | pushf =>
    exact .of_follows (accesses_at 10 2 rfl rfl) rfl (follows_push16 s _)
  case pushSp | pushSpFF => exact .of_follows (accesses_at 10 2 rfl rfl) rfl (follows_pushStackPtr s)
  case pushEw => exact .of_follows (accesses_at 10 2 rfl rfl) rfl (follows_pushOperand s _)
  case pusha => exact .of_follows (accesses_at 10 2 rfl rfl) rfl (follows_pushAllRegs s)
  case popR16 | popf | popCs => exact .of_follows (accesses_at 10 2 rfl rfl) rfl ((follows_pop16 s).bind _)
  case popEs | popSs | popDs => exact .of_follows (accesses_at 10 2 rfl rfl) rfl (follows_popSeg s _)
  case popEw => exact .of_follows (accesses_at 10 2 rfl rfl) rfl (follows_popOperand s _)
  case popa => exact .of_follows (accesses_at 10 2 rfl rfl) rfl (follows_popAllRegs s)
  case movSwEw | movSwEwHigh => exact .of_follows (accesses_at 10 2 rfl rfl) rfl (follows_moveSeg s _ _)
  case ldsGwMp | lesGwMp | boundGwMa =>
    exact .of_follows (accesses_at 10 2 rfl rfl) rfl ((reads_readPair s _).toFollows.bind _)
  case enterIwIb => exact .of_follows (accesses_at 10 2 rfl rfl) rfl (follows_enterFrame s _ _)
  case leave => exact .of_follows (accesses_at 10 2 rfl rfl) rfl (follows_leaveFrame s)
  case jmpEw => exact .of_follows (accesses_at 11 1 rfl rfl) rfl ((follows_readEw s _).bind _)
  case callEw => exact .of_follows (accesses_at 11 1 rfl rfl) rfl (follows_callOperand s _)
  case callJw => exact .of_follows (accesses_at 11 1 rfl rfl) rfl (follows_callNear s _)
  case jmpMp => exact .of_follows (accesses_at 11 1 rfl rfl) rfl (follows_farJumpOperand s _)
  case callMp => exact .of_follows (accesses_at 11 1 rfl rfl) rfl (follows_farCallOperand s _)
  case callAp => exact .of_follows (accesses_at 11 1 rfl rfl) rfl (follows_farCall s _ _)
  case iret => exact .of_follows (accesses_at 11 1 rfl rfl) rfl (follows_interruptReturn s)
  case ret | retC1 | retIw | retIwC0 =>
    exact .of_follows (accesses_at 11 1 rfl rfl) rfl ((follows_pop16 s).bind _)
  case retf | retfC9 | retfIw | retfIwC8 => exact .of_follows (accesses_at 11 1 rfl rfl) rfl (follows_farReturn s _)
  case sldtEw | strEw =>
    exact .of_follows (accesses_at 12 0 rfl rfl) rfl (follows_protected (follows_writeEw s _ _))
  case lldtEw | ltrEw =>
    exact .of_follows (accesses_at 12 0 rfl rfl) rfl (follows_protected_privileged ((follows_readEw s _).bind _))
  case verrEw | verwEw | larGwEw | lslGwEw =>
    exact .of_follows (accesses_at 12 0 rfl rfl) rfl (follows_protected ((follows_readEw s _).bind _))
  case arplEwGw => exact .of_follows (accesses_at 12 0 rfl rfl) rfl (follows_adjustRpl s _ _)
  case sgdtMs | sidtMs => exact .of_follows (accesses_at 12 0 rfl rfl) rfl (follows_storeTable s _ _)
  case lgdtMs | lidtMs =>
    exact .of_follows (accesses_at 12 0 rfl rfl) rfl (follows_privileged ((follows_readTable s _).bind _))
  case lmswEw =>
    exact .of_follows (accesses_at 12 0 rfl rfl) rfl (follows_privileged ((follows_readEw s _).bind _))
  case movsb => exact .of_follows (accesses_string rfl) rfl (follows_repeated _ _ fun _ => follows_movsB s)
  case movsw => exact .of_follows (accesses_string rfl) rfl (follows_repeated _ _ fun _ => follows_movsW s)
  case cmpsb => exact .of_follows (accesses_string rfl) rfl (follows_repeated _ _ fun _ => follows_cmpsB s)
  case cmpsw => exact .of_follows (accesses_string rfl) rfl (follows_repeated _ _ fun _ => follows_cmpsW s)
  case scasb | lodsb =>
    exact .of_follows (accesses_string rfl) rfl
      (follows_repeated _ _ fun _ => (reads_segRead8 s _ _).toFollows.bind _)
  case scasw | lodsw =>
    exact .of_follows (accesses_string rfl) rfl
      (follows_repeated _ _ fun _ => (reads_segRead16 s _ _).toFollows.bind _)
  case stosb =>
    exact .of_follows (accesses_string rfl) rfl (follows_repeated _ _ fun _ => (follows_segWrite8 s _ _ _).bind _)
  case stosw =>
    exact .of_follows (accesses_string rfl) rfl (follows_repeated _ _ fun _ => (follows_segWrite16 s _ _ _).bind _)
  case insb => exact .of_follows (accesses_string rfl) rfl (follows_repeated _ _ follows_insB)
  case insw => exact .of_follows (accesses_string rfl) rfl (follows_repeated _ _ follows_insW)
  case outsb => exact .of_follows (accesses_string rfl) rfl (follows_repeated _ _ follows_outsB)
  case outsw => exact .of_follows (accesses_string rfl) rfl (follows_repeated _ _ follows_outsW)
  -- The other instructions make no access, or only behind checks of descriptors.
  all_goals exact .of_none (accesses_at 0 12 rfl rfl)

/-- Settles O12, from the accesses that the body of each instruction follows. -/
theorem operandFaults : Obligations.OperandFaults :=
  ⟨fun s i => (faultsFirst i s).1, fun s i => (faultsFirst i s).2⟩

end Sys2Proof.Machine
end

section
/-! Real-mode loads of segment registers (20_memory.md R119). The obligation's frame for a load of CS says that an
unfinished repetition stays, and the flush of the queue (20 R160) flushes the queue the repetition keeps as well. -/

namespace Sys2Proof.Machine

/-- An unfinished repetition at offset 0, with an instruction that resumes at offset 1. -/
def pendingAtReset : RepeatPending :=
  { instr := .nop, startIp := 0, lastPrefixIp := 0, nextIp := 1, override := none, rep := .rep, lock := false,
    ahead := .emptyAt .m8086 0 }

/-- An 8086 after construction, with that repetition unfinished. -/
def interruptedRepeat : State :=
  { State.construct (Config.ofModel .m8086) with rep := some pendingAtReset }

/-- MOV CS,AX flushes what the repetition keeps of the queue. -/
theorem interruptedRepeat_movCs : ∃ t, exec (.movCsEw (.reg .ax)) interruptedRepeat = .next t ∧
    t.rep = some { pendingAtReset with ahead := pendingAtReset.ahead.flush 1 } := ⟨_, rfl, rfl⟩

/-- Refutes O22: MOV CS,AX on an 8086 with a repetition unfinished moves the next offset to prefetch that the
repetition keeps, where the frame says that the repetition stays as it was. -/
theorem not_segmentLoadsReal : ¬ Obligations.SegmentLoadsReal := by
  intro h
  obtain ⟨_, loads⟩ := h
  obtain ⟨_, _, _, movCs, _⟩ := loads interruptedRepeat rfl
  obtain ⟨onC86, _⟩ := movCs (.movCsEw (.reg .ax)) (.reg .ax) (.inl rfl) trivial
  obtain ⟨t, run, _, _, frame⟩ := onC86 rfl
  obtain ⟨u, run', flushed⟩ := interruptedRepeat_movCs
  obtain rfl : t = u := by
    rw [run] at run'
    cases run'
    rfl
  have moved : some { pendingAtReset with ahead := pendingAtReset.ahead.flush 1 } = some pendingAtReset :=
    flushed.symm.trans frame.rep
  have nextOffset : (1 : Word) = 0 := congrArg (·.ahead.nextOffset) (Option.some.inj moved)
  exact absurd nextOffset (by decide)

end Sys2Proof.Machine
end

section
/-! Protected-mode loads of DS, ES and SS (20_memory.md R120 to R127): what reading a descriptor and setting its
accessed bit leave, and the checks of a load one by one. -/

namespace Sys2Proof.Machine

variable {α β : Type} {s t : State} {sel : Word} {d : Desc}

/-! ## Descriptors -/

theorem touches_sysRead8 (s : State) (lin : BitVec 32) : Touches s (s.sysRead8 lin).2 [] [] := touches_busRead8 s _

/-- Eight reads, whatever a read does to the state. -/
theorem touches_readDesc (s : State) (lin : BitVec 32) : Touches s (s.readDesc lin).2 [] [] := by
  have read : ∀ {t l}, Touches s t [] [] → Touches s (t.sysRead8 l).2 [] [] := fun h => h.trans (touches_sysRead8 _ _)
  unfold State.readDesc
  generalize State.sysRead8 = r at *
  exact read (read (read (read (read (read (read (read (.refl s))))))))

theorem Touches.accessAddr {a : List Nat} (h : Touches s t [] a) (sel : Word) :
    t.accessAddr sel = s.accessAddr sel := by
  unfold State.accessAddr State.descAddr State.tableOf
  rw [h.phys, h.sys]

theorem touches_setAccessed (s : State) (sel : Word) (d : Desc) :
    Touches s (s.setAccessed sel d) [] [s.accessAddr sel] := by
  unfold State.setAccessed
  split
  · exact (Touches.refl s).mono (List.Subset.refl _) (List.nil_subset _)
  · exact touches_busWrite8 s _ _

theorem setsAccessed_setAccessed (s : State) (sel : Word) (d : Desc) :
    s.setsAccessed (s.setAccessed sel d) sel d := by
  intro ram clear
  rw [State.setAccessed, clear]
  exact holdsByte_busWrite8 s _ _ ram

theorem seg_setSeg_self (s : State) (r : SegReg) (c : SegCache) : (s.setSeg r c).seg r = c := by
  simp [State.seg]

/-- The load of a register from a descriptor that was read in `s`. -/
theorem setSeg_setAccessed (h : Touches s t [] []) (r : SegReg) (sel : Word) (d : Desc) :
    ((t.setAccessed sel d).setSeg r (d.cache sel)).seg r = d.cache sel ∧
      s.setsAccessed ((t.setAccessed sel d).setSeg r (d.cache sel)) sel d ∧
      ∀ a, a ≠ s.accessAddr sel →
        Memory.read ((t.setAccessed sel d).setSeg r (d.cache sel)).mem a = Memory.read s.mem a := by
  have touches := touches_setAccessed t sel d
  have sets := setsAccessed_setAccessed t sel d
  rw [h.accessAddr] at touches
  unfold State.setsAccessed at sets ⊢
  rw [h.accessAddr, h.kindAt] at sets
  refine ⟨seg_setSeg_self _ r _, sets, fun a ne => ?_⟩
  exact (touches.memory a (by simpa using ne)).trans (h.memory a nofun)

/-! ## Checks -/

theorem raises_raiseIf {c : Bool} (h : c = true) (s : State) (e : Exc) (f : Unit → Res β) :
    Raises (raiseIf c s e >>= f) e := by
  subst h
  exact ⟨s, rfl⟩

theorem raiseIf_bind {c : Bool} (h : c = false) (s : State) (e : Exc) (f : Unit → Res β) :
    raiseIf c s e >>= f = f () := by
  subst h
  rfl

theorem fetchDescOr_raises (h : s.inTable sel = false) (e : Exc) : Raises (s.fetchDescOr sel e) e :=
  raises_raiseIf (by rw [h]; rfl) s e _

theorem fetchDescOr_ok (h : s.inTable sel = true) (e : Exc) :
    ∃ t, s.fetchDescOr sel e = .ok (s.descOf sel, t) ∧ Touches s t [] [] := by
  have read := touches_readDesc s (s.descAddr sel)
  rw [State.fetchDescOr, raiseIf_bind (by rw [h]; rfl), State.descOf, State.descAt]
  generalize s.readDesc (s.descAddr sel) = x at *
  exact ⟨x.2, rfl, read⟩

theorem Touches.effPl (h : Touches s t [] []) (sel : Word) : t.effPl sel = s.effPl sel := by
  rw [State.effPl, h.sys]
  rfl

/-- The checks of a descriptor that was read: its type, its privilege and its presence, in this order. -/
def checked (t : State) (d : Desc) (type privilege : Bool) (bad absent : Exc) : Res (Desc × State) := do
  raiseIf type t bad
  raiseIf privilege t bad
  raiseIf (!d.present) t absent
  return (d, t)

section
variable {type privilege : Bool} (bad absent : Exc)

theorem checked_bad (t : State) (d : Desc) (h : type = true ∨ privilege = true) :
    Raises (checked t d type privilege bad absent) bad := by
  cases type with
  | true => exact raises_raiseIf rfl t bad _
  | false => exact raises_raiseIf (h.resolve_left nofun) t bad _

theorem checked_absent (t : State) (fits : type = false) (allowed : privilege = false) (h : d.present = false) :
    Raises (checked t d type privilege bad absent) absent := by
  subst fits allowed
  exact raises_raiseIf (by rw [h]; rfl) t absent _

theorem checked_ok (t : State) (fits : type = false) (allowed : privilege = false) (h : d.present = true) :
    checked t d type privilege bad absent = .ok (d, t) := by
  subst fits allowed
  exact raiseIf_bind (by rw [h]; rfl) t absent _

end

/-- The checks of DS and ES (R120). -/
theorem checkData_eq (inside : s.inTable sel = true) (outside bad absent : Exc) :
    ∃ t, Touches s t [] [] ∧ s.checkData sel outside bad absent =
      checked t (s.descOf sel) (!(s.descOf sel).readable)
        (!(s.descOf sel).conforming && decide ((s.descOf sel).dpl.toNat < s.effPl sel)) bad absent := by
  obtain ⟨t, fetched, touches⟩ := fetchDescOr_ok inside outside
  refine ⟨t, touches, ?_⟩
  rw [State.checkData, fetched, ok_bind, ← touches.effPl]
  rfl

/-- The checks of SS (R124). -/
theorem checkStack_eq (named : s.isNull sel = false) (inside : s.inTable sel = true) (level : BitVec 2)
    (null outside bad : Exc) :
    ∃ t, Touches s t [] [] ∧ s.checkStack sel level null outside bad =
      checked t (s.descOf sel) (!(s.descOf sel).writable) (rpl sel != level || (s.descOf sel).dpl != level) bad
        (.ss (errSel sel)) := by
  obtain ⟨t, fetched, touches⟩ := fetchDescOr_ok inside outside
  refine ⟨t, touches, ?_⟩
  rw [State.checkStack, raiseIf_bind named, fetched, ok_bind]
  rfl

/-! ## The loads -/

/-- The end of a load: the accessed bit and the cache (R127). -/
def State.putLoaded (r : SegReg) (sel : Word) (p : Desc × State) : Res State :=
  .ok ((p.2.setAccessed sel p.1).setSeg r (p.1.cache sel))

section
variable {r : SegReg} (pe : s.protectedMode = true) (data : r = .ds ∨ r = .es)
include pe data

theorem loadSeg_data_null (null : s.isNull sel = true) :
    s.loadSeg r sel = .ok (s.setSeg r ((s.seg r).nulled sel)) := by
  rcases data with rfl | rfl <;> simp only [State.loadSeg, pe, if_true, State.loadDataOr, null]

theorem loadSeg_data (named : s.isNull sel = false) : s.loadSeg r sel =
    (s.checkData sel (.gp (errSel sel)) (.gp (errSel sel)) (.np (errSel sel)) >>= State.putLoaded r sel) := by
  rcases data with rfl | rfl <;>
    simp only [State.loadSeg, pe, if_true, State.loadDataOr, named, Bool.false_eq_true, if_false] <;> rfl

end

theorem loadSeg_stack (pe : s.protectedMode = true) : s.loadSeg .ss sel =
    (s.checkStack sel s.sys.cpl (.np 0) (.gp (errSel sel)) (.gp (errSel sel)) >>= State.putLoaded .ss sel) := by
  simp only [State.loadSeg, pe, if_true]
  rfl

/-- Settles O23, by the checks of a load in their order. -/
theorem segmentLoadsProtected : Obligations.SegmentLoadsProtected := by
  intro s sel d pe hd
  refine ⟨fun r data => ⟨fun null => ?_, fun named outside => ?_, fun named inside => ?_⟩, fun null => ?_,
    fun named outside => ?_, fun named inside => ?_⟩
  · exact ⟨_, loadSeg_data_null pe data null, seg_setSeg_self s r _, rfl⟩
  · rw [loadSeg_data pe data named]
    exact ((fetchDescOr_raises outside _).bind _).bind _
  · obtain ⟨t, touches, checks⟩ := checkData_eq inside (.gp (errSel sel)) (.gp (errSel sel)) (.np (errSel sel))
    rw [loadSeg_data pe data named, checks, ← hd]
    refine ⟨fun bad => (checked_bad _ _ t _ ?_).bind _, fun readable privilege => ?_⟩
    · exact bad.imp (by simp [·]) fun ⟨data, low⟩ => by simp [data, low, State.effPl]
    · have fits : (!d.readable) = false := by rw [readable]; rfl
      have allowed : (!d.conforming && decide (d.dpl.toNat < s.effPl sel)) = false := by
        simpa [State.effPl, or_iff_not_imp_left] using privilege
      refine ⟨fun absent => (checked_absent _ _ t fits allowed absent).bind _, fun present => ?_⟩
      rw [checked_ok _ _ t fits allowed present]
      exact ⟨_, rfl, setSeg_setAccessed touches r sel _⟩
  · rw [loadSeg_stack pe]
    exact (raises_raiseIf null s _ _).bind _
  · rw [loadSeg_stack pe, State.checkStack, raiseIf_bind named]
    exact ((fetchDescOr_raises outside _).bind _).bind _
  · obtain ⟨t, touches, checks⟩ := checkStack_eq named inside s.sys.cpl (.np 0) (.gp (errSel sel)) (.gp (errSel sel))
    rw [loadSeg_stack pe, checks, ← hd]
    refine ⟨fun bad => (checked_bad _ _ t _ ?_).bind _, fun writable level dpl => ?_⟩
    · exact bad.imp (by simp [·]) (by simp)
    · have fits : (!d.writable) = false := by rw [writable]; rfl
      have allowed : (rpl sel != s.sys.cpl || d.dpl != s.sys.cpl) = false := by rw [level, dpl]; simp
      refine ⟨fun absent => (checked_absent _ _ t fits allowed absent).bind _, fun present => ?_⟩
      rw [checked_ok _ _ t fits allowed present]
      exact ⟨_, rfl, setSeg_setAccessed touches .ss sel _⟩

end Sys2Proof.Machine
end

section
/-! The decoder is total on six bytes (30_encoding.md R200, R274): each field takes at most a known number of the bytes
before it, and an instruction at most six. -/

namespace Sys2Proof.Machine

variable {α β : Type} {n m : Nat} {bs : List Byte} {x : Dec α}

/-- A field of at most `n` bytes is read from the front of the bytes. -/
def Takes (n : Nat) (bs : List Byte) (x : Dec α) : Prop := ∃ a k, k ≤ n ∧ x = .ok (a, bs.drop k)

/-- Where there are `n` bytes, the field takes at most those. -/
def Fits (n : Nat) (p : List Byte → Dec α) : Prop := ∀ bs, n ≤ bs.length → Takes n bs (p bs)

theorem takes_ok (n : Nat) (a : α) (bs : List Byte) : Takes n bs (.ok (a, bs)) := ⟨a, 0, Nat.zero_le n, rfl⟩

theorem Takes.mono (h : Takes m bs x) (le : m ≤ n) : Takes n bs x := by
  obtain ⟨a, k, hk, e⟩ := h
  exact ⟨a, k, hk.trans le, e⟩

theorem Takes.map (h : Takes n bs x) (f : α → β) : Takes n bs (Dec.map f x) := by
  obtain ⟨a, k, hk, rfl⟩ := h
  exact ⟨f a, k, hk, rfl⟩

theorem takes_imm8 (h : n ≤ bs.length) (room : 1 ≤ n) : Takes n bs (imm8 bs) := by
  match bs with
  | b :: bs => exact ⟨b, 1, room, rfl⟩
  | [] => exact absurd (room.trans h) (by decide)

theorem takes_imm16 (h : n ≤ bs.length) (room : 2 ≤ n) : Takes n bs (imm16 bs) := by
  match bs with
  | lo :: hi :: bs => exact ⟨mkWord lo hi, 2, room, rfl⟩
  | [b] => exact absurd (room.trans h) (Nat.not_succ_le_self 1)
  | [] => exact absurd (room.trans h) (by decide)

/-- A field after another. -/
theorem Takes.then {y : Dec β} {p : α → List Byte → Dec β} (h : Takes m bs x) (len : m + n ≤ bs.length)
    (hy : ∀ a k, x = .ok (a, bs.drop k) → y = p a (bs.drop k)) (hp : ∀ a, Fits n (p a)) : Takes (m + n) bs y := by
  obtain ⟨a, k, hk, e⟩ := h
  obtain ⟨b, j, hj, e'⟩ := hp a (bs.drop k) (by rw [List.length_drop]; omega)
  exact ⟨b, k + j, Nat.add_le_add hk hj, by rw [hy a k e, e', List.drop_drop]⟩

theorem takes_imm16x2 (h : 4 ≤ bs.length) : Takes 4 bs (imm16x2 bs) :=
  (takes_imm16 (n := 2) (by omega) (Nat.le_refl 2)).then (p := fun a bs => Dec.map (fun b => (a, b)) (imm16 bs)) h
    (fun a k e => by rw [imm16x2, e]) fun a bs len => (takes_imm16 len (Nat.le_refl 2)).map _

theorem takes_imm16imm8 (h : 3 ≤ bs.length) : Takes 3 bs (imm16imm8 bs) :=
  (takes_imm16 (n := 2) (by omega) (Nat.le_refl 2)).then (p := fun a bs => Dec.map (fun b => (a, b)) (imm8 bs)) h
    (fun a k e => by rw [imm16imm8, e]) fun a bs len => (takes_imm8 len (Nat.le_refl 1)).map _

theorem fits_decodeRM (b : Byte) : Fits 2 (decodeRM b) := by
  intro bs h
  unfold decodeRM
  split
  · split
    · exact (takes_imm16 h (Nat.le_refl 2)).map _
    · exact takes_ok 2 _ bs
  · exact (takes_imm8 h (by decide)).map _
  · exact (takes_imm16 h (Nat.le_refl 2)).map _
  · exact takes_ok 2 _ bs

theorem takes_modrm (h : 3 ≤ bs.length) : Takes 3 bs (modrm bs) := by
  match bs with
  | b :: bs =>
    obtain ⟨e, k, hk, read⟩ := fits_decodeRM b bs (Nat.le_of_succ_le_succ h)
    exact ⟨(regField b, e), k + 1, Nat.succ_le_succ hk, by rw [modrm, read]; rfl⟩
  | [] => exact absurd h (by decide)

/-! ## Forms and groups -/

section
variable (h : n ≤ bs.length)
include h

theorem takes_map_imm8 (room : 1 ≤ n) (f : Byte → β) : Takes n bs (Dec.map f (imm8 bs)) := (takes_imm8 h room).map f

theorem takes_map_imm16 (room : 2 ≤ n) (f : Word → β) : Takes n bs (Dec.map f (imm16 bs)) :=
  (takes_imm16 h room).map f

theorem takes_map_imm16x2 (room : 4 ≤ n) (f : Word × Word → β) : Takes n bs (Dec.map f (imm16x2 bs)) :=
  ((takes_imm16x2 (room.trans h)).mono room).map f

theorem takes_map_imm16imm8 (room : 3 ≤ n) (f : Word × Byte → β) : Takes n bs (Dec.map f (imm16imm8 bs)) :=
  ((takes_imm16imm8 (room.trans h)).mono room).map f

theorem takes_formEbGb (room : 3 ≤ n) (c : RM Reg8 → Reg8 → Instr) : Takes n bs (formEbGb c bs) :=
  ((takes_modrm (room.trans h)).mono room).map _

theorem takes_formEwGw (room : 3 ≤ n) (c : RM Reg16 → Reg16 → Instr) : Takes n bs (formEwGw c bs) :=
  ((takes_modrm (room.trans h)).mono room).map _

theorem takes_formMGw (room : 3 ≤ n) (cls : CpuClass) (c : MemRef → Reg16 → Instr) : Takes n bs (formMGw cls c bs) :=
  ((takes_modrm (room.trans h)).mono room).map _

/-- An immediate of at most two bytes after the E operand. -/
theorem takes_formEwGwImm {imm : List Byte → Dec α} (room : 5 ≤ n) (fits : Fits 2 imm)
    (c : RM Reg16 → Reg16 → α → Instr) : Takes n bs (formEwGwImm c imm bs) :=
  ((takes_modrm (by omega)).then (n := 2) (p := fun a bs => Dec.map (c (a.2.map .ofBits) (.ofBits a.1)) (imm bs))
    (room.trans h) (fun a k e => by rw [formEwGwImm, e]) fun a bs len => (fits bs len).map _).mono room

/-- A group, with what its instructions take after the E operand. -/
theorem takes_group (room : 3 + m ≤ n) {sel : BitVec 3 → RM (BitVec 3) → List Byte → Dec Instr}
    (fits : ∀ k e, Fits m (sel k e)) : Takes n bs (group sel bs) :=
  ((takes_modrm (by omega)).then (p := fun a bs => sel a.1 a.2 bs) (room.trans h)
    (fun a k e => by rw [group, e]) fun a => fits a.1 a.2).mono room

end

theorem takes_group_five (h : 5 ≤ bs.length) {sel : BitVec 3 → RM (BitVec 3) → List Byte → Dec Instr}
    (fits : ∀ k e, Fits 2 (sel k e)) : Takes 5 bs (group sel bs) := takes_group h (Nat.le_refl 5) fits

theorem fits_imm8 : Fits 2 imm8 := fun _ h => takes_imm8 h (by decide)

theorem fits_imm16 : Fits 2 imm16 := fun _ h => takes_imm16 h (by decide)

section
variable (cls : CpuClass) (k : BitVec 3) (e : RM (BitVec 3))

theorem fits_group80 : Fits 2 (group80 cls k e) := by
  intro bs h
  unfold group80
  split <;> exact takes_map_imm8 h (by decide) _

theorem fits_group81 : Fits 2 (group81 cls k e) := by
  intro bs h
  unfold group81
  split <;> exact takes_map_imm16 h (by decide) _

theorem fits_group82 : Fits 2 (group82 cls k e) := by
  intro bs h
  unfold group82
  split <;> exact takes_map_imm8 h (by decide) _

theorem fits_group83 : Fits 2 (group83 cls k e) := by
  intro bs h
  unfold group83
  split <;> exact takes_map_imm8 h (by decide) _

theorem fits_group8C : Fits 2 (group8C cls k e) := by
  intro bs _
  unfold group8C
  repeat' split
  all_goals exact takes_ok 2 _ bs

theorem fits_group8E : Fits 2 (group8E cls k e) := by
  intro bs _
  unfold group8E
  repeat' split
  all_goals exact takes_ok 2 _ bs

theorem fits_group8F : Fits 2 (group8F cls k e) := by
  intro bs _
  unfold group8F
  split <;> exact takes_ok 2 _ bs

theorem fits_groupC0 : Fits 2 (groupC0 cls k e) := by
  intro bs h
  unfold groupC0
  split <;> simp (disch := omega) only [takes_ok, takes_map_imm8]

theorem fits_groupC1 : Fits 2 (groupC1 cls k e) := by
  intro bs h
  unfold groupC1
  split <;> simp (disch := omega) only [takes_ok, takes_map_imm8]

theorem fits_groupC6 : Fits 2 (groupC6 cls k e) := by
  intro bs h
  unfold groupC6
  split <;> simp (disch := omega) only [takes_ok, takes_map_imm8]

theorem fits_groupC7 : Fits 2 (groupC7 cls k e) := by
  intro bs h
  unfold groupC7
  split <;> simp (disch := omega) only [takes_ok, takes_map_imm16]

theorem fits_groupD0 : Fits 2 (groupD0 cls k e) := by
  intro bs _
  unfold groupD0
  split <;> exact takes_ok 2 _ bs

theorem fits_groupD1 : Fits 2 (groupD1 cls k e) := by
  intro bs _
  unfold groupD1
  split <;> exact takes_ok 2 _ bs

theorem fits_groupD2 : Fits 2 (groupD2 cls k e) := by
  intro bs _
  unfold groupD2
  split <;> exact takes_ok 2 _ bs

theorem fits_groupD3 : Fits 2 (groupD3 cls k e) := by
  intro bs _
  unfold groupD3
  split <;> exact takes_ok 2 _ bs

theorem fits_groupF6 : Fits 2 (groupF6 cls k e) := by
  intro bs h
  unfold groupF6
  repeat' split
  all_goals simp (disch := omega) only [takes_ok, takes_map_imm8]

theorem fits_groupF7 : Fits 2 (groupF7 cls k e) := by
  intro bs h
  unfold groupF7
  repeat' split
  all_goals simp (disch := omega) only [takes_ok, takes_map_imm16]

theorem fits_groupFE : Fits 2 (groupFE cls k e) := by
  intro bs _
  unfold groupFE
  split <;> exact takes_ok 2 _ bs

theorem fits_groupFF : Fits 2 (groupFF cls k e) := by
  intro bs _
  unfold groupFF
  repeat' split
  all_goals exact takes_ok 2 _ bs

theorem fits_group0F00 : Fits 0 (group0F00 k e) := by
  intro bs _
  unfold group0F00
  split <;> exact takes_ok 0 _ bs

theorem fits_group0F01 : Fits 0 (group0F01 k e) := by
  intro bs _
  unfold group0F01
  split <;> exact takes_ok 0 _ bs

end

/-! ## The opcode map (30 R230) -/

theorem Takes.cons (h : Takes n bs x) (b : Byte) : Takes (n + 1) (b :: bs) x := by
  obtain ⟨a, k, hk, rfl⟩ := h
  exact ⟨a, k + 1, Nat.succ_le_succ hk, rfl⟩

/-- The 0F map of C286 (30 R257). -/
theorem takes_decodeExt (h : 5 ≤ bs.length) : Takes 5 bs (decodeExt bs) := by
  match bs with
  | op :: bs =>
    have len : 4 ≤ bs.length := Nat.le_of_succ_le_succ h
    refine .cons ?_ op
    rw [decodeExt]
    split
    · exact takes_group len (by decide) fits_group0F00
    · exact takes_group len (by decide) fits_group0F01
    · exact takes_formEwGw len (by decide) _
    · exact takes_formEwGw len (by decide) _
    · exact takes_ok 4 _ bs
    · exact takes_ok 4 _ bs
    · exact takes_ok 4 _ bs

theorem fits_decode0 (cls : CpuClass) (lo : Nat) : Fits 5 (decode0 cls lo) := by
  intro bs h
  unfold decode0
  repeat' split
  all_goals simp (disch := omega) only [takes_ok, takes_decodeExt, takes_map_imm8, takes_map_imm16, takes_formEbGb,
    takes_formEwGw]

theorem fits_decode1 (cls : CpuClass) (lo : Nat) : Fits 5 (decode1 cls lo) := by
  intro bs h
  unfold decode1
  repeat' split
  all_goals simp (disch := omega) only [takes_ok, takes_map_imm8, takes_map_imm16, takes_formEbGb, takes_formEwGw]

theorem fits_decode2 (cls : CpuClass) (lo : Nat) : Fits 5 (decode2 cls lo) := by
  intro bs h
  unfold decode2
  repeat' split
  all_goals simp (disch := omega) only [takes_ok, takes_map_imm8, takes_map_imm16, takes_formEbGb, takes_formEwGw]

theorem fits_decode3 (cls : CpuClass) (lo : Nat) : Fits 5 (decode3 cls lo) := by
  intro bs h
  unfold decode3
  repeat' split
  all_goals simp (disch := omega) only [takes_ok, takes_map_imm8, takes_map_imm16, takes_formEbGb, takes_formEwGw]

theorem fits_decode4 (cls : CpuClass) (lo : Nat) : Fits 5 (decode4 cls lo) := by
  intro bs h
  unfold decode4
  repeat' split
  all_goals exact takes_ok 5 _ bs

theorem fits_decode5 (cls : CpuClass) (lo : Nat) : Fits 5 (decode5 cls lo) := by
  intro bs h
  unfold decode5
  repeat' split
  all_goals exact takes_ok 5 _ bs

theorem fits_decode6 (cls : CpuClass) (lo : Nat) : Fits 5 (decode6 cls lo) := by
  intro bs h
  unfold decode6
  repeat' split
  all_goals simp (disch := omega) only [takes_ok, takes_map_imm8, takes_map_imm16, takes_formEwGw, takes_formMGw,
    takes_formEwGwImm h (Nat.le_refl 5) fits_imm8, takes_formEwGwImm h (Nat.le_refl 5) fits_imm16]

theorem fits_decode7 (cls : CpuClass) (lo : Nat) : Fits 5 (decode7 cls lo) := by
  intro bs h
  unfold decode7
  repeat' split
  all_goals simp (disch := omega) only [takes_map_imm8]

theorem fits_decode8 (cls : CpuClass) (lo : Nat) : Fits 5 (decode8 cls lo) := by
  intro bs h
  unfold decode8
  repeat' split
  all_goals simp (disch := omega) only [takes_formEbGb, takes_formEwGw, takes_formMGw, takes_group_five h
    (fits_group80 _), takes_group_five h (fits_group81 _), takes_group_five h (fits_group82 _), takes_group_five h
    (fits_group83 _), takes_group_five h (fits_group8C _), takes_group_five h (fits_group8E _), takes_group_five h
    (fits_group8F _)]

theorem fits_decode9 (cls : CpuClass) (lo : Nat) : Fits 5 (decode9 cls lo) := by
  intro bs h
  unfold decode9
  repeat' split
  all_goals simp (disch := omega) only [takes_ok, takes_map_imm16x2]

theorem fits_decodeA (cls : CpuClass) (lo : Nat) : Fits 5 (decodeA cls lo) := by
  intro bs h
  unfold decodeA
  repeat' split
  all_goals simp (disch := omega) only [takes_ok, takes_map_imm8, takes_map_imm16]

theorem fits_decodeB (cls : CpuClass) (lo : Nat) : Fits 5 (decodeB cls lo) := by
  intro bs h
  unfold decodeB
  repeat' split
  all_goals simp (disch := omega) only [takes_map_imm8, takes_map_imm16]

theorem fits_decodeC (cls : CpuClass) (lo : Nat) : Fits 5 (decodeC cls lo) := by
  intro bs h
  unfold decodeC
  repeat' split
  all_goals simp (disch := omega) only [takes_ok, takes_map_imm8, takes_map_imm16, takes_map_imm16imm8, takes_formMGw,
    takes_group_five h (fits_groupC0 _), takes_group_five h (fits_groupC1 _), takes_group_five h (fits_groupC6 _),
    takes_group_five h (fits_groupC7 _)]

theorem fits_decodeD (cls : CpuClass) (lo : Nat) : Fits 5 (decodeD cls lo) := by
  intro bs h
  unfold decodeD
  repeat' split
  all_goals simp (disch := omega) only [takes_ok, takes_map_imm8, takes_group_five h (fits_groupD0 _),
    takes_group_five h (fits_groupD1 _), takes_group_five h (fits_groupD2 _), takes_group_five h (fits_groupD3 _),
    takes_group_five h fun k e bs _ => takes_ok 2 _ bs]

theorem fits_decodeE (cls : CpuClass) (lo : Nat) : Fits 5 (decodeE cls lo) := by
  intro bs h
  unfold decodeE
  repeat' split
  all_goals simp (disch := omega) only [takes_ok, takes_map_imm8, takes_map_imm16, takes_map_imm16x2]

theorem fits_decodeF (cls : CpuClass) (lo : Nat) : Fits 5 (decodeF cls lo) := by
  intro bs h
  unfold decodeF
  repeat' split
  all_goals simp (disch := omega) only [takes_ok, takes_group_five h (fits_groupF6 _), takes_group_five h
    (fits_groupF7 _), takes_group_five h (fits_groupFE _), takes_group_five h (fits_groupFF _)]

/-- An instruction takes at least one byte and at most six. -/
theorem decode_total (cls : CpuClass) (h : 6 ≤ bs.length) :
    ∃ i rest, decode cls bs = .ok (i, rest) ∧ rest.length < bs.length ∧ bs.length ≤ rest.length + 6 := by
  match bs with
  | op :: bs =>
    have len : 5 ≤ bs.length := Nat.le_of_succ_le_succ h
    obtain ⟨i, k, hk, read⟩ : Takes 5 bs (decode cls (op :: bs)) := by
      rw [decode]
      split
      · exact fits_decode0 cls _ bs len
      · exact fits_decode1 cls _ bs len
      · exact fits_decode2 cls _ bs len
      · exact fits_decode3 cls _ bs len
      · exact fits_decode4 cls _ bs len
      · exact fits_decode5 cls _ bs len
      · exact fits_decode6 cls _ bs len
      · exact fits_decode7 cls _ bs len
      · exact fits_decode8 cls _ bs len
      · exact fits_decode9 cls _ bs len
      · exact fits_decodeA cls _ bs len
      · exact fits_decodeB cls _ bs len
      · exact fits_decodeC cls _ bs len
      · exact fits_decodeD cls _ bs len
      · exact fits_decodeE cls _ bs len
      · exact fits_decodeF cls _ bs len
    refine ⟨i, bs.drop k, read, ?_, ?_⟩ <;> rw [List.length_drop, List.length_cons] <;> omega

end Sys2Proof.Machine
end

section
/-! Fetching (20_memory.md R141 to R160, 30_encoding.md R203): the bytes decoded, the calls of a fetch, and what
consuming a byte raises. -/

namespace Sys2Proof.Machine

variable {s t : State} {i : Instr} {rest : List Byte} {k n : Nat} {e : Exc}

/-! ## The bytes decoded (20 R150) -/

theorem staleByte_coherent (h : s.cfg.coherence = .coherent) (k : Nat) : s.staleByte k = none := by
  rw [State.staleByte, h]
  rfl

theorem fetchByte_coherent (h : s.cfg.coherence = .coherent) (k : Nat) :
    s.fetchByte k = s.codeByte k (s.segAddr .cs (s.fetchOff k)) := by
  rw [State.fetchByte, staleByte_coherent h, Option.getD_none]

theorem codeByte_plain {p : Nat} (h : s.kindAt p = .ram ∨ s.kindAt p = .rom) (k : Nat) :
    s.codeByte k p = Memory.read s.mem p := by
  rcases h with h | h <;> rw [State.codeByte, h]

theorem fetchWindow_getElem? (h : k < 6) : s.fetchWindow[k]? = some (s.fetchByte k) := by
  rw [State.fetchWindow, List.getElem?_map, bodyBytes, List.getElem?_range h, Option.map_some]

theorem fetchWindow_length (s : State) : s.fetchWindow.length = 6 := rfl

theorem fetchWindow_withQueue (h : s.cfg.coherence = .coherent) (q : Prefetch) :
    ({ s with queue := q } : State).fetchWindow = s.fetchWindow := by
  refine List.map_congr_left fun k _ => ?_
  rw [fetchByte_coherent h, fetchByte_coherent (s := { s with queue := q }) h]
  rfl

/-! ## The calls of a fetch (20 R145) -/

theorem foldl_note (l : List Nat) (event : Nat → BusEvent) (s : State) :
    l.foldl (fun t k => t.note (event k)) s =
      { s with host := { s.host with calls := (l.map event).reverse ++ s.host.calls } } := by
  induction l generalizing s with
  | nil => rfl
  | cons k l ih => rw [List.foldl_cons, ih, List.map_cons, List.reverse_cons, List.append_assoc]; rfl

theorem drawnFetch_host (s : State) : s.drawnFetch.host = s.host := by
  unfold State.drawnFetch
  split <;> rfl

theorem fetchesDevice_eq (s : State) (k : Nat) : s.fetchesDevice k =
    decide (s.kindAt (s.segAddr .cs (s.fetchOff k)) ≠ .ram ∧ s.kindAt (s.segAddr .cs (s.fetchOff k)) ≠ .rom ∧
      s.kindAt (s.segAddr .cs (s.fetchOff k)) ≠ .unmapped) := by
  unfold State.fetchesDevice
  cases s.kindAt (s.segAddr .cs (s.fetchOff k)) <;> simp

/-- With the queue disabled each byte consumed from a device block is read once, in order. -/
theorem fetchAdvance_host (h : s.cfg.prefetchEnabled = false) (n : Nat) :
    (s.fetchAdvance n).host = { s.host with calls :=
      (((List.range n).map fun k => s.segAddr .cs (s.fetchOff k)).filter fun p =>
        decide (s.kindAt p ≠ .ram ∧ s.kindAt p ≠ .rom ∧ s.kindAt p ≠ .unmapped)).reverse.map (.deviceRead · 1) ++
      s.host.calls } := by
  have reads : s.fetchReads n = List.range n := by rw [State.fetchReads, h]; rfl
  have noted := foldl_note ((s.fetchReads n).filter s.fetchesDevice)
    (fun k => .deviceRead (s.segAddr .cs (s.fetchOff k)) 1) s
  have cfg : (s.noteFetch n).cfg.prefetchEnabled = false := by rw [State.noteFetch, noted]; exact h
  have advanced : (s.fetchAdvance n).host = (s.noteFetch n).host := by
    rw [State.fetchAdvance, drawnFetch_host, State.queueAfter, cfg]
    rfl
  rw [advanced, State.noteFetch, noted, reads, List.filter_map, List.map_reverse, List.map_map,
    funext (fetchesDevice_eq s)]
  rfl

/-! ## What consuming a byte raises (20 R143, 30 R203) -/

theorem fetchFault_limit (h : ¬s.inLimit k) : s.fetchFault k = some (.gp 0) := by
  simp only [State.inLimit, Classical.not_imp, Nat.not_le] at h
  simp only [State.fetchFault, State.fetchOff, h.1, h.2, decide_true, Bool.and_true, if_true]

theorem fetchFault_within (h : s.inLimit k) : s.fetchFault k =
    if s.cls = .c286 ∧ 10 ≤ (s.fetchOff k - s.scratch.startIp).toNat then some .ud else none := by
  have within : (s.protectedMode && decide ((s.seg .cs).limit.toNat < (s.fetchOff k).toNat)) = false := by
    simpa [State.inLimit, State.fetchOff] using h
  simp only [State.fetchFault, within, Bool.false_eq_true, if_false, Bool.and_eq_true, beq_iff_eq, decide_eq_true_eq]

theorem fetchFault_length (within : s.inLimit k) (h : ¬s.inLength k) : s.fetchFault k = some .ud := by
  rw [fetchFault_within within, if_pos]
  simpa [State.inLength, State.fetchOff] using h

theorem fetchFault_none (within : s.inLimit k) (h : s.inLength k) : s.fetchFault k = none := by
  rw [fetchFault_within within, if_neg]
  simpa [State.inLength, State.fetchOff] using h

/-- The first byte that raises. -/
theorem fetchRaises_first (before : ∀ j < k, s.fetchFault j = none) (here : s.fetchFault k = some e) (lt : k < n) :
    s.fetchRaises n = some e := by
  obtain ⟨m, rfl⟩ := Nat.exists_eq_add_of_lt lt
  rw [State.fetchRaises, List.findSome?_eq_some_iff]
  refine ⟨List.range k, k, (List.range m).map (k + 1 + ·), ?_, here, fun j hj => before j (List.mem_range.mp hj)⟩
  rw [Nat.add_assoc, Nat.add_comm m, ← Nat.add_assoc, List.range_add, List.range_succ, List.append_assoc,
    List.singleton_append]

theorem noteFetch_host (s : State) (n : Nat) :
    (s.noteFetch n).host = { s.host with calls := (s.noteFetch n).host.calls } := by
  rw [State.noteFetch, foldl_note]

theorem fetchInstr_raised (decoded : decode s.cls s.fetchWindow = .ok (i, rest))
    (raises : s.fetchRaises (6 - rest.length) = some e) :
    ∃ u : State, s.fetchInstr = .raised { exc := e, seen := u, committed := false } ∧
      u.host = { s.host with calls := u.host.calls } := by
  unfold State.fetchInstr
  rw [decoded]
  dsimp only [bodyBytes]
  rw [raises]
  refine ⟨_, rfl, ?_⟩
  rw [drawnFetch_host]
  exact noteFetch_host s _

/-- A fetch that raises: the exception is taken with the first byte's offset as the saved IP, and but for calls and
draws nothing has happened. -/
theorem fetchExec_raised (decoded : decode s.cls s.fetchWindow = .ok (i, rest))
    (raises : s.fetchRaises (6 - rest.length) = some e) (saved : s.savedIp e = s.scratch.startIp) (m : Nat) :
    ∃ c d, State.fetchExec (m + 1) s = .next
      { ({ s with host := { s.host with calls := c }, draws := d } : State).takeException s.scratch.startIp e with
        handlerEntry := true } := by
  obtain ⟨u, fetched, host⟩ := fetchInstr_raised decoded raises
  refine ⟨u.host.calls, u.draws, ?_⟩
  rw [State.fetchExec, fetched]
  dsimp only
  rw [deliverRaise_uncommitted, State.undo, saved, ← host]

theorem savedIp_of_ne (h : e ≠ .de) : s.savedIp e = s.scratch.startIp := by
  unfold State.savedIp
  split
  · exact absurd rfl h
  · exact absurd rfl h
  · rfl

/-! ## A calm boundary (60 R900) -/

/-- The state an instruction is fetched in, after a boundary at which nothing was pending. -/
def State.fetching (s : State) : State :=
  { s with handlerEntry := false, nointr := false, scratch := .atBoundary s.ip }

theorem returnNotify_nil (h : s.host.returnNotify = []) : s.returnNotify = s := by
  rw [State.returnNotify, h]
  rfl

/-- With no event taken and no repetition unfinished, the instruction at CS:IP is fetched. -/
theorem afterEvents_fetches (run : s.status = .run) (awake : s.intFlags.halt = false) (noRep : s.rep = none) :
    State.afterEvents false s =
      State.fetchExec prefixFuel { s with nointr := false, scratch := .atBoundary s.ip } := by
  rw [State.afterEvents, run, awake, State.dispatch, noRep]
  rfl

theorem step_undisturbed (calm : s.undisturbed) (noRep : s.rep = none) :
    step s = State.handlers handlerFuel (State.fetchExec prefixFuel s.fetching) := by
  obtain ⟨run, notify, flags⟩ := calm
  have flags' : s.settled.boundaryScratch.intFlags = _ := flags
  have events : s.settled.boundaryScratch.checkEvents = (false, s.settled.boundaryScratch) := by
    rw [State.checkEvents, State.anyPending, flags']
    rfl
  have boundary : s.settled.boundary = State.fetchExec prefixFuel s.fetching := by
    rw [State.boundary, returnNotify_nil (s := s.settled) notify, events]
    have fetches := afterEvents_fetches (s := s.settled.boundaryScratch) run (by rw [flags']) noRep
    dsimp only
    rw [show s.settled.status = .run from run]
    exact fetches
  rw [step, run, ← boundary]
  rfl

theorem fetching_fetchWindow (s : State) : s.fetching.fetchWindow = s.fetchWindow := rfl

theorem inLength_of_startIp (start : s.scratch.startIp = s.ip) (h : k < 10) : s.inLength k := by
  intro _
  rw [start]
  bv_omega

/-- A byte of the first instruction after a calm boundary that lies beyond CS.limit. -/
theorem step_beyond_limit (calm : s.undisturbed) (noRep : s.rep = none)
    (decoded : decode s.cls s.fetchWindow = .ok (i, rest)) (lt : k < 6 - rest.length) (beyond : ¬s.inLimit k) :
    ∃ c d v,
      v = { s with
        handlerEntry := false, nointr := false, scratch := .atBoundary s.ip
        host := { s.host with calls := c }, draws := d } ∧
      step s = State.handlers handlerFuel (.next { v.takeException s.ip (.gp 0) with handlerEntry := true }) := by
  classical
  have past : ∃ k, ¬s.fetching.inLimit k := ⟨k, beyond⟩
  have first := Nat.find_spec past
  have le : Nat.find past ≤ k := Nat.find_min' past beyond
  have before : ∀ j < Nat.find past, s.fetching.fetchFault j = none := fun j hj =>
    fetchFault_none (not_not.mp (Nat.find_min past hj)) (inLength_of_startIp rfl (by omega))
  obtain ⟨c, d, run⟩ := fetchExec_raised (s := s.fetching) decoded
    (fetchRaises_first before (fetchFault_limit first) (le.trans_lt lt)) (savedIp_of_ne nofun) 65536
  exact ⟨c, d, _, rfl, (step_undisturbed calm noRep).trans (congrArg _ run)⟩

/-! ## Prefix bytes (30 R201, R203) -/

/-- `t` is `s` but for the queue. -/
def OnlyQueue (s t : State) : Prop := t = { s with queue := t.queue }

theorem OnlyQueue.trans {u : State} (h : OnlyQueue s t) (k : OnlyQueue t u) : OnlyQueue s u := by
  rw [OnlyQueue, k, h]

theorem onlyQueue_fillQueue (n : Nat) (s : State) : OnlyQueue s (State.fillQueue n s) := by
  induction n generalizing s with
  | zero => rfl
  | succ n ih =>
    unfold State.fillQueue
    split
    · exact .trans (t := s.prefetchOne) rfl (ih _)
    · rfl

theorem onlyQueue_consumeOne (s : State) : OnlyQueue s s.consumeOne := by
  unfold State.consumeOne
  split <;> rfl

theorem onlyQueue_consume (n : Nat) (s : State) : OnlyQueue s (State.consume n s) := by
  induction n generalizing s with
  | zero => rfl
  | succ n ih => exact (onlyQueue_consumeOne s).trans (ih _)

theorem onlyQueue_refill (s : State) : OnlyQueue s s.refill := by
  have reread : OnlyQueue s s.reread := by unfold State.reread; split <;> rfl
  have latch : ∀ t : State, OnlyQueue t t.latchNext := fun t => by unfold State.latchNext; split <;> rfl
  exact (reread.trans (onlyQueue_fillQueue _ _)).trans (latch _)

theorem onlyQueue_queueAfter (s : State) (n : Nat) : OnlyQueue s (s.queueAfter n) := by
  unfold State.queueAfter
  split
  · refine .trans ?_ (onlyQueue_refill _)
    split
    · exact .trans (onlyQueue_consume n s) rfl
    · exact onlyQueue_consume n s
  · rfl

/-- Consuming bytes moves IP and changes the queue, the calls and the draws. -/
theorem fetchAdvance_eq (s : State) (n : Nat) :
    ∃ q c d, s.fetchAdvance n =
      { s with ip := s.fetchOff n, queue := q, host := { s.host with calls := c }, draws := d } := by
  have noted : s.noteFetch n = { s with host := { s.host with calls := (s.noteFetch n).host.calls } } := by
    rw [State.noteFetch, foldl_note]
  have queued : OnlyQueue (s.noteFetch n) ((s.noteFetch n).queueAfter n) := onlyQueue_queueAfter _ n
  have drawn (t : State) : t.drawnFetch = { t with draws := t.drawnFetch.draws } := by
    unfold State.drawnFetch
    split <;> rfl
  rw [State.fetchAdvance, drawn, queued, noted]
  exact ⟨_, _, _, rfl⟩

theorem decode_prefixByte {b : Byte} (h : b ∈ prefixBytes) (bs : List Byte) :
    ∃ p, p.isPrefixByte = true ∧ decode .c286 (b :: bs) = .ok (p, bs) := by
  simp only [prefixBytes, List.mem_cons, List.not_mem_nil, or_false] at h
  rcases h with rfl | rfl | rfl | rfl | rfl | rfl | rfl <;> exact ⟨_, rfl, rfl⟩

theorem exec_prefixByte {p : Instr} (h : p.isPrefixByte = true) (s : State) :
    ∃ x, exec p s = .next { s with scratch := x } ∧ x.startIp = s.scratch.startIp := by
  cases p <;> cases h <;> exact ⟨_, rfl, rfl⟩

/-- A byte of `prefixBytes` is consumed and run, and the fetch goes on after it. -/
theorem fetchExec_prefixByte (cls : s.cls = .c286) (byte : s.fetchByte 0 ∈ prefixBytes)
    (allowed : s.fetchFault 0 = none) (m : Nat) :
    ∃ q x c d, x.startIp = s.scratch.startIp ∧ State.fetchExec (m + 1) s = State.fetchExec m
      { s with ip := s.ip + 1, queue := q, scratch := x, host := { s.host with calls := c }, draws := d } := by
  obtain ⟨p, isPrefix, decoded⟩ := decode_prefixByte byte ([1, 2, 3, 4, 5].map s.fetchByte)
  have raises : s.fetchRaises 1 = none := by
    rw [State.fetchRaises, List.range_one, List.findSome?_singleton, allowed]
  obtain ⟨q, c, d, advanced⟩ := fetchAdvance_eq s 1
  have fetched : s.fetchInstr = .decoded p (s.fetchAdvance 1) := by
    rw [State.fetchInstr, cls, show s.fetchWindow = s.fetchByte 0 :: [1, 2, 3, 4, 5].map s.fetchByte from rfl, decoded]
    dsimp only
    rw [show bodyBytes - ([1, 2, 3, 4, 5].map s.fetchByte).length = 1 from rfl, raises]
  obtain ⟨x, run, start⟩ := exec_prefixByte isPrefix (s.fetchAdvance 1)
  refine ⟨q, x, c, d, by rw [start, advanced], ?_⟩
  rw [State.fetchExec, fetched]
  dsimp only
  rw [isPrefix, run, advanced]
  rfl

/-- `u` is `s` with that many `prefixBytes` of its instruction consumed. -/
def State.PastPrefixes (s u : State) (j : Nat) : Prop :=
  ∃ q x c d, x.startIp = s.ip ∧ u = { s with
    handlerEntry := false, nointr := false, ip := s.ip + BitVec.ofNat 16 j, queue := q, scratch := x
    host := { s.host with calls := c }, draws := d }

theorem pastPrefixes_fetching (s : State) : s.PastPrefixes s.fetching 0 := by
  refine ⟨s.queue, .atBoundary s.ip, s.host.calls, s.draws, rfl, ?_⟩
  rw [State.fetching, BitVec.add_zero]

section
variable {u : State} {j : Nat} (h : s.PastPrefixes u j)
include h

theorem State.PastPrefixes.cfg : u.cfg = s.cfg := by
  obtain ⟨q, x, c, d, -, rfl⟩ := h
  rfl

theorem State.PastPrefixes.startIp : u.scratch.startIp = s.ip := by
  obtain ⟨q, x, c, d, start, rfl⟩ := h
  exact start

theorem State.PastPrefixes.inLimit (within : s.inLimit j) : u.inLimit 0 := by
  obtain ⟨q, x, c, d, -, rfl⟩ := h
  unfold State.inLimit at *
  rw [BitVec.add_zero]
  exact within

theorem State.PastPrefixes.inLength_iff (cls : s.cls = .c286) (lt : j < 65536) : u.inLength 0 ↔ j < 10 := by
  obtain ⟨q, x, c, d, start, rfl⟩ := h
  have count : (s.ip + BitVec.ofNat 16 j + BitVec.ofNat 16 0 - s.ip).toNat = j := by bv_omega
  unfold State.inLength
  dsimp only
  rw [start, count]
  exact imp_iff_right cls

theorem State.PastPrefixes.fetchByte (coherent : s.cfg.coherence = .coherent)
    (plain : s.kindAt (s.segAddr .cs (s.ip + BitVec.ofNat 16 j)) = .ram) :
    u.fetchByte 0 = Memory.read s.mem (s.segAddr .cs (s.ip + BitVec.ofNat 16 j)) := by
  have plain' : u.kindAt (u.segAddr .cs u.ip) = .ram := by
    obtain ⟨q, x, c, d, -, rfl⟩ := h
    exact plain
  rw [fetchByte_coherent (h.cfg ▸ coherent), State.fetchOff, BitVec.add_zero, codeByte_plain (.inl plain')]
  obtain ⟨q, x, c, d, -, rfl⟩ := h
  rfl

theorem State.PastPrefixes.next (cls : s.cls = .c286) (lt : j < 10) (within : s.inLimit j)
    (byte : u.fetchByte 0 ∈ prefixBytes) (m : Nat) :
    ∃ v, s.PastPrefixes v (j + 1) ∧ State.fetchExec (m + 1) u = State.fetchExec m v := by
  have allowed := fetchFault_none (h.inLimit within) ((h.inLength_iff cls (by omega)).mpr lt)
  have cls' : u.cls = .c286 := by rw [State.cls, h.cfg]; exact cls
  obtain ⟨q, x, c, d, start, run⟩ := fetchExec_prefixByte cls' byte allowed m
  rw [h.startIp] at start
  refine ⟨_, ⟨q, x, c, d, start, ?_⟩, run⟩
  obtain ⟨q', x', c', d', -, rfl⟩ := h
  rw [BitVec.ofNat_add, ← BitVec.add_assoc]
  rfl

end

/-- Ten of them. -/
theorem pastPrefixes_run (cls : s.cls = .c286) (coherent : s.cfg.coherence = .coherent)
    (bytes : ∀ k < 10, s.kindAt (s.segAddr .cs (s.ip + BitVec.ofNat 16 k)) = .ram ∧
      Memory.read s.mem (s.segAddr .cs (s.ip + BitVec.ofNat 16 k)) ∈ prefixBytes)
    (within : ∀ k < 11, s.inLimit k) {j : Nat} (le : j ≤ 10) (m : Nat) :
    ∃ u, s.PastPrefixes u j ∧ State.fetchExec (m + j) s.fetching = State.fetchExec m u := by
  induction j generalizing m with
  | zero => exact ⟨_, pastPrefixes_fetching s, rfl⟩
  | succ j ih =>
    obtain ⟨u, past, run⟩ := ih (by omega) (m + 1)
    obtain ⟨plain, byte⟩ := bytes j (by omega)
    obtain ⟨v, past', run'⟩ := past.next cls (by omega) (within j (by omega)) (past.fetchByte coherent plain ▸ byte) m
    refine ⟨v, past', ?_⟩
    rw [← run', ← run, Nat.add_right_comm, Nat.add_assoc]

/-- The eleventh byte raises #UD, whatever it is. -/
theorem step_ten_prefixes (calm : s.undisturbed) (noRep : s.rep = none) (cls : s.cls = .c286)
    (coherent : s.cfg.coherence = .coherent)
    (bytes : ∀ k < 10, s.kindAt (s.segAddr .cs (s.ip + BitVec.ofNat 16 k)) = .ram ∧
      Memory.read s.mem (s.segAddr .cs (s.ip + BitVec.ofNat 16 k)) ∈ prefixBytes)
    (within : ∀ k < 11, s.inLimit k) :
    ∃ q x c d v,
      v = { s with
        handlerEntry := false, nointr := false, ip := s.ip + 10, queue := q, scratch := x
        host := { s.host with calls := c }, draws := d } ∧
      step s = State.handlers handlerFuel (.next { v.takeException s.ip .ud with handlerEntry := true }) := by
  obtain ⟨u, past, run⟩ := pastPrefixes_run cls coherent bytes within (Nat.le_refl 10) 65527
  have raises : u.fetchFault 0 = some .ud :=
    fetchFault_length (past.inLimit (within 10 (by omega))) ((past.inLength_iff cls (by omega)).not.mpr (by omega))
  have cls' : u.cls = .c286 := by rw [State.cls, past.cfg]; exact cls
  obtain ⟨i, rest, decoded, shorter, -⟩ := decode_total u.cls (fetchWindow_length u).ge
  rw [fetchWindow_length] at shorter
  obtain ⟨c, d, raised⟩ := fetchExec_raised decoded
    (fetchRaises_first (fun j hj => absurd hj (Nat.not_lt_zero j)) raises (Nat.sub_pos_of_lt shorter))
    (savedIp_of_ne nofun) 65526
  rw [past.startIp] at raised
  obtain ⟨q, x, c', d', -, rfl⟩ := past
  exact ⟨q, x, c, d, _, rfl, (step_undisturbed calm noRep).trans (congrArg _ (run.trans raised))⟩

/-- Settles O58, from the first byte of an instruction that raises. -/
theorem fetching : Obligations.Fetching := by
  refine ⟨fun s k coherent lt plain => ?_, fun s q coherent => fetchWindow_withQueue coherent q,
    fun s n disabled => fetchAdvance_host disabled n, fun s k pe beyond => ?_,
    fun s i rest k m e decoded lt before here => ?_,
    fun s i rest k calm noRep decoded lt beyond => step_beyond_limit calm noRep decoded lt beyond,
    fun s calm noRep cls coherent bytes within => step_ten_prefixes calm noRep cls coherent bytes within⟩
  · rw [fetchWindow_getElem? lt, fetchByte_coherent coherent]
    exact congrArg some (codeByte_plain plain k)
  · exact fetchFault_limit fun within => absurd (within pe) (Nat.not_le.mpr beyond)
  · have passes (j : Nat) (hj : j < k) : s.fetchFault j = none := fetchFault_none (before j hj).1 (before j hj).2
    obtain ⟨raises, ne⟩ : s.fetchFault k = some e ∧ e ≠ .de := by
      rcases here with ⟨beyond, rfl⟩ | ⟨within, long, rfl⟩
      · exact ⟨fetchFault_limit beyond, nofun⟩
      · exact ⟨fetchFault_length within long, nofun⟩
    exact fetchExec_raised decoded (fetchRaises_first passes raises lt) (savedIp_of_ne ne) m

end Sys2Proof.Machine
end

section
/-! Decoding an encoding gives the instruction back (30_encoding.md R200, R218 to R243, R257 to R259): the ModRM bytes
give their fields back, each form and group its operands, and the opcode map the instruction. -/

namespace Sys2Proof.Machine

variable {α ρ : Type} {k : BitVec 3} {bs : List Byte} {cls : CpuClass}

/-! ## Registers and bytes -/

theorem reg16_ofBits_bits : Function.LeftInverse Reg16.ofBits Reg16.bits := fun r => by cases r <;> rfl

theorem reg8_ofBits_bits : Function.LeftInverse Reg8.ofBits Reg8.bits := fun r => by cases r <;> rfl

theorem addrBase_ofBits_bits : Function.LeftInverse AddrBase.ofBits AddrBase.bits := fun b => by cases b <;> rfl

theorem modField_modrmByte (md : BitVec 2) (k rm : BitVec 3) : modField (modrmByte md k rm) = md := by
  revert md k rm; decide

theorem regField_modrmByte (md : BitVec 2) (k rm : BitVec 3) : regField (modrmByte md k rm) = k := by
  revert md k rm; decide

theorem rmField_modrmByte (md : BitVec 2) (k rm : BitVec 3) : rmField (modrmByte md k rm) = rm := by
  revert md k rm; decide

theorem imm16_wordBytes (w : Word) (bs : List Byte) : imm16 (wordBytes w ++ bs) = .ok (w, bs) := by
  rw [wordBytes, List.cons_append, List.cons_append, List.nil_append, imm16, mkWord_lo_hi]

theorem imm16x2_wordBytes (a b : Word) (bs : List Byte) :
    imm16x2 (wordBytes a ++ wordBytes b ++ bs) = .ok ((a, b), bs) := by
  rw [List.append_assoc, imm16x2, imm16_wordBytes]
  dsimp only
  rw [imm16_wordBytes, Dec.map]

theorem imm16imm8_wordBytes (a : Word) (b : Byte) (bs : List Byte) :
    imm16imm8 (wordBytes a ++ [b] ++ bs) = .ok ((a, b), bs) := by
  rw [List.append_assoc, imm16imm8, imm16_wordBytes]
  rfl

/-! ## ModRM (R218 to R220) -/

theorem RM.map_leftInverse {f : BitVec 3 → ρ} {g : ρ → BitVec 3} (inverse : Function.LeftInverse f g) (e : RM ρ) :
    (e.map g).map f = e := by
  cases e with
  | reg r => exact congrArg RM.reg (inverse r)
  | mem m => rfl

theorem asEb_map_bits (e : RM Reg8) : asEb (e.map Reg8.bits) = e := RM.map_leftInverse reg8_ofBits_bits e

theorem asEw_map_bits (e : RM Reg16) : asEw (e.map Reg16.bits) = e := RM.map_leftInverse reg16_ofBits_bits e

@[simp] theorem RM.wf_map {σ : Type} (f : ρ → σ) (e : RM ρ) : (e.map f).wf = e.wf := by cases e <;> rfl

/-- An address base is never `[BP]` with mod 0, the r/m value of a direct address. -/
theorem addrBase_bits_ne {b : AddrBase} (wf : (MemRef.ind b).wf = true) : b.bits ≠ 6 := by
  revert wf
  cases b <;> decide

theorem modrm_encodeRM {e : RM (BitVec 3)} (wf : e.wf = true) : modrm (encodeRM k e ++ bs) = .ok ((k, e), bs) := by
  rcases e with r | ⟨b | d | ⟨b, d⟩ | ⟨b, d⟩⟩ <;>
    simp only [encodeRM, List.cons_append, List.nil_append, modrm, regField_modrmByte, decodeRM, modField_modrmByte,
      rmField_modrmByte]
  case reg => rfl
  case ind => rw [if_neg (addrBase_bits_ne wf), addrBase_ofBits_bits b]; rfl
  case direct => rw [if_pos trivial, imm16_wordBytes]; rfl
  case disp8 => rw [addrBase_ofBits_bits b]; rfl
  case disp16 => rw [addrBase_ofBits_bits b, imm16_wordBytes]; rfl

/-! ## Forms and groups (R219, R223, R226) -/

/-- A group selects by the fields that were encoded. -/
theorem group_encodeRM {e : RM (BitVec 3)} (wf : e.wf = true)
    {sel : BitVec 3 → RM (BitVec 3) → List Byte → Dec Instr} : group sel (encodeRM k e ++ bs) = sel k e bs := by
  rw [group, modrm_encodeRM wf]

section
variable {e : RM Reg8} (wf : e.wf = true) {sel : BitVec 3 → RM (BitVec 3) → List Byte → Dec Instr}
include wf

theorem formEbGb_encodeEb {g : Reg8} {c : RM Reg8 → Reg8 → Instr} :
    formEbGb c (encodeEb g.bits e ++ bs) = .ok (c e g, bs) := by
  rw [formEbGb, encodeEb, modrm_encodeRM ((RM.wf_map _ e).trans wf), Dec.map, RM.map_leftInverse reg8_ofBits_bits,
    reg8_ofBits_bits]

theorem group_encodeEb {c : RM Reg8 → Instr} (selects : ∀ e, sel k e bs = .ok (c (asEb e), bs)) :
    group sel (encodeEb k e ++ bs) = .ok (c e, bs) := by
  rw [encodeEb, group_encodeRM ((RM.wf_map _ e).trans wf), selects, asEb_map_bits]

theorem group_encodeEb_imm8 {ib : Byte} {c : RM Reg8 → Byte → Instr}
    (selects : ∀ e bs, sel k e bs = Dec.map (c (asEb e)) (imm8 bs)) :
    group sel ((encodeEb k e ++ [ib]) ++ bs) = .ok (c e ib, bs) := by
  rw [List.append_assoc, encodeEb, group_encodeRM ((RM.wf_map _ e).trans wf), selects, asEb_map_bits]
  rfl

end

section
variable {e : RM Reg16} (wf : e.wf = true) {sel : BitVec 3 → RM (BitVec 3) → List Byte → Dec Instr}
include wf

theorem formEwGw_encodeEw {g : Reg16} {c : RM Reg16 → Reg16 → Instr} :
    formEwGw c (encodeEw g.bits e ++ bs) = .ok (c e g, bs) := by
  rw [formEwGw, encodeEw, modrm_encodeRM ((RM.wf_map _ e).trans wf), Dec.map, RM.map_leftInverse reg16_ofBits_bits,
    reg16_ofBits_bits]

theorem formEwGwImm_encodeEw {imm : List Byte → Dec α} {bytes : List Byte} {a : α} {g : Reg16}
    {c : RM Reg16 → Reg16 → α → Instr} (reads : imm (bytes ++ bs) = .ok (a, bs)) :
    formEwGwImm c imm ((encodeEw g.bits e ++ bytes) ++ bs) = .ok (c e g a, bs) := by
  rw [List.append_assoc, formEwGwImm, encodeEw, modrm_encodeRM ((RM.wf_map _ e).trans wf)]
  dsimp only
  rw [reads, Dec.map, RM.map_leftInverse reg16_ofBits_bits, reg16_ofBits_bits]

theorem group_encodeEw {c : RM Reg16 → Instr} (selects : ∀ e, sel k e bs = .ok (c (asEw e), bs)) :
    group sel (encodeEw k e ++ bs) = .ok (c e, bs) := by
  rw [encodeEw, group_encodeRM ((RM.wf_map _ e).trans wf), selects, asEw_map_bits]

theorem group_encodeEw_imm8 {ib : Byte} {c : RM Reg16 → Byte → Instr}
    (selects : ∀ e bs, sel k e bs = Dec.map (c (asEw e)) (imm8 bs)) :
    group sel ((encodeEw k e ++ [ib]) ++ bs) = .ok (c e ib, bs) := by
  rw [List.append_assoc, encodeEw, group_encodeRM ((RM.wf_map _ e).trans wf), selects, asEw_map_bits]
  rfl

theorem group_encodeEw_imm16 {iw : Word} {c : RM Reg16 → Word → Instr}
    (selects : ∀ e bs, sel k e bs = Dec.map (c (asEw e)) (imm16 bs)) :
    group sel ((encodeEw k e ++ wordBytes iw) ++ bs) = .ok (c e iw, bs) := by
  rw [List.append_assoc, encodeEw, group_encodeRM ((RM.wf_map _ e).trans wf), selects, asEw_map_bits, imm16_wordBytes,
    Dec.map]

end

theorem formMGw_encodeM {m : MemRef} (wf : m.wf = true) {g : Reg16} {c : MemRef → Reg16 → Instr} :
    formMGw cls c (encodeM g.bits m ++ bs) = .ok (c m g, bs) := by
  rw [formMGw, encodeM, modrm_encodeRM (e := .mem m) wf, Dec.map, reg16_ofBits_bits]

theorem map_imm16_wordBytes {w : Word} {c : Word → Instr} :
    Dec.map c (imm16 (wordBytes w ++ bs)) = .ok (c w, bs) := by rw [imm16_wordBytes, Dec.map]

theorem map_imm16x2_wordBytes {a b : Word} {c : Word → Word → Instr} :
    Dec.map (fun p => c p.1 p.2) (imm16x2 (wordBytes a ++ wordBytes b ++ bs)) = .ok (c a b, bs) := by
  rw [imm16x2_wordBytes, Dec.map]

theorem map_imm16imm8_wordBytes {a : Word} {b : Byte} {c : Word → Byte → Instr} :
    Dec.map (fun p => c p.1 p.2) (imm16imm8 (wordBytes a ++ [b] ++ bs)) = .ok (c a b, bs) := by
  rw [imm16imm8_wordBytes, Dec.map]

theorem group8C_low {e : RM (BitVec 3)} (sr : SegReg) :
    group8C cls sr.bits e bs = .ok (.movEwSw (asEw e) sr, bs) := by cases sr <;> rfl

/-- Reg 4-7 name the registers of reg-4 (R238). -/
theorem group8C_high {e : RM (BitVec 3)} (sr : SegReg) :
    group8C .c86 (sr.bits + 4) e bs = .ok (.movEwSwHigh (asEw e) sr, bs) := by cases sr <;> rfl

theorem group8E_low {e : RM (BitVec 3)} {sr : SegReg} (ne : sr ≠ .cs) :
    group8E cls sr.bits e bs = .ok (.movSwEw (asEw e) sr, bs) := by
  cases sr with
  | cs => exact absurd rfl ne
  | es | ss | ds => cases cls <;> rfl

theorem group8E_high {e : RM (BitVec 3)} (sr : SegReg) :
    group8E .c86 (sr.bits + 4) e bs = .ok (.movSwEwHigh (asEw e) sr, bs) := by cases sr <;> rfl

/-- FF /6 with SP is an instruction of its own (41_data_transfer.md R332). -/
theorem groupFF_pushEw {e : RM Reg16} (ne : e ≠ .reg .sp) :
    groupFF cls 6 (e.map Reg16.bits) bs = .ok (.pushEw e, bs) := by
  have other : e.map Reg16.bits ≠ .reg 4 := by
    intro h
    rw [← asEw_map_bits e, h] at ne
    exact ne rfl
  exact (if_neg other).trans (by rw [asEw_map_bits])

/-! ## The opcode map (R230, R257) -/

/-- ESC takes the low three bits of its opcode (R239). -/
theorem decode_esc (n : BitVec 3) (bs : List Byte) :
    decode cls ((0xD8 + n.setWidth 8) :: bs) = group (fun k e bs => .ok (.esc n k (asEw e), bs)) bs := by
  have cases : n = 0 ∨ n = 1 ∨ n = 2 ∨ n = 3 ∨ n = 4 ∨ n = 5 ∨ n = 6 ∨ n = 7 := by revert n; decide
  rcases cases with rfl | rfl | rfl | rfl | rfl | rfl | rfl | rfl <;> rfl

/-- `PUSH SP` is an instruction of its own (41_data_transfer.md R332). -/
theorem decode_pushR16 {r : Reg16} (ne : r ≠ .sp) :
    decode cls ((0x50 + r.bits.setWidth 8) :: bs) = .ok (.pushR16 r, bs) := by
  cases r with
  | sp => exact absurd rfl ne
  | ax | cx | dx | bx | bp | si | di => rfl

theorem cls_c86 (h : (cls == .c86) = true) : cls = .c86 := eq_of_beq h

theorem cls_c286 (h : (cls == .c286) = true) : cls = .c286 := eq_of_beq h

theorem later_of_ne (ne : cls ≠ .c86) : cls = .c186 ∨ cls = .c286 := by
  revert ne
  cases cls <;> decide

theorem cls_later (h : (cls != .c86) = true) : cls = .c186 ∨ cls = .c286 := later_of_ne (bne_iff_ne.mp h)

/-- Every constructor, by the shape of its encoding. -/
theorem decode_encode {i : Instr} {rest : List Byte} (h : i.wfOn cls = true) :
    decode cls (encode i ++ rest) = .ok (i, rest) := by
  obtain ⟨wf, onCls⟩ : i.wf = true ∧ i.onClass cls = true := Bool.and_eq_true_iff.mp h
  cases i
  case addEbGb | addGbEb | orEbGb | orGbEb | adcEbGb | adcGbEb | sbbEbGb | sbbGbEb | andEbGb | andGbEb | subEbGb |
      subGbEb | xorEbGb | xorGbEb | cmpEbGb | cmpGbEb | testEbGb | xchgEbGb | movEbGb | movGbEb =>
    exact formEbGb_encodeEb wf
  case addEwGw | addGwEw | orEwGw | orGwEw | adcEwGw | adcGwEw | sbbEwGw | sbbGwEw | andEwGw | andGwEw | subEwGw |
      subGwEw | xorEwGw | xorGwEw | cmpEwGw | cmpGwEw | testEwGw | xchgEwGw | movEwGw | movGwEw =>
    exact formEwGw_encodeEw wf
  case addAlIb | orAlIb | adcAlIb | sbbAlIb | andAlIb | subAlIb | xorAlIb | cmpAlIb | joJb | jnoJb | jbJb | jnbJb |
      jzJb | jnzJb | jbeJb | jaJb | jsJb | jnsJb | jpJb | jnpJb | jlJb | jgeJb | jleJb | jgJb | testAlIb | intIb |
      aamIb | aadIb | loopnzJb | loopzJb | loopJb | jcxzJb | inAlIb | inAxIb | outIbAl | outIbAx | jmpJb | pushEs |
      popEs | pushCs | pushSs | popSs | pushDs | popDs | prefixEs | prefixCs | prefixSs | prefixDs | prefixLock |
      prefixRepne | prefixRep | daa | das | aaa | aas | pushSp | nop | xchgAxCx | xchgAxDx | xchgAxBx | xchgAxSp |
      xchgAxBp | xchgAxSi | xchgAxDi | cbw | cwd | wait | pushf | popf | sahf | lahf | movsb | movsw | cmpsb | cmpsw |
      stosb | stosw | lodsb | lodsw | scasb | scasw | ret | retf | int3 | into | iret | salc | xlat | inAlDx |
      inAxDx | outDxAl | outDxAx | hlt | cmc | clc | stc | cli | sti | cld | std | pushSpFF =>
    rfl
  case addAxIw | orAxIw | adcAxIw | sbbAxIw | andAxIw | subAxIw | xorAxIw | cmpAxIw | movAlOb | movAxOw | movObAl |
      movOwAx | testAxIw | retIw | retfIw | callJw | jmpJw =>
    exact map_imm16_wordBytes
  case addEbIb op82 e ib | orEbIb op82 e ib | adcEbIb op82 e ib | sbbEbIb op82 e ib | andEbIb op82 e ib |
      subEbIb op82 e ib | xorEbIb op82 e ib | cmpEbIb op82 e ib =>
    cases op82 <;> exact group_encodeEb_imm8 wf fun _ _ => rfl
  case addEwIw | orEwIw | adcEwIw | sbbEwIw | andEwIw | subEwIw | xorEwIw | cmpEwIw | movEwIw | testEwIw =>
    exact group_encodeEw_imm16 wf fun _ _ => rfl
  case addEwIbs | orEwIbs | adcEwIbs | sbbEwIbs | andEwIbs | subEwIbs | xorEwIbs | cmpEwIbs =>
    exact group_encodeEw_imm8 wf fun _ _ => rfl
  case boundGwMa => rcases cls_later onCls with rfl | rfl <;> exact formMGw_encodeM wf
  case arplEwGw | larGwEw | lslGwEw =>
    cases cls_c286 onCls
    exact formEwGw_encodeEw wf
  case pushIw => rcases cls_later onCls with rfl | rfl <;> exact map_imm16_wordBytes
  case imulGwEwIw e g iw =>
    rcases cls_later onCls with rfl | rfl <;> exact formEwGwImm_encodeEw wf (imm16_wordBytes iw rest)
  case pushIbs | invalidOpcode | pusha | popa | insb | insw | outsb | outsw | leave =>
    rcases cls_later onCls with rfl | rfl <;> rfl
  case imulGwEwIbs => rcases cls_later onCls with rfl | rfl <;> exact formEwGwImm_encodeEw wf rfl
  case joJb60 | jnoJb61 | jbJb62 | jnbJb63 | jzJb64 | jnzJb65 | jbeJb66 | jaJb67 | jsJb68 | jnsJb69 | jpJb6A |
      jnpJb6B | jlJb6C | jgeJb6D | jleJb6E | jgJb6F | popCs | prefixLockF1 | retC1 | retfC9 | reservedC86 =>
    cases cls_c86 onCls
    rfl
  case leaGwM | lesGwMp | ldsGwMp => exact formMGw_encodeM wf
  case popEw | rolEw1 | rorEw1 | rclEw1 | rcrEw1 | shlEw1 | shrEw1 | sarEw1 | rolEwCl | rorEwCl | rclEwCl | rcrEwCl |
      shlEwCl | shrEwCl | sarEwCl | notEw | negEw | mulEw | imulEw | divEw | idivEw | incEw | decEw | callEw |
      jmpEw =>
    exact group_encodeEw wf fun _ => rfl
  case callAp | jmpAp => exact map_imm16x2_wordBytes
  case rolEbIb | rorEbIb | rclEbIb | rcrEbIb | shlEbIb | shrEbIb | sarEbIb =>
    rcases cls_later onCls with rfl | rfl <;> exact group_encodeEb_imm8 wf fun _ _ => rfl
  case rolEwIb | rorEwIb | rclEwIb | rcrEwIb | shlEwIb | shrEwIb | sarEwIb =>
    rcases cls_later onCls with rfl | rfl <;> exact group_encodeEw_imm8 wf fun _ _ => rfl
  case rolEb1 | rorEb1 | rclEb1 | rcrEb1 | shlEb1 | shrEb1 | sarEb1 | rolEbCl | rorEbCl | rclEbCl | rcrEbCl |
      shlEbCl | shrEbCl | sarEbCl | notEb | negEb | mulEb | imulEb | divEb | idivEb | incEb | decEb =>
    exact group_encodeEb wf fun _ => rfl
  case retIwC0 | retfIwC8 =>
    cases cls_c86 onCls
    exact map_imm16_wordBytes
  case movEbIb | testEbIb => exact group_encodeEb_imm8 wf fun _ _ => rfl
  case enterIwIb => rcases cls_later onCls with rfl | rfl <;> exact map_imm16imm8_wordBytes
  case testEbIb1 =>
    cases cls_c86 onCls
    exact group_encodeEb_imm8 wf fun _ _ => rfl
  case testEwIw1 =>
    cases cls_c86 onCls
    exact group_encodeEw_imm16 wf fun _ _ => rfl
  case callMp | jmpMp => exact group_encodeRM (e := .mem _) wf
  case sldtEw | strEw | lldtEw | ltrEw | verrEw | verwEw | smswEw | lmswEw =>
    cases cls_c286 onCls
    exact group_encodeEw wf fun _ => rfl
  case sgdtMs | sidtMs | lgdtMs | lidtMs =>
    cases cls_c286 onCls
    exact group_encodeRM (e := .mem _) wf
  case loadall | clts =>
    cases cls_c286 onCls
    rfl
  case incR16 r | decR16 r | popR16 r => cases r <;> rfl
  case pushR16 r => exact decode_pushR16 (bne_iff_ne.mp wf)
  case movR8Ib r ib => cases r <;> rfl
  case movR16Iw r iw => cases r <;> exact map_imm16_wordBytes
  case movEwSw e sr => exact group_encodeEw (c := (Instr.movEwSw · sr)) wf fun _ => group8C_low sr
  case movEwSwHigh e sr =>
    cases cls_c86 onCls
    exact group_encodeEw (c := (Instr.movEwSwHigh · sr)) wf fun _ => group8C_high sr
  case movSwEw e sr =>
    obtain ⟨wf, ne⟩ : e.wf = true ∧ (sr != .cs) = true := Bool.and_eq_true_iff.mp wf
    exact group_encodeEw (c := (Instr.movSwEw · sr)) wf fun _ => group8E_low (bne_iff_ne.mp ne)
  case movSwEwHigh e sr =>
    cases cls_c86 onCls
    exact group_encodeEw (c := (Instr.movSwEwHigh · sr)) wf fun _ => group8E_high sr
  case movCsEw =>
    cases cls_c86 onCls
    exact group_encodeEw wf fun _ => rfl
  case esc n k e =>
    exact (decode_esc n _).trans (group_encodeEw wf fun _ => rfl)
  case pushEw e =>
    obtain ⟨wf, ne⟩ : e.wf = true ∧ (e != .reg .sp) = true := Bool.and_eq_true_iff.mp wf
    exact (group_encodeRM ((RM.wf_map _ e).trans wf)).trans (groupFF_pushEw (bne_iff_ne.mp ne))

/-- Settles O6, from the operands that each form and each group gives back. -/
theorem decodeEncode : Obligations.DecodeEncode := fun _ _ _ => decode_encode

end Sys2Proof.Machine
end

section
/-! The decoder answers terms that stand for an encoding of the class (30_encoding.md R218 to R273), and the encodings
that are no instruction decode as R257 to R273 say. -/

namespace Sys2Proof.Machine

variable {α β : Type} {k : BitVec 3} {bs : List Byte} {cls : CpuClass} {i : Instr}

/-! ## What the decoder answers -/

/-- Whatever the field read, it meets `P`. -/
def Answers (P : α → Prop) (x : Dec α) : Prop := ∀ a bs, x = .ok (a, bs) → P a

section
variable {P : α → Prop} {Q : β → Prop} {x : Dec α} {f : α → β}

theorem answers_ok {a : α} (h : P a) : Answers P (.ok (a, bs)) := fun _ _ e => by cases e; exact h

theorem answers_error {e : DecodeError} : Answers P (.error e) := nofun

theorem Answers.map (h : Answers P x) (step : ∀ a, P a → Q (f a)) : Answers Q (Dec.map f x) := by
  rcases x with e | ⟨a, bs⟩
  · exact answers_error
  · exact answers_ok (step a (h a bs rfl))

/-- A field of any value. -/
theorem answers_map (h : ∀ a, Q (f a)) : Answers Q (Dec.map f x) :=
  Answers.map (P := fun _ => True) (fun _ _ _ => trivial) fun a _ => h a

end

/-- The r/m value of `[BP]` with mod 0 is that of a direct address (R220). -/
theorem ind_wf {b : BitVec 3} (ne : b ≠ 6) : (MemRef.ind (.ofBits b)).wf = true := by
  revert b
  decide

theorem answers_decodeRM {b : Byte} : Answers (fun e => e.wf = true) (decodeRM b bs) := by
  unfold decodeRM
  split
  · split
    · exact answers_map fun _ => rfl
    · exact answers_ok (ind_wf ‹_›)
  · exact answers_map fun _ => rfl
  · exact answers_map fun _ => rfl
  · exact answers_ok rfl

theorem answers_modrm : Answers (fun p => p.2.wf = true) (modrm bs) := by
  cases bs with
  | nil => exact answers_error
  | cons b bs => exact answers_decodeRM.map fun _ => id

/-- An instruction of the class, if the bytes hold one. -/
abbrev Yields (cls : CpuClass) (x : Dec Instr) : Prop := Answers (fun i => i.wfOn cls = true) x

theorem wfOn_of (wf : i.wf = true) (onCls : i.onClass cls = true) : i.wfOn cls = true :=
  Bool.and_eq_true_iff.mpr ⟨wf, onCls⟩

theorem yields_ok (wf : i.wf = true) (onCls : i.onClass cls = true) : Yields cls (.ok (i, bs)) :=
  answers_ok (wfOn_of wf onCls)

theorem yields_map {f : α → Instr} {x : Dec α} (wf : ∀ a, (f a).wf = true)
    (onCls : ∀ a, (f a).onClass cls = true) : Yields cls (Dec.map f x) :=
  answers_map fun a => wfOn_of (wf a) (onCls a)

theorem yields_badSlot : Yields cls (.ok (badSlot cls, bs)) := by
  cases cls <;> exact yields_ok rfl rfl

theorem yields_formEbGb {c : RM Reg8 → Reg8 → Instr} (wf : ∀ e g, (c e g).wf = e.wf)
    (onCls : ∀ e g, (c e g).onClass cls = true) : Yields cls (formEbGb c bs) :=
  answers_modrm.map fun _ h => wfOn_of ((wf _ _).trans ((RM.wf_map _ _).trans h)) (onCls _ _)

theorem yields_formEwGw {c : RM Reg16 → Reg16 → Instr} (wf : ∀ e g, (c e g).wf = e.wf)
    (onCls : ∀ e g, (c e g).onClass cls = true) : Yields cls (formEwGw c bs) :=
  answers_modrm.map fun _ h => wfOn_of ((wf _ _).trans ((RM.wf_map _ _).trans h)) (onCls _ _)

theorem yields_formMGw {c : MemRef → Reg16 → Instr} (wf : ∀ m g, (c m g).wf = m.wf)
    (onCls : ∀ m g, (c m g).onClass cls = true) : Yields cls (formMGw cls c bs) := by
  refine answers_modrm.map fun p h => ?_
  obtain ⟨k, r | m⟩ := p
  · exact yields_badSlot _ bs rfl
  · exact wfOn_of ((wf m _).trans h) (onCls m _)

theorem yields_formEwGwImm {c : RM Reg16 → Reg16 → α → Instr} {imm : List Byte → Dec α}
    (wf : ∀ e g a, (c e g a).wf = e.wf)
    (onCls : ∀ e g a, (c e g a).onClass cls = true) : Yields cls (formEwGwImm c imm bs) := by
  unfold formEwGwImm
  split
  · exact answers_error
  · have h : RM.wf _ = true := answers_modrm _ _ ‹_›
    exact yields_map (fun a => (wf _ _ a).trans ((RM.wf_map _ _).trans h)) fun a => onCls _ _ a

theorem yields_group {sel : BitVec 3 → RM (BitVec 3) → List Byte → Dec Instr}
    (h : ∀ k e bs, e.wf = true → Yields cls (sel k e bs)) : Yields cls (group sel bs) := by
  unfold group
  split
  · exact answers_error
  · exact h _ _ _ (answers_modrm _ _ ‹_›)

/-! ## The groups (R231 to R238, R258, R259) -/

section
variable {e : RM (BitVec 3)} (wf : e.wf = true)
include wf

theorem asEb_wf : (asEb e).wf = true := (RM.wf_map _ e).trans wf

theorem asEw_wf : (asEw e).wf = true := (RM.wf_map _ e).trans wf

theorem movSwEw_wf (ne : k ≠ 1) (low : k.toNat < 4) : (Instr.movSwEw (asEw e) (.ofBits k)).wf = true := by
  have other : SegReg.ofBits k ≠ .cs := by
    revert k
    decide
  exact Bool.and_eq_true_iff.mpr ⟨asEw_wf wf, bne_iff_ne.mpr other⟩

theorem pushEw_wf (ne : e ≠ .reg 4) : (Instr.pushEw (asEw e)).wf = true := by
  have other : asEw e ≠ .reg .sp := by
    intro h
    rcases e with r | m
    · have four : ∀ r, Reg16.ofBits r = .sp → r = 4 := by decide
      exact ne (congrArg RM.reg (four r (RM.reg.inj h)))
    · cases h
  exact Bool.and_eq_true_iff.mpr ⟨asEw_wf wf, bne_iff_ne.mpr other⟩

end

theorem yields_group80 : Yields cls (group (group80 cls) bs) := by
  refine yields_group fun k e bs wf => ?_
  unfold group80
  split <;> exact yields_map (fun _ => asEb_wf wf) fun _ => rfl

theorem yields_group81 : Yields cls (group (group81 cls) bs) := by
  refine yields_group fun k e bs wf => ?_
  unfold group81
  split <;> exact yields_map (fun _ => asEw_wf wf) fun _ => rfl

theorem yields_group82 : Yields cls (group (group82 cls) bs) := by
  refine yields_group fun k e bs wf => ?_
  unfold group82
  split <;> exact yields_map (fun _ => asEb_wf wf) fun _ => rfl

theorem yields_group83 : Yields cls (group (group83 cls) bs) := by
  refine yields_group fun k e bs wf => ?_
  unfold group83
  split <;> exact yields_map (fun _ => asEw_wf wf) fun _ => rfl

theorem yields_group8C : Yields cls (group (group8C cls) bs) := by
  refine yields_group fun k e bs wf => ?_
  unfold group8C
  split
  · exact yields_ok (asEw_wf wf) rfl
  · cases cls
    · exact yields_ok (asEw_wf wf) rfl
    · exact yields_badSlot
    · exact yields_badSlot

theorem yields_group8E : Yields cls (group (group8E cls) bs) := by
  refine yields_group fun k e bs wf => ?_
  unfold group8E
  split
  · split
    · exact yields_ok (asEw_wf wf) rfl
    · split
      · exact yields_ok (movSwEw_wf wf ‹_› ‹_›) rfl
      · exact yields_ok (asEw_wf wf) rfl
  all_goals
    split
    · exact yields_badSlot
    · next h =>
      obtain ⟨ne, low⟩ := not_or.mp h
      exact yields_ok (movSwEw_wf wf ne (Nat.lt_of_not_le low)) rfl

theorem yields_group8F : Yields cls (group (group8F cls) bs) := by
  refine yields_group fun k e bs wf => ?_
  unfold group8F
  split
  · exact yields_ok (asEw_wf wf) rfl
  · exact yields_badSlot

theorem yields_groupC0 (later : (cls != .c86) = true) : Yields cls (group (groupC0 cls) bs) := by
  refine yields_group fun k e bs wf => ?_
  unfold groupC0
  split
  case h_7 => exact yields_badSlot
  all_goals exact yields_map (fun _ => asEb_wf wf) fun _ => later

theorem yields_groupC1 (later : (cls != .c86) = true) : Yields cls (group (groupC1 cls) bs) := by
  refine yields_group fun k e bs wf => ?_
  unfold groupC1
  split
  case h_7 => exact yields_badSlot
  all_goals exact yields_map (fun _ => asEw_wf wf) fun _ => later

theorem yields_groupC6 : Yields cls (group (groupC6 cls) bs) := by
  refine yields_group fun k e bs wf => ?_
  unfold groupC6
  split
  · exact yields_map (fun _ => asEb_wf wf) fun _ => rfl
  · exact yields_badSlot

theorem yields_groupC7 : Yields cls (group (groupC7 cls) bs) := by
  refine yields_group fun k e bs wf => ?_
  unfold groupC7
  split
  · exact yields_map (fun _ => asEw_wf wf) fun _ => rfl
  · exact yields_badSlot

theorem yields_groupD0 : Yields cls (group (groupD0 cls) bs) := by
  refine yields_group fun k e bs wf => ?_
  unfold groupD0
  split
  case h_7 => exact yields_badSlot
  all_goals exact yields_ok (asEb_wf wf) rfl

theorem yields_groupD1 : Yields cls (group (groupD1 cls) bs) := by
  refine yields_group fun k e bs wf => ?_
  unfold groupD1
  split
  case h_7 => exact yields_badSlot
  all_goals exact yields_ok (asEw_wf wf) rfl

theorem yields_groupD2 : Yields cls (group (groupD2 cls) bs) := by
  refine yields_group fun k e bs wf => ?_
  unfold groupD2
  split
  case h_7 => exact yields_badSlot
  all_goals exact yields_ok (asEb_wf wf) rfl

theorem yields_groupD3 : Yields cls (group (groupD3 cls) bs) := by
  refine yields_group fun k e bs wf => ?_
  unfold groupD3
  split
  case h_7 => exact yields_badSlot
  all_goals exact yields_ok (asEw_wf wf) rfl

theorem yields_groupF6 : Yields cls (group (groupF6 cls) bs) := by
  refine yields_group fun k e bs wf => ?_
  unfold groupF6
  split
  case h_1 => exact yields_map (fun _ => asEb_wf wf) fun _ => rfl
  case h_2 =>
    cases cls
    · exact yields_map (fun _ => asEb_wf wf) fun _ => rfl
    · exact yields_badSlot
    · exact yields_badSlot
  all_goals exact yields_ok (asEb_wf wf) rfl

theorem yields_groupF7 : Yields cls (group (groupF7 cls) bs) := by
  refine yields_group fun k e bs wf => ?_
  unfold groupF7
  split
  case h_1 => exact yields_map (fun _ => asEw_wf wf) fun _ => rfl
  case h_2 =>
    cases cls
    · exact yields_map (fun _ => asEw_wf wf) fun _ => rfl
    · exact yields_badSlot
    · exact yields_badSlot
  all_goals exact yields_ok (asEw_wf wf) rfl

theorem yields_groupFE : Yields cls (group (groupFE cls) bs) := by
  refine yields_group fun k e bs wf => ?_
  unfold groupFE
  split
  · exact yields_ok (asEb_wf wf) rfl
  · exact yields_ok (asEb_wf wf) rfl
  · exact yields_badSlot

theorem yields_groupFF : Yields cls (group (groupFF cls) bs) := by
  refine yields_group fun k e bs wf => ?_
  unfold groupFF
  split
  case h_4 | h_6 =>
    rcases e with r | m
    · exact yields_badSlot
    · exact yields_ok wf rfl
  case h_7 =>
    split
    · exact yields_ok rfl rfl
    · exact yields_ok (pushEw_wf wf ‹_›) rfl
  case h_8 => exact yields_badSlot
  all_goals exact yields_ok (asEw_wf wf) rfl

theorem yields_group0F00 : Yields .c286 (group group0F00 bs) := by
  refine yields_group fun k e bs wf => ?_
  unfold group0F00
  split
  case h_7 => exact yields_ok rfl rfl
  all_goals exact yields_ok (asEw_wf wf) rfl

theorem yields_group0F01 : Yields .c286 (group group0F01 bs) := by
  refine yields_group fun k e bs wf => ?_
  unfold group0F01
  split
  case h_5 | h_6 => exact yields_ok (asEw_wf wf) rfl
  case h_7 => exact yields_ok rfl rfl
  all_goals
    rcases e with r | m
    · exact yields_ok rfl rfl
    · exact yields_ok wf rfl

/-! ## The opcode map (R230, R257) -/

theorem yields_decodeExt : Yields .c286 (decodeExt bs) := by
  unfold decodeExt
  split
  · exact answers_error
  · split
    · exact yields_group0F00
    · exact yields_group0F01
    · exact yields_formEwGw (fun _ _ => rfl) fun _ _ => rfl
    · exact yields_formEwGw (fun _ _ => rfl) fun _ _ => rfl
    all_goals exact yields_ok rfl rfl

theorem yields_decode0 (lo : Nat) : Yields cls (decode0 cls lo bs) := by
  unfold decode0
  split
  case h_2 | h_4 | h_10 | h_12 => exact yields_formEwGw (fun _ _ => rfl) fun _ _ => rfl
  case h_5 | h_6 | h_13 | h_14 => exact yields_map (fun _ => rfl) fun _ => rfl
  case h_7 | h_8 | h_15 => exact yields_ok rfl rfl
  case h_16 =>
    cases cls
    · exact yields_ok rfl rfl
    · exact yields_ok rfl rfl
    · exact yields_decodeExt
  all_goals exact yields_formEbGb (fun _ _ => rfl) fun _ _ => rfl

theorem yields_decode1 (lo : Nat) : Yields cls (decode1 cls lo bs) := by
  unfold decode1
  split
  case h_2 | h_4 | h_10 | h_12 => exact yields_formEwGw (fun _ _ => rfl) fun _ _ => rfl
  case h_5 | h_6 | h_13 | h_14 => exact yields_map (fun _ => rfl) fun _ => rfl
  case h_7 | h_8 | h_15 | h_16 => exact yields_ok rfl rfl
  all_goals exact yields_formEbGb (fun _ _ => rfl) fun _ _ => rfl

theorem yields_decode2 (lo : Nat) : Yields cls (decode2 cls lo bs) := by
  unfold decode2
  split
  case h_2 | h_4 | h_10 | h_12 => exact yields_formEwGw (fun _ _ => rfl) fun _ _ => rfl
  case h_5 | h_6 | h_13 | h_14 => exact yields_map (fun _ => rfl) fun _ => rfl
  case h_7 | h_8 | h_15 | h_16 => exact yields_ok rfl rfl
  all_goals exact yields_formEbGb (fun _ _ => rfl) fun _ _ => rfl

theorem yields_decode3 (lo : Nat) : Yields cls (decode3 cls lo bs) := by
  unfold decode3
  split
  case h_2 | h_4 | h_10 | h_12 => exact yields_formEwGw (fun _ _ => rfl) fun _ _ => rfl
  case h_5 | h_6 | h_13 | h_14 => exact yields_map (fun _ => rfl) fun _ => rfl
  case h_7 | h_8 | h_15 | h_16 => exact yields_ok rfl rfl
  all_goals exact yields_formEbGb (fun _ _ => rfl) fun _ _ => rfl

theorem yields_decode4 (lo : Nat) : Yields cls (decode4 cls lo bs) := by
  unfold decode4
  split <;> exact yields_ok rfl rfl

theorem yields_decode5 (lo : Nat) : Yields cls (decode5 cls lo bs) := by
  unfold decode5
  split <;> exact yields_ok rfl rfl

theorem yields_decode6 (lo : Nat) : Yields cls (decode6 cls lo bs) := by
  unfold decode6
  split
  case h_3 =>
    cases cls
    · exact yields_map (fun _ => rfl) fun _ => rfl
    · exact yields_formMGw (fun _ _ => rfl) fun _ _ => rfl
    · exact yields_formMGw (fun _ _ => rfl) fun _ _ => rfl
  case h_4 =>
    cases cls
    · exact yields_map (fun _ => rfl) fun _ => rfl
    · exact yields_ok rfl rfl
    · exact yields_formEwGw (fun _ _ => rfl) fun _ _ => rfl
  case h_9 | h_11 => cases cls <;> exact yields_map (fun _ => rfl) fun _ => rfl
  case h_10 | h_12 =>
    cases cls
    · exact yields_map (fun _ => rfl) fun _ => rfl
    · exact yields_formEwGwImm (fun _ _ _ => rfl) fun _ _ _ => rfl
    · exact yields_formEwGwImm (fun _ _ _ => rfl) fun _ _ _ => rfl
  all_goals
    cases cls
    · exact yields_map (fun _ => rfl) fun _ => rfl
    · exact yields_ok rfl rfl
    · exact yields_ok rfl rfl

theorem yields_decode7 (lo : Nat) : Yields cls (decode7 cls lo bs) := by
  unfold decode7
  split <;> exact yields_map (fun _ => rfl) fun _ => rfl

theorem yields_decode8 (lo : Nat) : Yields cls (decode8 cls lo bs) := by
  unfold decode8
  split
  case h_1 => exact yields_group80
  case h_2 => exact yields_group81
  case h_3 => exact yields_group82
  case h_4 => exact yields_group83
  case h_6 | h_8 | h_10 | h_12 => exact yields_formEwGw (fun _ _ => rfl) fun _ _ => rfl
  case h_13 => exact yields_group8C
  case h_14 => exact yields_formMGw (fun _ _ => rfl) fun _ _ => rfl
  case h_15 => exact yields_group8E
  case h_16 => exact yields_group8F
  all_goals exact yields_formEbGb (fun _ _ => rfl) fun _ _ => rfl

theorem yields_decode9 (lo : Nat) : Yields cls (decode9 cls lo bs) := by
  unfold decode9
  split
  case h_11 => exact yields_map (fun _ => rfl) fun _ => rfl
  all_goals exact yields_ok rfl rfl

theorem yields_decodeA (lo : Nat) : Yields cls (decodeA cls lo bs) := by
  unfold decodeA
  split
  case h_1 | h_2 | h_3 | h_4 | h_9 | h_10 => exact yields_map (fun _ => rfl) fun _ => rfl
  all_goals exact yields_ok rfl rfl

theorem yields_decodeB (lo : Nat) : Yields cls (decodeB cls lo bs) := by
  unfold decodeB
  split <;> exact yields_map (fun _ => rfl) fun _ => rfl

theorem yields_decodeC (lo : Nat) : Yields cls (decodeC cls lo bs) := by
  unfold decodeC
  split
  case h_1 =>
    cases cls
    · exact yields_map (fun _ => rfl) fun _ => rfl
    · exact yields_groupC0 rfl
    · exact yields_groupC0 rfl
  case h_2 =>
    cases cls
    · exact yields_ok rfl rfl
    · exact yields_groupC1 rfl
    · exact yields_groupC1 rfl
  case h_3 | h_11 | h_14 => exact yields_map (fun _ => rfl) fun _ => rfl
  case h_5 | h_6 => exact yields_formMGw (fun _ _ => rfl) fun _ _ => rfl
  case h_7 => exact yields_groupC6
  case h_8 => exact yields_groupC7
  case h_9 => cases cls <;> exact yields_map (fun _ => rfl) fun _ => rfl
  case h_10 => cases cls <;> exact yields_ok rfl rfl
  all_goals exact yields_ok rfl rfl

theorem yields_decodeD (lo : Nat) : Yields cls (decodeD cls lo bs) := by
  unfold decodeD
  split
  case h_1 => exact yields_groupD0
  case h_2 => exact yields_groupD1
  case h_3 => exact yields_groupD2
  case h_4 => exact yields_groupD3
  case h_5 | h_6 => exact yields_map (fun _ => rfl) fun _ => rfl
  case h_7 | h_8 => exact yields_ok rfl rfl
  all_goals exact yields_group fun _ _ _ wf => yields_ok (asEw_wf wf) rfl

theorem yields_decodeE (lo : Nat) : Yields cls (decodeE cls lo bs) := by
  unfold decodeE
  split
  case h_13 | h_14 | h_15 | h_16 => exact yields_ok rfl rfl
  all_goals exact yields_map (fun _ => rfl) fun _ => rfl

theorem yields_decodeF (lo : Nat) : Yields cls (decodeF cls lo bs) := by
  unfold decodeF
  split
  case h_2 => cases cls <;> exact yields_ok rfl rfl
  case h_7 => exact yields_groupF6
  case h_8 => exact yields_groupF7
  case h_15 => exact yields_groupFE
  case h_16 => exact yields_groupFF
  all_goals exact yields_ok rfl rfl

/-- The first byte, and of the bytes after it at most five; what they hold is an instruction of the class. -/
theorem decode_cons (cls : CpuClass) (op : Byte) (len : 5 ≤ bs.length) :
    Takes 5 bs (decode cls (op :: bs)) ∧ Yields cls (decode cls (op :: bs)) := by
  rw [decode]
  split
  · exact ⟨fits_decode0 cls _ bs len, yields_decode0 _⟩
  · exact ⟨fits_decode1 cls _ bs len, yields_decode1 _⟩
  · exact ⟨fits_decode2 cls _ bs len, yields_decode2 _⟩
  · exact ⟨fits_decode3 cls _ bs len, yields_decode3 _⟩
  · exact ⟨fits_decode4 cls _ bs len, yields_decode4 _⟩
  · exact ⟨fits_decode5 cls _ bs len, yields_decode5 _⟩
  · exact ⟨fits_decode6 cls _ bs len, yields_decode6 _⟩
  · exact ⟨fits_decode7 cls _ bs len, yields_decode7 _⟩
  · exact ⟨fits_decode8 cls _ bs len, yields_decode8 _⟩
  · exact ⟨fits_decode9 cls _ bs len, yields_decode9 _⟩
  · exact ⟨fits_decodeA cls _ bs len, yields_decodeA _⟩
  · exact ⟨fits_decodeB cls _ bs len, yields_decodeB _⟩
  · exact ⟨fits_decodeC cls _ bs len, yields_decodeC _⟩
  · exact ⟨fits_decodeD cls _ bs len, yields_decodeD _⟩
  · exact ⟨fits_decodeE cls _ bs len, yields_decodeE _⟩
  · exact ⟨fits_decodeF cls _ bs len, yields_decodeF _⟩

/-- Six bytes begin an instruction (R274). -/
theorem decode_six_bytes (cls : CpuClass) {bytes : List Byte} (h : 6 ≤ bytes.length) :
    ∃ i taken rest, bytes = taken ++ rest ∧ 1 ≤ taken.length ∧ taken.length ≤ 6 ∧
      decode cls bytes = .ok (i, rest) ∧ i.wfOn cls = true := by
  match bytes with
  | op :: bs =>
    obtain ⟨⟨i, n, hn, read⟩, yields⟩ := decode_cons cls op (Nat.le_of_succ_le_succ h)
    refine ⟨i, op :: bs.take n, bs.drop n, ?_, Nat.succ_pos _, ?_, read, yields i _ read⟩
    · rw [List.cons_append, List.take_append_drop]
    · rw [List.length_cons, List.length_take]; omega

/-! ## The encodings that are no instruction (R253, R257 to R261, R270 to R273) -/

theorem decode_reservedByte {op : Byte} (h : reservedByte cls op = true) :
    decode cls (op :: bs) = .ok (.invalidOpcode, bs) := by
  cases cls <;> simp only [reservedByte, Bool.or_eq_true, decide_eq_true_eq] at h
  case c86 => cases h
  case c186 => rcases h with (((((rfl | rfl) | rfl) | rfl) | rfl) | rfl) | rfl <;> rfl
  case c286 => rcases h with (((rfl | rfl) | rfl) | rfl) | rfl <;> rfl

section
variable {e : RM (BitVec 3)}

theorem exists_of_isReg {ρ : Type} {e : RM ρ} (reg : e.isReg = true) : ∃ r, e = .reg r := by
  cases e with
  | reg r => exact ⟨r, rfl⟩
  | mem m => cases reg

theorem formMGw_encodeRM_reg {c : MemRef → Reg16 → Instr} (reg : e.isReg = true) :
    formMGw cls c (encodeRM k e ++ bs) = .ok (badSlot cls, bs) := by
  obtain ⟨r, rfl⟩ := exists_of_isReg reg
  rw [formMGw, modrm_encodeRM rfl, Dec.map]

theorem group8F_bad (h : k ≠ 0) : group8F cls k e bs = .ok (badSlot cls, bs) := by
  unfold group8F
  split
  · exact absurd (BitVec.eq_of_toNat_eq ‹_›) h
  · rfl

theorem groupC6_bad (h : k ≠ 0) : groupC6 cls k e bs = .ok (badSlot cls, bs) := by
  unfold groupC6
  split
  · exact absurd (BitVec.eq_of_toNat_eq ‹_›) h
  · rfl

theorem groupC7_bad (h : k ≠ 0) : groupC7 cls k e bs = .ok (badSlot cls, bs) := by
  unfold groupC7
  split
  · exact absurd (BitVec.eq_of_toNat_eq ‹_›) h
  · rfl

theorem groupFE_bad (h : 2 ≤ k.toNat) : groupFE cls k e bs = .ok (badSlot cls, bs) := by
  unfold groupFE
  split
  · omega
  · omega
  · rfl

theorem groupFF_bad (h : (k = 7 || ((k = 3 || k = 5) && e.isReg)) = true) :
    groupFF cls k e bs = .ok (badSlot cls, bs) := by
  simp only [Bool.or_eq_true, Bool.and_eq_true, decide_eq_true_eq] at h
  rcases h with rfl | ⟨rfl | rfl, reg⟩
  · rfl
  all_goals
    obtain ⟨r, rfl⟩ := exists_of_isReg reg
    rfl

/-- Reg 4-7 of 8C exist on C86 only (R238). -/
theorem group8C_bad (later : cls = .c186 ∨ cls = .c286) (h : 4 ≤ k.toNat) :
    group8C cls k e bs = .ok (badSlot cls, bs) := by
  rcases later with rfl | rfl <;> exact if_neg (Nat.not_lt.mpr h)

/-- Reg 1 and reg 4-7 of 8E exist on C86 only (R238). -/
theorem group8E_bad (later : cls = .c186 ∨ cls = .c286) (h : k = 1 ∨ 4 ≤ k.toNat) :
    group8E cls k e bs = .ok (badSlot cls, bs) := by
  rcases later with rfl | rfl <;> exact if_pos h

/-- What the spec refuses on C86 raises #UD on the later classes (R270, R273). -/
theorem decode_refusedSlot {op : Byte} (wf : e.wf = true) (h : refusedSlot op k e = true) :
    decode cls (op :: (encodeRM k e ++ bs)) = .ok (badSlot cls, bs) := by
  unfold refusedSlot at h
  split_ifs at h with memory zero shift incDec ff
  · rcases memory with rfl | rfl | rfl <;> exact formMGw_encodeRM_reg h
  · have ne : k ≠ 0 := of_decide_eq_true h
    rcases zero with rfl | rfl | rfl
    · exact (group_encodeRM wf).trans (group8F_bad ne)
    · exact (group_encodeRM wf).trans (groupC6_bad ne)
    · exact (group_encodeRM wf).trans (groupC7_bad ne)
  · obtain rfl : k = 6 := of_decide_eq_true h
    rcases shift with rfl | rfl | rfl | rfl <;> exact group_encodeRM wf
  · subst incDec
    exact (group_encodeRM wf).trans (groupFE_bad (of_decide_eq_true h))
  · subst ff
    exact (group_encodeRM wf).trans (groupFF_bad h)

theorem decode_reservedSlot {op : Byte} (later : cls = .c186 ∨ cls = .c286) (wf : e.wf = true)
    (h : reservedSlot op k e = true) : decode cls (op :: (encodeRM k e ++ bs)) = .ok (badSlot cls, bs) := by
  unfold reservedSlot at h
  split_ifs at h with memory segStore segLoad zero shift test incDec ff
  · rcases memory with rfl | rfl | rfl | rfl
    · rcases later with rfl | rfl <;> exact formMGw_encodeRM_reg h
    all_goals exact decode_refusedSlot wf h
  · subst segStore
    exact (group_encodeRM wf).trans (group8C_bad later (of_decide_eq_true h))
  · subst segLoad
    simp only [Bool.or_eq_true, decide_eq_true_eq] at h
    exact (group_encodeRM wf).trans (group8E_bad later h)
  · rcases zero with rfl | rfl | rfl <;> exact decode_refusedSlot wf h
  · obtain rfl : k = 6 := of_decide_eq_true h
    rcases shift with rfl | rfl | rfl | rfl | rfl | rfl
    case inl | inr.inl => rcases later with rfl | rfl <;> exact group_encodeRM wf
    all_goals exact decode_refusedSlot wf rfl
  · obtain rfl : k = 1 := of_decide_eq_true h
    rcases test with rfl | rfl
    all_goals rcases later with rfl | rfl <;> exact group_encodeRM wf
  · subst incDec
    exact decode_refusedSlot wf h
  · subst ff
    exact decode_refusedSlot wf h

theorem decodeExt_reserved {op : Byte} (h : reservedExt op = true) :
    decodeExt (op :: bs) = .ok (.invalidOpcode, bs) := by
  simp only [reservedExt, Bool.or_eq_true, decide_eq_true_eq] at h
  rcases h with rfl | h
  · rfl
  · rw [decodeExt]
    split
    case h_7 => rfl
    all_goals omega

theorem group0F00_reserved (h : 6 ≤ k.toNat) : group0F00 k e bs = .ok (.invalidOpcode, bs) := by
  unfold group0F00
  split
  case h_7 => rfl
  all_goals omega

theorem group0F01_reserved (h : (k = 5 || k = 7 || (k.toNat ≤ 3 && e.isReg)) = true) :
    group0F01 k e bs = .ok (.invalidOpcode, bs) := by
  simp only [Bool.or_eq_true, Bool.and_eq_true, decide_eq_true_eq] at h
  rcases h with (rfl | rfl) | ⟨low, reg⟩
  · rfl
  · rfl
  · obtain ⟨r, rfl⟩ := exists_of_isReg reg
    unfold group0F01
    split
    case h_5 | h_6 => omega
    all_goals rfl

theorem decodeExt_reservedSlot {op : Byte} (wf : e.wf = true) (h : reservedExtSlot op k e = true) :
    decodeExt (op :: (encodeRM k e ++ bs)) = .ok (.invalidOpcode, bs) := by
  unfold reservedExtSlot at h
  split_ifs at h with group6 group7
  · subst group6
    exact (group_encodeRM wf).trans (group0F00_reserved (of_decide_eq_true h))
  · subst group7
    exact (group_encodeRM wf).trans (group0F01_reserved h)

end

theorem badSlot_later (later : cls = .c186 ∨ cls = .c286) : badSlot cls = .invalidOpcode := by
  rcases later with rfl | rfl <;> rfl

theorem decode_undefined {f : OpForm} (h : f.undefinedOn cls = true) :
    decode cls (f.encode ++ bs) = .ok (.invalidOpcode, bs) := by
  cases f with
  | byte op => exact decode_reservedByte h
  | modrm op k e =>
    simp only [OpForm.undefinedOn, Bool.and_eq_true, decide_eq_true_eq] at h
    obtain ⟨⟨ne, wf⟩, slot⟩ := h
    have later := later_of_ne ne
    exact badSlot_later later ▸ decode_reservedSlot later wf slot
  | ext op =>
    simp only [OpForm.undefinedOn, Bool.and_eq_true, decide_eq_true_eq] at h
    obtain ⟨rfl, ext⟩ := h
    exact decodeExt_reserved ext
  | extModrm op k e =>
    simp only [OpForm.undefinedOn, Bool.and_eq_true, decide_eq_true_eq] at h
    obtain ⟨⟨rfl, wf⟩, slot⟩ := h
    exact decodeExt_reservedSlot wf slot

theorem decode_refused {f : OpForm} (h : f.refusedOnC86 = true) :
    decode .c86 (f.encode ++ bs) = .ok (.reservedC86, bs) := by
  cases f with
  | modrm op k e =>
    obtain ⟨wf, slot⟩ : e.wf = true ∧ refusedSlot op k e = true := Bool.and_eq_true_iff.mp h
    exact decode_refusedSlot wf slot
  | byte | ext | extModrm => cases h

/-- Settles O7: the decoder's totality by what each opcode takes and answers, the encodings that are no instruction by
their slot of the opcode map. -/
theorem decodeTotal : Obligations.DecodeTotal :=
  ⟨fun cls _ h => decode_six_bytes cls h, fun _ _ _ h => decode_undefined h, fun _ _ h => decode_refused h,
    fun _ => rfl, fun s => ⟨⟨s, rfl⟩, rfl, rfl⟩⟩

/-- Settles O8, by evaluating the decoder on each word. -/
theorem decodeWords : Obligations.DecodeWords := by
  unfold Obligations.DecodeWords
  and_intros <;> exact rfl

end Sys2Proof.Machine
end

section
/-! The one- and two-operand instructions (42_arithmetic.md R400 to R410, 43_logic_shift.md R500 to R504): the flags that
each record of a result derives, what the operations do, and what reading and writing an operand of either width adds. -/

namespace Sys2Proof.Machine

variable {s t u : State}

/-! ## The flags of a state (10 R30 to R37) -/

theorem flags_of_triple (h : t.triple = s.triple) : t.flags = s.flags := congrArg FlagTriple.flags h

@[simp] theorem latchTrap_flags (s t : State) : (s.latchTrap t).flags = t.flags := flags_of_triple (by simp)

@[simp] theorem setFlags_flags (s : State) (f : Flags) (z : ResultSize) : (s.setFlags f z).flags = f :=
  encode_flags f z

@[simp] theorem drawn_flags (s : State) : s.drawn.flags = s.flags := rfl

/-- The flags of a logical result are set from those derived of it, and AF is free (43 R500). -/
theorem setLogic_flags {n : Nat} (s : State) (z : ResultSize) (r : BitVec n) :
    (s.setLogic z r).flags = { (logicTriple z r).flags with af := s.undefinedFlag .af } := by
  rw [State.setLogic, drawn_flags, setFlags_flags]

/-- The record of a logical result is that of adding nothing to it. -/
theorem logicTriple_eq_addTriple {n : Nat} (z : ResultSize) (r : BitVec n) :
    logicTriple z r = addTriple z r 0 false := by
  simp [logicTriple, addTriple, carryBit]

/-- Adding nothing gives the flags of a logical result. -/
theorem ofLogic_addFlags_zero {n : Nat} (r : BitVec n) : ofLogic r (addFlags r 0 false) := by
  have lt := r.isLt
  simp [ofLogic, ofResult, addFlags, carryIn, lt]

theorem carryIn_eq (n : Nat) (c : Bool) : carryIn n c = if c then 1 else 0 := by cases c <;> rfl

/-- A record whose carry is put in afresh, the rest of its value kept (10 R35). -/
theorem flags_withCarry (r : FlagTriple) (c : Bool) :
    FlagTriple.flags { r with value := (r.value &&& (r.size.bit - 1)) ||| (if c then r.size.bit else 0) } =
      { r.flags with cf := c } := by
  obtain ⟨v, p, a, z⟩ := r
  have above : (z.bit - 1) &&& z.bit = 0 := by cases z <;> rfl
  have below : z.bit &&& (z.bit - 1#17) = 0#17 := by cases z <;> rfl
  have bit : z.bit ≠ 0#17 := by cases z <;> decide
  have cf : (((v &&& (z.bit - 1)) ||| (if c then z.bit else 0)) &&& z.bit != 0) = c := by
    rw [BitVec.and_or_distrib_right, BitVec.and_assoc, above]
    cases c <;> simp [bit]
  have zf : ((v &&& (z.bit - 1)) ||| (if c then z.bit else 0)) &&& (z.bit - 1) = v &&& (z.bit - 1) := by
    rw [BitVec.and_or_distrib_right, BitVec.and_assoc, BitVec.and_self]
    cases c <;> simp [below]
  simp only [FlagTriple.flags, cf, zf]

/-- The records of a size are those of results of a width: their flags are the arithmetic ones (10 R32, R33). -/
structure ResultSize.Fits (z : ResultSize) (n : Nat) : Prop where
  add : ∀ (d x : BitVec n) (c : Bool), (addTriple z d x c).flags = addFlags d x c
  sub : ∀ (d x : BitVec n) (c : Bool), (subTriple z d x c).flags = subFlags d x c
  one : (1#n).setWidth 17 = 1#17

theorem byte_fits : ResultSize.byte.Fits 8 := ⟨addTriple_byte, subTriple_byte, rfl⟩

theorem word_fits : ResultSize.word.Fits 16 := ⟨addTriple_word, subTriple_word, rfl⟩

section
variable {n : Nat} {z : ResultSize} (fits : z.Fits n)
include fits

theorem ofLogic_logicTriple (r : BitVec n) : ofLogic r (logicTriple z r).flags := by
  rw [logicTriple_eq_addTriple, fits.add]
  exact ofLogic_addFlags_zero r

theorem ofLogic_setLogic (s : State) (r : BitVec n) : ofLogic r (s.setLogic z r).flags := by
  rw [setLogic_flags]
  exact ofLogic_logicTriple fits r

/-- INC is an addition of 1 that keeps CF (10 R35). -/
theorem incTriple_flags (d : BitVec n) (c : Bool) : (incTriple z d c).flags = { addFlags d 1 false with cf := c } := by
  rw [← fits.add, ← flags_withCarry]
  simp [incTriple, addTriple, carryBit, fits.one, BitVec.setWidth_xor]

/-- DEC is a subtraction of 1 that keeps CF (10 R35). -/
theorem decTriple_flags (d : BitVec n) (c : Bool) : (decTriple z d c).flags = { subFlags d 1 false with cf := c } := by
  have low : z.mask &&& (z.bit - 1#17) = z.bit - 1#17 := by cases z <;> rfl
  rw [← fits.sub, ← flags_withCarry]
  simp [decTriple, subTriple, carryBit, fits.one, BitVec.setWidth_xor, BitVec.and_assoc, low]

end

/-! ## The operations (42 R400 to R410, 43 R500 to R504) -/

/-- The model's meaning of each two-operand operation. -/
def aluOp {n : Nat} (z : ResultSize) : AluOp → BinOp n
  | .add => addOp z
  | .or => orOp z
  | .adc => adcOp z
  | .sbb => sbbOp z
  | .and => andOp z
  | .sub => subOp z
  | .xor => xorOp z
  | .cmp => subOp z
  | .test => andOp z

/-- The model's meaning of each one-operand operation. -/
def unaryOp {n : Nat} (z : ResultSize) : UnaryOp → UnOp n
  | .inc => incOp z
  | .dec => decOp z
  | .neg => negOp z
  | .not => notOp

section
variable {n : Nat} {z : ResultSize}

theorem aluOp_result (o : AluOp) (d x : BitVec n) (s : State) : (aluOp z o d x s).1 = o.result s.flags.cf d x := by
  cases o
  case adc => exact congrArg (d + x + ·) (carryIn_eq n _).symm
  case sbb => exact congrArg (d - x - ·) (carryIn_eq n _).symm
  all_goals rfl

theorem touches_aluOp (o : AluOp) (d x : BitVec n) (s : State) : Touches s (aluOp z o d x s).2 [] [] := by
  cases o <;> exact .quiet rfl

theorem aluOp_flagged (fits : z.Fits n) (o : AluOp) (d x : BitVec n) (s : State) :
    o.flagged s.flags.cf d x (aluOp z o d x s).2.flags := by
  cases o
  case add | adc => exact fits.add d x _
  case sub | sbb | cmp => exact fits.sub d x _
  case or | and | xor | test => exact ofLogic_setLogic fits s _

theorem unaryOp_result (o : UnaryOp) (d : BitVec n) (s : State) : (unaryOp z o d s).1 = o.result d := by
  cases o <;> rfl

theorem touches_unaryOp (o : UnaryOp) (d : BitVec n) (s : State) : Touches s (unaryOp z o d s).2 [] [] := by
  cases o <;> exact .quiet rfl

theorem unaryOp_flags (fits : z.Fits n) (o : UnaryOp) (d : BitVec n) (s : State) :
    (unaryOp z o d s).2.flags = o.flags s.flags d := by
  cases o
  case inc => exact incTriple_flags fits d _
  case dec => exact decTriple_flags fits d _
  case neg => exact fits.sub 0 d false
  case not => rfl

end

/-! ## Operands of either width (30 R227) -/

/-- What the forms of the byte operations and those of the word operations have in common: an operand is read and
written, and the frame of an instruction that wrote one, or none. -/
structure OperandWidth (ρ : Type) (n : Nat) where
  size     : ResultSize
  fits     : size.Fits n
  read     : State → RM ρ → Res (BitVec n × State)
  write    : State → RM ρ → BitVec n → Res State
  value    : State → RM ρ → BitVec n
  canRead  : State → RM ρ → Prop
  canWrite : State → RM ρ → Prop
  /-- `t` is left by an instruction that began in `s` and stored a value in an operand. -/
  Stored   : State → State → BitVec n → RM ρ → Prop
  /-- `t` is left by an instruction that began in `s` and stored nothing. -/
  Kept     : State → State → Prop
  read_ok  : ∀ {s e}, canRead s e → ∃ u, read s e = .ok (value s e, u) ∧ u.triple = s.triple ∧ Touches s u [] []
  write_ok : ∀ {s u e} (v), Touches s u [] [] → canWrite s e →
    ∃ t, write u e v = .ok t ∧ t.triple = u.triple ∧ Stored s (s.latchTrap t) v e
  keeps    : ∀ {s u}, Touches s u [] [] → Kept s (s.latchTrap u)

section
variable {dest : List Reg8} {stored : List Nat}

@[simp] theorem latchTrap_reg (s t : State) (r : Reg16) : (s.latchTrap t).reg r = t.reg r := by simp [State.reg]

@[simp] theorem latchTrap_reg8 (s t : State) (r : Reg8) : (s.latchTrap t).reg8 r = t.reg8 r := by simp [State.reg8]

/-- What completes with byte registers written has the frame of bytes. -/
theorem Touches.frame8 (h : Touches s t (dest.map reg8Word) stored) (bytes : ∀ r, r ∉ dest → t.reg8 r = s.reg8 r) :
    Frame8 s (s.latchTrap t) dest stored :=
  { h.frame with bytes := fun r out => (latchTrap_reg8 s t r).trans (bytes r out) }

end

/-- Writing a byte operand after what touches no register and no memory. -/
theorem writeEb_stored {e : RM Reg8} (v : Byte) (h : Touches s u [] []) (can : s.canWriteEb e) :
    ∃ t, u.writeEb e v = .ok t ∧ t.triple = u.triple ∧
      s.holdsEb (s.latchTrap t) v e ∧ Frame8 s (s.latchTrap t) (destEb e) (s.storedEb e) := by
  have can' : u.canWriteEb e := by
    cases e with
    | reg r => trivial
    | mem m => simpa only [State.canWriteEb, h.accessFault, h.opSeg, h.ea] using can
  obtain ⟨t, run, triple, touch, holds, bytes⟩ := writeEb_ok can' v
  refine ⟨t, run, triple, ?_, ?_⟩
  · cases e with
    | reg r => exact (latchTrap_reg8 s t r).trans holds
    | mem m =>
      simpa only [State.holdsEb, State.holdsByte, h.segAddr, h.opSeg, h.ea, h.kindAt, State.latchTrap_mem] using holds
  · have same : u.storedEb e = s.storedEb e := by
      cases e with
      | reg r => rfl
      | mem m => simp only [State.storedEb, h.segAddr, h.opSeg, h.ea]
    exact (same ▸ h.trans touch).frame8 fun r out => (bytes r out).trans (h.reg8 r)

/-- Writing a word operand after what touches no register and no memory. -/
theorem writeEw_stored {e : RM Reg16} (v : Word) (h : Touches s u [] []) (can : s.canWriteEw e) :
    ∃ t, u.writeEw e v = .ok t ∧ t.triple = u.triple ∧
      s.holdsEw (s.latchTrap t) v e ∧ Frame s (s.latchTrap t) (destEw e) (s.storedEw e) := by
  have can' : u.canWriteEw e := by
    cases e with
    | reg r => trivial
    | mem m => simpa only [State.canWriteEw, h.accessFault, h.opSeg, h.ea] using can
  obtain ⟨t, run, triple, touch, holds⟩ := writeEw_ok can' v
  refine ⟨t, run, triple, ?_, ?_⟩
  · cases e with
    | reg r => exact (latchTrap_reg s t r).trans holds
    | mem m =>
      simpa only [State.holdsEw, State.holdsWord, State.holdsByte, h.wordAddrs, h.opSeg, h.ea, h.kindAt,
        State.latchTrap_mem] using holds
  · have same : u.storedEw e = s.storedEw e := by
      cases e with
      | reg r => rfl
      | mem m => simp only [State.storedEw, State.storedWord, h.wordAddrs, h.opSeg, h.ea]
    exact (same ▸ h.trans touch).frame

/-- Byte operands. -/
def byteOperands : OperandWidth Reg8 8 where
  size := .byte
  fits := byte_fits
  read := State.readEb
  write := State.writeEb
  value := State.valueEb
  canRead := State.canReadEb
  canWrite := State.canWriteEb
  Stored s t v e := s.holdsEb t v e ∧ Frame8 s t (destEb e) (s.storedEb e)
  Kept s t := Frame8 s t [] []
  read_ok := readEb_ok
  write_ok := writeEb_stored
  keeps h := h.frame8 fun r _ => h.reg8 r

/-- Word operands. -/
def wordOperands : OperandWidth Reg16 16 where
  size := .word
  fits := word_fits
  read := State.readEw
  write := State.writeEw
  value := State.valueEw
  canRead := State.canReadEw
  canWrite := State.canWriteEw
  Stored s t v e := s.holdsEw t v e ∧ Frame s t (destEw e) (s.storedEw e)
  Kept s t := Frame s t [] []
  read_ok {s e} h := ⟨s.afterEw e, readEw_ok h, afterEw_triple s e, touches_afterEw s e⟩
  write_ok := writeEw_stored
  keeps h := h.frame

/-- The instruction began in `s`, did `o` on `a` and `b`, and completed: the flags are set, and the result is in `d`
if the operation writes one. -/
def OperandWidth.AluDone {ρ : Type} {n : Nat} (w : OperandWidth ρ n) (s : State) (o : AluOp) (d : RM ρ)
    (a b : BitVec n) (out : Host.Outcome State Fault Refusal) : Prop :=
  ∃ t, out = .next t ∧ o.flagged s.flags.cf a b t.flags ∧
    if o.writes then w.Stored s t (o.result s.flags.cf a b) d else w.Kept s t

/-- The same of an operation on one operand. -/
def OperandWidth.UnaryDone {ρ : Type} {n : Nat} (w : OperandWidth ρ n) (s : State) (o : UnaryOp) (d : RM ρ)
    (out : Host.Outcome State Fault Refusal) : Prop :=
  ∃ t, out = .next t ∧ w.Stored s t (o.result (w.value s d)) d ∧ t.flags = o.flags s.flags (w.value s d)

section
variable {ρ : Type} {n : Nat} (w : OperandWidth ρ n) {o : AluOp} {d e : RM ρ} {a b : BitVec n}

/-- The operation's last part: its result is written. -/
theorem OperandWidth.alu_write (writes : o.writes = true) (triple : u.triple = s.triple) (h : Touches s u [] [])
    (can : w.canWrite s d) :
    w.AluDone s o d a b (s.finish (w.write (aluOp w.size o a b u).2 d (aluOp w.size o a b u).1)) := by
  obtain ⟨t, run, same, stored⟩ := w.write_ok (aluOp w.size o a b u).1 (h.trans (touches_aluOp o a b u)) can
  refine ⟨s.latchTrap t, congrArg s.finish run, ?_, ?_⟩
  · rw [latchTrap_flags, flags_of_triple same, ← flags_of_triple triple]
    exact aluOp_flagged w.fits o a b u
  · rwa [if_pos writes, ← flags_of_triple triple, ← aluOp_result (z := w.size)]

/-- The operation's last part, where it only sets the flags. -/
theorem OperandWidth.alu_test (tests : o.writes = false) (triple : u.triple = s.triple) (h : Touches s u [] []) :
    w.AluDone s o d a b (s.finish (.ok (aluOp w.size o a b u).2)) := by
  refine ⟨_, rfl, ?_, ?_⟩
  · rw [latchTrap_flags, ← flags_of_triple triple]
    exact aluOp_flagged w.fits o a b u
  · rw [if_neg (ne_true_of_eq_false tests)]
    exact w.keeps (h.trans (touches_aluOp o a b u))

/-- E is the destination, a value the source. -/
theorem OperandWidth.alu_dest (writes : o.writes = true) (read : w.canRead s d) (can : w.canWrite s d) :
    w.AluDone s o d (w.value s d) b
      (s.finish (w.read s d >>= fun p => w.write (aluOp w.size o p.1 b p.2).2 d (aluOp w.size o p.1 b p.2).1)) := by
  obtain ⟨u, run, triple, h⟩ := w.read_ok read
  rw [run]
  exact w.alu_write writes triple h can

/-- What can be written is the destination, E the source. -/
theorem OperandWidth.alu_source (writes : o.writes = true) (read : w.canRead s e) (can : w.canWrite s d) :
    w.AluDone s o d a (w.value s e)
      (s.finish (w.read s e >>= fun p => w.write (aluOp w.size o a p.1 p.2).2 d (aluOp w.size o a p.1 p.2).1)) := by
  obtain ⟨u, run, triple, h⟩ := w.read_ok read
  rw [run]
  exact w.alu_write writes triple h can

/-- E is compared with a value. -/
theorem OperandWidth.alu_testDest (tests : o.writes = false) (read : w.canRead s d) :
    w.AluDone s o d (w.value s d) b (s.finish (w.read s d >>= fun p => .ok (aluOp w.size o p.1 b p.2).2)) := by
  obtain ⟨u, run, triple, h⟩ := w.read_ok read
  rw [run]
  exact w.alu_test tests triple h

/-- A value is compared with E. -/
theorem OperandWidth.alu_testSource (tests : o.writes = false) (read : w.canRead s e) :
    w.AluDone s o d a (w.value s e) (s.finish (w.read s e >>= fun p => .ok (aluOp w.size o a p.1 p.2).2)) := by
  obtain ⟨u, run, triple, h⟩ := w.read_ok read
  rw [run]
  exact w.alu_test tests triple h

/-- An operation on one operand. -/
theorem OperandWidth.unary_done {o : UnaryOp} (read : w.canRead s d) (can : w.canWrite s d) :
    w.UnaryDone s o d
      (s.finish (w.read s d >>= fun p => w.write (unaryOp w.size o p.1 p.2).2 d (unaryOp w.size o p.1 p.2).1)) := by
  obtain ⟨u, run, triple, h⟩ := w.read_ok read
  rw [run]
  obtain ⟨t, run, same, stored⟩ :=
    w.write_ok (unaryOp w.size o (w.value s d) u).1 (h.trans (touches_unaryOp o (w.value s d) u)) can
  refine ⟨s.latchTrap t, congrArg s.finish run, ?_, ?_⟩
  · rwa [← unaryOp_result (z := w.size)]
  · rw [latchTrap_flags, flags_of_triple same, ← flags_of_triple triple]
    exact unaryOp_flags w.fits o _ u

end

/-! ## The forms -/

theorem aluForm8_done {i : Instr} {o : AluOp} {d : RM Reg8} {x : Src Reg8 8} (form : aluForm8 i = some (o, d, x))
    (read : s.canReadEb d) (source : s.canReadSrc8 x) (can : o.writes = true → s.canWriteEb d) :
    byteOperands.AluDone s o d (s.valueEb d) (s.valueSrc8 x) (exec i s) := by
  cases i <;> cases form
  case addEbGb | addEbIb | orEbGb | orEbIb | adcEbGb | adcEbIb | sbbEbGb | sbbEbIb | andEbGb | andEbIb | subEbGb |
      subEbIb | xorEbGb | xorEbIb | addAlIb | orAlIb | adcAlIb | sbbAlIb | andAlIb | subAlIb | xorAlIb =>
    exact byteOperands.alu_dest rfl read (can rfl)
  case addGbEb | orGbEb | adcGbEb | sbbGbEb | andGbEb | subGbEb | xorGbEb =>
    exact byteOperands.alu_source rfl source (can rfl)
  case cmpEbGb | cmpAlIb | cmpEbIb | testEbGb | testAlIb | testEbIb | testEbIb1 =>
    exact byteOperands.alu_testDest rfl read
  case cmpGbEb => exact byteOperands.alu_testSource rfl source

theorem aluForm16_done {i : Instr} {o : AluOp} {d : RM Reg16} {x : Src Reg16 16} (form : aluForm16 i = some (o, d, x))
    (read : s.canReadEw d) (source : s.canReadSrc16 x) (can : o.writes = true → s.canWriteEw d) :
    wordOperands.AluDone s o d (s.valueEw d) (s.valueSrc16 x) (exec i s) := by
  cases i <;> cases form
  case addEwGw | addEwIw | addEwIbs | orEwGw | orEwIw | orEwIbs | adcEwGw | adcEwIw | adcEwIbs | sbbEwGw | sbbEwIw |
      sbbEwIbs | andEwGw | andEwIw | andEwIbs | subEwGw | subEwIw | subEwIbs | xorEwGw | xorEwIw | xorEwIbs |
      addAxIw | orAxIw | adcAxIw | sbbAxIw | andAxIw | subAxIw | xorAxIw =>
    exact wordOperands.alu_dest rfl read (can rfl)
  case addGwEw | orGwEw | adcGwEw | sbbGwEw | andGwEw | subGwEw | xorGwEw =>
    exact wordOperands.alu_source rfl source (can rfl)
  case cmpEwGw | cmpAxIw | cmpEwIw | cmpEwIbs | testEwGw | testAxIw | testEwIw | testEwIw1 =>
    exact wordOperands.alu_testDest rfl read
  case cmpGwEw => exact wordOperands.alu_testSource rfl source

theorem unaryForm8_done {i : Instr} {o : UnaryOp} {d : RM Reg8} (form : unaryForm8 i = some (o, d))
    (read : s.canReadEb d) (can : s.canWriteEb d) : byteOperands.UnaryDone s o d (exec i s) := by
  cases i <;> cases form <;> exact byteOperands.unary_done read can

theorem unaryForm16_done {i : Instr} {o : UnaryOp} {d : RM Reg16} (form : unaryForm16 i = some (o, d))
    (read : s.canReadEw d) (can : s.canWriteEw d) : wordOperands.UnaryDone s o d (exec i s) := by
  cases i <;> cases form <;> exact wordOperands.unary_done read can

/-- Settles O13: each byte form reads its operand, does its operation and writes the result or not. -/
theorem aluBytes : Obligations.AluBytes := fun _ _ _ _ _ form read source can => aluForm8_done form read source can

/-- Settles O14: each word form, as the byte forms. -/
theorem aluWords : Obligations.AluWords := fun _ _ _ _ _ form read source can => aluForm16_done form read source can

/-- Settles O15: each form reads its operand, does its operation and writes the result. -/
theorem unaryInstructions : Obligations.UnaryInstructions := by
  refine ⟨fun s i o d form read can => ?_, fun s i o d form read can => ?_⟩
  · obtain ⟨t, run, ⟨holds, frame⟩, flags⟩ := unaryForm8_done form read can
    exact ⟨t, run, holds, flags, frame⟩
  · obtain ⟨t, run, ⟨holds, frame⟩, flags⟩ := unaryForm16_done form read can
    exact ⟨t, run, holds, flags, frame⟩

end Sys2Proof.Machine
end

section
/-! Multiplication and division (42_arithmetic.md R411 to R415): products and quotients of words and double words as
numbers, and what the instructions do with them. -/

namespace Sys2Proof.Machine

variable {s t u : State}

/-! ## Halves -/

theorem loByte_toNat (w : Word) : (loByte w).toNat = w.toNat % 256 := by
  rw [loByte, BitVec.extractLsb'_toNat, Nat.shiftRight_zero]

theorem hiByte_toNat (w : Word) : (hiByte w).toNat = w.toNat / 256 := by
  have lt := w.isLt
  rw [hiByte, BitVec.extractLsb'_toNat, Nat.shiftRight_eq_div_pow]
  omega

theorem hiByte_ne_zero (w : Word) : (hiByte w != 0) = decide (256 ≤ w.toNat) := by
  rw [Bool.eq_iff_iff, bne_iff_ne, decide_eq_true_eq, ne_eq, ← BitVec.toNat_inj, hiByte_toNat,
    show (0 : Byte).toNat = 0 from rfl]
  omega

theorem dxax_of_regs (h : t.regs = u.regs) : t.dxax = u.dxax := by simp only [State.dxax, State.reg, h]

theorem reg_of_regs (h : t.regs = u.regs) (r : Reg16) : t.reg r = u.reg r := congrArg (Regs.get · r) h

theorem halves_of_ax {lo hi : Byte} (ax : t.reg .ax = mkWord lo hi) : t.reg8 .al = lo ∧ t.reg8 .ah = hi :=
  ⟨(congrArg loByte ax).trans (loByte_mkWord lo hi), (congrArg hiByte ax).trans (hiByte_mkWord lo hi)⟩

theorem touches_setReg_ax_dx (s : State) (q r : Word) :
    Touches s ((s.setReg .ax q).setReg .dx r) [.ax, .dx] [] :=
  (touches_setReg s .ax q).trans (touches_setReg _ .dx r)

theorem touches_setDxax (s : State) (p : BitVec 32) : Touches s (s.setDxax p) [.ax, .dx] [] :=
  touches_setReg_ax_dx s _ _

@[simp] theorem setDxax_ax (s : State) (p : BitVec 32) : (s.setDxax p).reg .ax = p.extractLsb' 0 16 := rfl

@[simp] theorem setDxax_dx (s : State) (p : BitVec 32) : (s.setDxax p).reg .dx = p.extractLsb' 16 16 := rfl

@[simp] theorem setDxax_dxax (s : State) (p : BitVec 32) : (s.setDxax p).dxax = p :=
  BitVec.extractLsb'_append_extractLsb' (w := 16) (len := 16)

/-! ## Products -/

section
variable {n m : Nat}

/-- A product of two numbers fits in twice their width. -/
theorem toNat_setWidth_mul (double : m = n + n) (a b : BitVec n) :
    (a.setWidth m * b.setWidth m).toNat = a.toNat * b.toNat := by
  have le : 2 ^ n ≤ 2 ^ m := Nat.pow_le_pow_right (by decide) (by omega)
  have prod : a.toNat * b.toNat < 2 ^ m := by
    rw [double, Nat.pow_add]
    exact Nat.mul_lt_mul'' a.isLt b.isLt
  rw [BitVec.toNat_mul, BitVec.toNat_setWidth, BitVec.toNat_setWidth, Nat.mod_eq_of_lt (a.isLt.trans_le le),
    Nat.mod_eq_of_lt (b.isLt.trans_le le), Nat.mod_eq_of_lt prod]

/-- A product of two signed numbers fits in twice their width. -/
theorem toInt_signExtend_mul (pos : 0 < n) (double : m = n * 2) (a b : BitVec n) :
    (a.signExtend m * b.signExtend m).toInt = a.toInt * b.toInt := by
  have above := BitVec.toInt_mul_toInt_le (x := a) (y := b)
  have below := BitVec.le_toInt_mul_toInt (x := a) (y := b)
  have quarter : (2 : Int) ^ m = 2 ^ (n * 2 - 2) * 4 := by
    rw [show m = n * 2 - 2 + 2 by omega, pow_add]; rfl
  have half : (0 : Int) < 2 ^ (n * 2 - 2) := by positivity
  rw [BitVec.toInt_mul, BitVec.toInt_signExtend_of_le (by omega), BitVec.toInt_signExtend_of_le (by omega)]
  apply Int.bmod_eq_of_le_mul_two <;> rw [Nat.cast_pow, Nat.cast_ofNat, quarter] <;> omega

/-- A number is not the extension of another when their values differ. -/
theorem ne_signExtend (le : n ≤ m) (p : BitVec m) (q : BitVec n) :
    (p != q.signExtend m) = decide (q.toInt ≠ p.toInt) := by
  rw [Bool.eq_iff_iff, bne_iff_ne, decide_eq_true_eq, ne_eq, ne_eq, ← BitVec.toInt_inj,
    BitVec.toInt_signExtend_of_le le, eq_comm]

end

/-! ## Multiplication (R411 to R413) -/

/-- The shape of every multiplication: of the operand read, a product that is put where it belongs, and CF = OF. -/
def OperandWidth.mulWith {ρ : Type} {n m : Nat} (w : OperandWidth ρ n) (prod : BitVec n → BitVec m)
    (put : BitVec m → State → State) (wide : BitVec m → Bool) (s : State) (e : RM ρ) : Res State :=
  w.read s e >>= fun p => .ok ((put (prod p.1) p.2).setMul w.size (wide (prod p.1)))

theorem mulByte_eq (s : State) (e : RM Reg8) : s.mulByte e =
    byteOperands.mulWith (zext16 (s.reg8 .al) * zext16 ·) (fun p u => u.setReg .ax p) (hiByte · != 0) s e := rfl

theorem imulByte_eq (s : State) (e : RM Reg8) : s.imulByte e =
    byteOperands.mulWith (sext16 (s.reg8 .al) * sext16 ·) (fun p u => u.setReg .ax p)
      (fun p => p != sext16 (loByte p)) s e := rfl

theorem mulWord_eq (s : State) (e : RM Reg16) : s.mulWord e =
    wordOperands.mulWith ((s.reg .ax).setWidth 32 * ·.setWidth 32) (fun p u => u.setDxax p)
      (·.extractLsb' 16 16 != 0) s e := rfl

theorem imulWord_eq (s : State) (e : RM Reg16) : s.imulWord e =
    wordOperands.mulWith ((s.reg .ax).signExtend 32 * ·.signExtend 32) (fun p u => u.setDxax p)
      (fun p => p != (p.extractLsb' 0 16).signExtend 32) s e := rfl

theorem imulImm_eq (s : State) (g : Reg16) (e : RM Reg16) (imm : Word) : s.imulImm g e imm =
    wordOperands.mulWith (·.signExtend 32 * imm.signExtend 32) (fun p u => u.setReg g (p.extractLsb' 0 16))
      (fun p => p != (p.extractLsb' 0 16).signExtend 32) s e := rfl

theorem setMul_flags (s : State) (z : ResultSize) (wide : Bool) :
    (s.setMul z wide).flags.cf = wide ∧ (s.setMul z wide).flags.of = wide := by
  rw [State.setMul, drawn_flags, setFlags_flags]
  exact ⟨rfl, rfl⟩

theorem touches_setMul (s : State) (z : ResultSize) (wide : Bool) : Touches s (s.setMul z wide) [] [] := .quiet rfl

theorem OperandWidth.mulWith_done {ρ : Type} {n m : Nat} (w : OperandWidth ρ n) {prod : BitVec n → BitVec m}
    {put : BitVec m → State → State} {wide : BitVec m → Bool} {e : RM ρ} {body : Res State} {dest : List Reg16}
    (shape : body = w.mulWith prod put wide s e) (read : w.canRead s e)
    (touch : ∀ p u, Touches u (put p u) dest []) :
    ∃ u t, s.finish body = .next t ∧ t.regs = (put (prod (w.value s e)) u).regs ∧
      t.flags.cf = wide (prod (w.value s e)) ∧ t.flags.of = t.flags.cf ∧ Frame s t dest [] := by
  obtain ⟨u, run, -, h⟩ := w.read_ok read
  obtain ⟨cf, of⟩ := setMul_flags (put (prod (w.value s e)) u) w.size (wide (prod (w.value s e)))
  have all := (h.trans (touch (prod (w.value s e)) u)).trans (touches_setMul _ w.size (wide (prod (w.value s e))))
  rw [List.nil_append, List.append_nil] at all
  refine ⟨u, s.latchTrap _, ?_, ?_, ?_, ?_, all.frame⟩
  · rw [shape, OperandWidth.mulWith, run]; rfl
  · simp
  · rw [latchTrap_flags, cf]
  · rw [latchTrap_flags, cf, of]


section
variable {e : RM Reg8}

theorem mulEb_done (h : s.canReadEb e) :
    ∃ t, exec (.mulEb e) s = .next t ∧ (t.reg .ax).toNat = (s.reg8 .al).toNat * (s.valueEb e).toNat ∧
      t.flags.cf = decide (256 ≤ (s.reg8 .al).toNat * (s.valueEb e).toNat) ∧ t.flags.of = t.flags.cf ∧
      Frame s t [.ax] [] := by
  obtain ⟨u, t, run, regs, cf, of, frame⟩ :=
    byteOperands.mulWith_done (mulByte_eq s e) h fun p u => touches_setReg u .ax p
  have product := toNat_setWidth_mul (m := 16) rfl (s.reg8 .al) (s.valueEb e)
  refine ⟨t, run, ?_, ?_, of, frame⟩
  · rw [reg_of_regs regs, reg_setReg_same]
    exact product
  · rw [cf, hiByte_ne_zero, ← product]
    rfl

theorem imulEb_done (h : s.canReadEb e) :
    ∃ t, exec (.imulEb e) s = .next t ∧ (t.reg .ax).toInt = (s.reg8 .al).toInt * (s.valueEb e).toInt ∧
      t.flags.cf = decide ((loByte (t.reg .ax)).toInt ≠ (t.reg .ax).toInt) ∧ t.flags.of = t.flags.cf ∧
      Frame s t [.ax] [] := by
  obtain ⟨u, t, run, regs, cf, of, frame⟩ :=
    byteOperands.mulWith_done (imulByte_eq s e) h fun p u => touches_setReg u .ax p
  have ax := reg_of_regs regs .ax
  rw [reg_setReg_same] at ax
  refine ⟨t, run, ?_, ?_, of, frame⟩
  · rw [ax]
    exact toInt_signExtend_mul (by decide) rfl (s.reg8 .al) (s.valueEb e)
  · rw [cf, ax]
    exact ne_signExtend (by decide) _ _

end

section
variable {e : RM Reg16}

theorem mulEw_done (h : s.canReadEw e) :
    ∃ t, exec (.mulEw e) s = .next t ∧ t.dxax.toNat = (s.reg .ax).toNat * (s.valueEw e).toNat ∧
      t.flags.cf = decide (t.reg .dx ≠ 0) ∧ t.flags.of = t.flags.cf ∧ Frame s t [.ax, .dx] [] := by
  obtain ⟨u, t, run, regs, cf, of, frame⟩ :=
    wordOperands.mulWith_done (mulWord_eq s e) h fun p u => touches_setDxax u p
  refine ⟨t, run, ?_, ?_, of, frame⟩
  · rw [dxax_of_regs regs, setDxax_dxax]
    exact toNat_setWidth_mul rfl (s.reg .ax) (s.valueEw e)
  · rw [cf, reg_of_regs regs, setDxax_dx]
    exact (decide_not ..).symm

theorem imulEw_done (h : s.canReadEw e) :
    ∃ t, exec (.imulEw e) s = .next t ∧ t.dxax.toInt = (s.reg .ax).toInt * (s.valueEw e).toInt ∧
      t.flags.cf = decide ((t.reg .ax).toInt ≠ t.dxax.toInt) ∧ t.flags.of = t.flags.cf ∧
      Frame s t [.ax, .dx] [] := by
  obtain ⟨u, t, run, regs, cf, of, frame⟩ :=
    wordOperands.mulWith_done (imulWord_eq s e) h fun p u => touches_setDxax u p
  have dxax := dxax_of_regs regs
  rw [setDxax_dxax] at dxax
  refine ⟨t, run, ?_, ?_, of, frame⟩
  · rw [dxax]
    exact toInt_signExtend_mul (by decide) rfl (s.reg .ax) (s.valueEw e)
  · rw [cf, dxax, reg_of_regs regs, setDxax_ax]
    exact ne_signExtend (by decide) _ _

theorem imulImm_done {g : Reg16} {imm : Word} (h : s.canReadEw e) :
    ∃ t, s.finish (s.imulImm g e imm) = .next t ∧ t.reg g = BitVec.ofInt 16 ((s.valueEw e).toInt * imm.toInt) ∧
      t.flags.cf = decide ((t.reg g).toInt ≠ (s.valueEw e).toInt * imm.toInt) ∧ t.flags.of = t.flags.cf ∧
      Frame s t [g] [] := by
  obtain ⟨u, t, run, regs, cf, of, frame⟩ :=
    wordOperands.mulWith_done (imulImm_eq s g e imm) h fun p u => touches_setReg u g (p.extractLsb' 0 16)
  have product := toInt_signExtend_mul (m := 32) (by decide) rfl (s.valueEw e) imm
  have dest := reg_of_regs regs g
  rw [reg_setReg_same] at dest
  refine ⟨t, run, ?_, ?_, of, frame⟩
  · rw [dest, ← product, ← BitVec.setWidth_eq_extractLsb' (by decide)]
    exact (BitVec.signExtend_eq_setWidth_of_le _ (by decide)).symm
  · rw [cf, dest, ← product]
    exact ne_signExtend (by decide) _ _

end

/-- Settles O16: the products, each exact in twice the width of its operands. -/
theorem multiplies : Obligations.Multiplies := by
  refine ⟨fun s e h => ⟨mulEb_done h, imulEb_done h⟩, fun s e h => ⟨mulEw_done h, imulEw_done h⟩,
    fun s e g iw ib h => ⟨imulImm_done h, ?_⟩⟩
  have imm : (sext16 ib).toInt = ib.toInt := BitVec.toInt_signExtend_of_le (by decide)
  rw [← imm]
  exact imulImm_done h

/-! ## Quotients -/

/-- A remainder is below the divisor. -/
theorem mod_lt_two_pow {n : Nat} (a : Nat) {v : BitVec n} (nonzero : v ≠ 0) : a % v.toNat < 2 ^ n :=
  (Nat.mod_lt a (Nat.pos_of_ne_zero fun zero => nonzero (BitVec.eq_of_toNat_eq zero))).trans v.isLt

/-- A signed remainder is nearer to 0 than the divisor. -/
theorem tmod_bounds {n : Nat} (a : Int) {v : BitVec n} (nonzero : v ≠ 0) :
    -2 ^ (n - 1) ≤ a.tmod v.toInt ∧ a.tmod v.toInt < 2 ^ (n - 1) := by
  have divisor : v.toInt ≠ 0 := fun zero => nonzero (BitVec.toInt_inj.mp (zero.trans BitVec.toInt_zero.symm))
  have lt := Nat.mod_lt a.natAbs (Int.natAbs_pos.mpr divisor)
  rw [← Int.natAbs_tmod] at lt
  have above := BitVec.toInt_lt (x := v)
  have below := BitVec.le_toInt v
  omega

theorem leastQuotient_eq (s : State) (n : Nat) :
    s.leastQuotient n = if s.cls = .c86 then -(2 ^ (n - 1) - 1) else -2 ^ (n - 1) := by
  unfold State.leastQuotient
  split <;> simp [*]

/-! ## Division (R414, R415) -/

/-- The shape of every division: of the operand read, #DE if it is 0 or its quotient too large, and a quotient and a
remainder that are put where they belong. -/
def OperandWidth.divWith {ρ : Type} {n : Nat} (w : OperandWidth ρ n) (large : BitVec n → Bool)
    (put : BitVec n → State → State) (s : State) (e : RM ρ) : Res State :=
  w.read s e >>= fun p =>
    raiseIf (p.1 == 0) p.2 .de >>= fun _ =>
    raiseIf (large p.1) p.2 .de >>= fun _ => .ok ((put p.1 p.2).setDiv w.size)

theorem divByte_eq (s : State) (e : RM Reg8) : s.divByte e =
    byteOperands.divWith (fun v => decide (0xFF < (s.reg .ax).toNat / v.toNat))
      (fun v u => u.setReg .ax
        (mkWord (.ofNat 8 ((s.reg .ax).toNat / v.toNat)) (.ofNat 8 ((s.reg .ax).toNat % v.toNat))))
      s e := rfl

theorem divWord_eq (s : State) (e : RM Reg16) : s.divWord e =
    wordOperands.divWith (fun v => decide (0xFFFF < s.dxax.toNat / v.toNat))
      (fun v u => (u.setReg .ax (.ofNat 16 (s.dxax.toNat / v.toNat))).setReg .dx (.ofNat 16 (s.dxax.toNat % v.toNat)))
      s e := rfl

theorem idivByte_eq (s : State) (e : RM Reg8) : s.idivByte e =
    byteOperands.divWith
      (fun v => decide ((s.reg .ax).toInt.tdiv v.toInt < s.leastQuotient 8) ||
        decide (127 < (s.reg .ax).toInt.tdiv v.toInt))
      (fun v u => u.setReg .ax
        (mkWord (.ofInt 8 ((s.reg .ax).toInt.tdiv v.toInt)) (.ofInt 8 ((s.reg .ax).toInt.tmod v.toInt))))
      s e := rfl

theorem idivWord_eq (s : State) (e : RM Reg16) : s.idivWord e =
    wordOperands.divWith
      (fun v => decide (s.dxax.toInt.tdiv v.toInt < s.leastQuotient 16) || decide (32767 < s.dxax.toInt.tdiv v.toInt))
      (fun v u => (u.setReg .ax (.ofInt 16 (s.dxax.toInt.tdiv v.toInt))).setReg .dx
        (.ofInt 16 (s.dxax.toInt.tmod v.toInt)))
      s e := rfl

section
variable {ρ : Type} {n : Nat} (w : OperandWidth ρ n) {large : BitVec n → Bool} {put : BitVec n → State → State}
  {e : RM ρ} {body : Res State} {dest : List Reg16}

theorem OperandWidth.divWith_done (shape : body = w.divWith large put s e) (read : w.canRead s e)
    (nonzero : w.value s e ≠ 0) (fits : large (w.value s e) = false) (touch : ∀ v u, Touches u (put v u) dest []) :
    ∃ u t, s.finish body = .next t ∧ t.regs = (put (w.value s e) u).regs ∧ Frame s t dest [] := by
  obtain ⟨u, run, -, h⟩ := w.read_ok read
  have all : Touches s ((put (w.value s e) u).setDiv w.size) (dest ++ []) [] :=
    (h.trans (touch (w.value s e) u)).trans (.quiet rfl)
  rw [List.append_nil] at all
  refine ⟨u, s.latchTrap _, ?_, ?_, all.frame⟩
  · rw [shape, OperandWidth.divWith, run, ok_bind, beq_false_of_ne nonzero, fits]; rfl
  · simp

theorem OperandWidth.divWith_traps (shape : body = w.divWith large put s e) (read : w.canRead s e)
    (bad : w.value s e = 0 ∨ large (w.value s e) = true) :
    ∃ u, s.finish body = .next (s.deliverRaise { exc := .de, seen := u, committed := false }) := by
  obtain ⟨u, run, -, h⟩ := w.read_ok read
  refine ⟨u, ?_⟩
  rw [shape, OperandWidth.divWith, run, ok_bind]
  by_cases zero : w.value s e = 0
  · rw [zero]; rfl
  · rw [beq_false_of_ne zero, bad.resolve_left zero]; rfl

end

/-- A quotient is in range when neither check of IDIV finds it too large. -/
theorem idiv_fits {q least most : Int} (low : least ≤ q) (high : q ≤ most) :
    (decide (q < least) || decide (most < q)) = false := by
  rw [decide_eq_false (by omega), decide_eq_false (by omega)]; rfl

theorem idiv_large {q least most : Int} (out : most < q ∨ q < least) :
    (decide (q < least) || decide (most < q)) = true := by
  rcases out with high | low
  · rw [decide_eq_true high, Bool.or_true]
  · rw [decide_eq_true low, Bool.true_or]

theorem leastQuotient_byte (s : State) : s.leastQuotient 8 = if s.cls = .c86 then -127 else -128 :=
  leastQuotient_eq s 8

theorem leastQuotient_word (s : State) : s.leastQuotient 16 = if s.cls = .c86 then -32767 else -32768 :=
  leastQuotient_eq s 16

section
variable {e : RM Reg8}

theorem divEb_done (h : s.canReadEb e) (nonzero : s.valueEb e ≠ 0)
    (fits : (s.reg .ax).toNat / (s.valueEb e).toNat < 256) :
    ∃ t, exec (.divEb e) s = .next t ∧ (t.reg8 .al).toNat = (s.reg .ax).toNat / (s.valueEb e).toNat ∧
      (t.reg8 .ah).toNat = (s.reg .ax).toNat % (s.valueEb e).toNat ∧ Frame s t [.ax] [] := by
  obtain ⟨u, t, run, regs, frame⟩ := byteOperands.divWith_done (divByte_eq s e) h nonzero
    (decide_eq_false (Nat.not_lt_of_ge (Nat.le_of_lt_succ fits))) fun v u => touches_setReg u .ax _
  obtain ⟨al, ah⟩ := halves_of_ax ((reg_of_regs regs .ax).trans (reg_setReg_same u .ax _))
  refine ⟨t, run, ?_, ?_, frame⟩
  · rw [al, BitVec.toNat_ofNat]
    exact Nat.mod_eq_of_lt fits
  · rw [ah, BitVec.toNat_ofNat]
    exact Nat.mod_eq_of_lt (mod_lt_two_pow _ nonzero)

theorem idivEb_done (h : s.canReadEb e) (nonzero : s.valueEb e ≠ 0)
    (low : (if s.cls = .c86 then -127 else -128) ≤ (s.reg .ax).toInt.tdiv (s.valueEb e).toInt)
    (high : (s.reg .ax).toInt.tdiv (s.valueEb e).toInt ≤ 127) :
    ∃ t, exec (.idivEb e) s = .next t ∧ (t.reg8 .al).toInt = (s.reg .ax).toInt.tdiv (s.valueEb e).toInt ∧
      (t.reg8 .ah).toInt = (s.reg .ax).toInt.tmod (s.valueEb e).toInt ∧ Frame s t [.ax] [] := by
  obtain ⟨u, t, run, regs, frame⟩ := byteOperands.divWith_done (idivByte_eq s e) h nonzero
    (idiv_fits (leastQuotient_byte s ▸ low) high) fun v u => touches_setReg u .ax _
  obtain ⟨al, ah⟩ := halves_of_ax ((reg_of_regs regs .ax).trans (reg_setReg_same u .ax _))
  obtain ⟨least, most⟩ : -128 ≤ (s.reg .ax).toInt.tdiv (s.valueEb e).toInt ∧
      (s.reg .ax).toInt.tdiv (s.valueEb e).toInt < 128 := by
    split at low <;> omega
  obtain ⟨restLow, restHigh⟩ := tmod_bounds (s.reg .ax).toInt nonzero
  refine ⟨t, run, ?_, ?_, frame⟩
  · rw [al]
    exact BitVec.toInt_ofInt_eq_self (by decide) least most
  · rw [ah]
    exact BitVec.toInt_ofInt_eq_self (by decide) restLow restHigh

end

section
variable {e : RM Reg16}

theorem divEw_done (h : s.canReadEw e) (nonzero : s.valueEw e ≠ 0)
    (fits : s.dxax.toNat / (s.valueEw e).toNat < 65536) :
    ∃ t, exec (.divEw e) s = .next t ∧ (t.reg .ax).toNat = s.dxax.toNat / (s.valueEw e).toNat ∧
      (t.reg .dx).toNat = s.dxax.toNat % (s.valueEw e).toNat ∧ Frame s t [.ax, .dx] [] := by
  obtain ⟨u, t, run, regs, frame⟩ := wordOperands.divWith_done (divWord_eq s e) h nonzero
    (decide_eq_false (Nat.not_lt_of_ge (Nat.le_of_lt_succ fits))) fun v u => touches_setReg_ax_dx u _ _
  refine ⟨t, run, ?_, ?_, frame⟩
  · rw [reg_of_regs regs]
    exact (BitVec.toNat_ofNat ..).trans (Nat.mod_eq_of_lt fits)
  · rw [reg_of_regs regs]
    exact (BitVec.toNat_ofNat ..).trans (Nat.mod_eq_of_lt (mod_lt_two_pow _ nonzero))

theorem idivEw_done (h : s.canReadEw e) (nonzero : s.valueEw e ≠ 0)
    (low : (if s.cls = .c86 then -32767 else -32768) ≤ s.dxax.toInt.tdiv (s.valueEw e).toInt)
    (high : s.dxax.toInt.tdiv (s.valueEw e).toInt ≤ 32767) :
    ∃ t, exec (.idivEw e) s = .next t ∧ (t.reg .ax).toInt = s.dxax.toInt.tdiv (s.valueEw e).toInt ∧
      (t.reg .dx).toInt = s.dxax.toInt.tmod (s.valueEw e).toInt ∧ Frame s t [.ax, .dx] [] := by
  obtain ⟨u, t, run, regs, frame⟩ := wordOperands.divWith_done (idivWord_eq s e) h nonzero
    (idiv_fits (leastQuotient_word s ▸ low) high) fun v u => touches_setReg_ax_dx u _ _
  obtain ⟨least, most⟩ : -32768 ≤ s.dxax.toInt.tdiv (s.valueEw e).toInt ∧
      s.dxax.toInt.tdiv (s.valueEw e).toInt < 32768 := by
    split at low <;> omega
  obtain ⟨restLow, restHigh⟩ := tmod_bounds s.dxax.toInt nonzero
  refine ⟨t, run, ?_, ?_, frame⟩
  · rw [reg_of_regs regs]
    exact BitVec.toInt_ofInt_eq_self (by decide) least most
  · rw [reg_of_regs regs]
    exact BitVec.toInt_ofInt_eq_self (by decide) restLow restHigh

end

/-- Settles O17: a division raises #DE at its two checks, and else leaves a quotient and a remainder that fit. -/
theorem divisions : Obligations.Divisions := by
  refine ⟨⟨fun s e h nonzero => ⟨divEb_done h nonzero, idivEb_done h nonzero⟩,
    fun s e h nonzero => ⟨divEw_done h nonzero, idivEw_done h nonzero⟩⟩,
    fun s e h => ⟨fun bad => ?_, fun bad => ?_⟩, fun s e h => ⟨fun bad => ?_, fun bad => ?_⟩, fun s => ⟨s, rfl⟩⟩
  · exact byteOperands.divWith_traps (divByte_eq s e) h (bad.imp_right decide_eq_true)
  · rw [← leastQuotient_byte] at bad
    exact byteOperands.divWith_traps (idivByte_eq s e) h (bad.imp_right idiv_large)
  · exact wordOperands.divWith_traps (divWord_eq s e) h (bad.imp_right decide_eq_true)
  · rw [← leastQuotient_word] at bad
    exact wordOperands.divWith_traps (idivWord_eq s e) h (bad.imp_right idiv_large)

end Sys2Proof.Machine
end

section
/-! Decimal adjustment (42_arithmetic.md R416 to R422): an instruction of this family writes AL or AX and sets the flags
it defines. -/

namespace Sys2Proof.Machine

variable {s v : State}

/-! ## Writing AL or AX and setting the flags -/

theorem touches_setDecimal (s : State) (b : Byte) (c f : Bool) : Touches s (s.setDecimal b c f) [] [] := .quiet rfl

theorem touches_setAscii (s : State) (a : Bool) : Touches s (s.setAscii a) [] [] := .quiet rfl

theorem touches_setAdjusted (s : State) (b : Byte) : Touches s (s.setAdjusted b) [] [] := .quiet rfl

theorem setReg8_done {r : Reg8} {b : Byte} (h : Touches (s.setReg8 r b) v [] []) :
    (s.latchTrap v).reg8 r = b ∧ Frame8 s (s.latchTrap v) [r] [] := by
  constructor
  · rw [latchTrap_reg8, h.reg8, reg8_setReg8_same]
  · refine ((touches_setReg8 s r b).trans h).frame8 fun q out => ?_
    rw [h.reg8, reg8_setReg8_ne s (by simpa using out)]

theorem setAx_done {w : Word} (h : Touches (s.setReg .ax w) v [] []) :
    (s.latchTrap v).reg8 .al = loByte w ∧ (s.latchTrap v).reg8 .ah = hiByte w ∧ Frame s (s.latchTrap v) [.ax] [] := by
  have ax : (s.latchTrap v).reg .ax = w := by rw [latchTrap_reg, h.regs .ax (by simp), reg_setReg_same]
  exact ⟨congrArg loByte ax, congrArg hiByte ax, ((touches_setReg s .ax w).trans h).frame⟩

/-- DAA and DAS: AL, CF and AF as given, and the flags of AL. -/
theorem setDecimal_done {b : Byte} {c f : Bool} (body : v = (s.setReg8 .al b).setDecimal b c f) :
    ∃ t, s.finish (.ok v) = .next t ∧ t.reg8 .al = b ∧ t.flags.af = f ∧ t.flags.cf = c ∧
      ofResult (t.reg8 .al) t.flags ∧ Frame8 s t [.al] [] := by
  subst body
  obtain ⟨al, frame⟩ := setReg8_done (touches_setDecimal (s.setReg8 .al b) b c f)
  obtain ⟨-, -, result⟩ := ofLogic_logicTriple byte_fits b
  refine ⟨_, rfl, al, ?_⟩
  rw [al, latchTrap_flags, State.setDecimal, drawn_flags, setFlags_flags]
  exact ⟨rfl, rfl, result, frame⟩

/-- AAA and AAS: AX is a word with the upper digit of AL cut off, and CF = AF. -/
theorem setAscii_done {w : Word} {a : Bool} (body : v = (s.setReg .ax (w &&& 0xFF0F)).setAscii a) :
    ∃ t, s.finish (.ok v) = .next t ∧ t.reg8 .al = loByte w &&& 0x0F ∧ t.reg8 .ah = hiByte w ∧
      t.flags.af = a ∧ t.flags.cf = a ∧ Frame s t [.ax] [] := by
  subst body
  obtain ⟨al, ah, frame⟩ := setAx_done (touches_setAscii (s.setReg .ax (w &&& 0xFF0F)) a)
  refine ⟨_, rfl, al.trans BitVec.extractLsb'_and,
    ah.trans (BitVec.extractLsb'_and.trans BitVec.and_allOnes), ?_⟩
  rw [latchTrap_flags, State.setAscii, drawn_flags, setFlags_flags]
  exact ⟨rfl, rfl, frame⟩

/-- AAM and AAD: AX as given, and the flags of AL. -/
theorem setAdjusted_done {lo hi : Byte} (body : v = (s.setReg .ax (mkWord lo hi)).setAdjusted lo) :
    ∃ t, s.finish (.ok v) = .next t ∧ t.reg8 .al = lo ∧ t.reg8 .ah = hi ∧ ofResult (t.reg8 .al) t.flags ∧
      Frame s t [.ax] [] := by
  subst body
  obtain ⟨al, ah, frame⟩ := setAx_done (touches_setAdjusted (s.setReg .ax (mkWord lo hi)) lo)
  rw [loByte_mkWord] at al
  rw [hiByte_mkWord] at ah
  obtain ⟨-, -, result⟩ := ofLogic_logicTriple byte_fits lo
  refine ⟨_, rfl, al, ah, ?_, frame⟩
  rw [al, latchTrap_flags, State.setAdjusted, drawn_flags, setFlags_flags]
  exact result

/-! ## Digits -/

theorem and_0F_toNat (b : Byte) : (b &&& 0x0F).toNat = b.toNat % 16 := Nat.and_two_pow_sub_one_eq_mod b.toNat 4

theorem lowAdjust_eq (s : State) : s.lowAdjust = (decide (9 < (s.reg8 .al).toNat % 16) || s.flags.af) := by
  rw [State.lowAdjust, and_0F_toNat]

/-! ## DAA and DAS (R416, R417) -/

/-- AL after DAA. -/
def State.daaAl (s : State) : Byte :=
  s.reg8 .al + (if s.lowAdjust then 6 else 0) + (if s.highAdjust then 0x60 else 0)

/-- AL after DAS. -/
def State.dasAl (s : State) : Byte :=
  s.reg8 .al - (if s.lowAdjust then 6 else 0) - (if s.highAdjust then 0x60 else 0)

theorem decimalAdd_eq (s : State) :
    s.decimalAdd = (s.setReg8 .al s.daaAl).setDecimal s.daaAl s.highAdjust s.lowAdjust := by
  unfold State.decimalAdd State.daaAl
  cases s.lowAdjust <;> cases s.highAdjust <;> simp

/-- CF before DAS borrows only where the high digit is adjusted anyway. -/
theorem decimalSub_eq (s : State) :
    s.decimalSub = (s.setReg8 .al s.dasAl).setDecimal s.dasAl
      (s.highAdjust || (s.lowAdjust && decide ((s.reg8 .al).toNat < 6))) s.lowAdjust := by
  have carry : s.highAdjust = (s.highAdjust || s.flags.cf) := by
    rw [State.highAdjust, Bool.or_assoc, Bool.or_self]
  unfold State.decimalSub State.dasAl
  rw [carry]
  cases s.lowAdjust <;> cases s.highAdjust <;> cases s.flags.cf <;> simp

theorem daaAl_toNat (s : State) : s.daaAl.toNat =
    ((s.reg8 .al).toNat + (if s.lowAdjust then 6 else 0) + (if s.highAdjust then 0x60 else 0)) % 256 := by
  rw [State.daaAl, BitVec.toNat_add, BitVec.toNat_add, Nat.mod_add_mod]
  cases s.lowAdjust <;> cases s.highAdjust <;> rfl

/-! ## AAA and AAS (R418, R419) -/

theorem mkWord_toNat (lo hi : Byte) : (mkWord lo hi).toNat = hi.toNat * 256 + lo.toNat := by
  have low := loByte_toNat (mkWord lo hi)
  have high := hiByte_toNat (mkWord lo hi)
  rw [loByte_mkWord] at low
  rw [hiByte_mkWord] at high
  omega

theorem ax_toNat (s : State) : (s.reg .ax).toNat = (s.reg8 .ah).toNat * 256 + (s.reg8 .al).toNat := by
  rw [← mkWord_toNat]
  exact congrArg BitVec.toNat (reg_eq_halves s).1

/-- AAA, before AL is cut to a digit: the 80286 adds to AX as a whole, the others to AL and to AH. -/
theorem asciiAddAx_halves (s : State) : loByte s.asciiAddAx = s.reg8 .al + 6 ∧
    (hiByte s.asciiAddAx).toNat =
      ((s.reg8 .ah).toNat + 1 + (if s.cls = .c286 ∧ 250 ≤ (s.reg8 .al).toNat then 1 else 0)) % 256 := by
  have lo := (s.reg8 .al).isLt
  unfold State.asciiAddAx
  split
  case h_1 cls | h_2 cls =>
    simp only [loByte_mkWord, hiByte_mkWord, cls, reduceCtorEq, false_and, if_false]
    exact ⟨trivial, rfl⟩
  case h_3 cls =>
    have sum : (s.reg .ax + 0x106).toNat = ((s.reg8 .ah).toNat * 256 + (s.reg8 .al).toNat + 262) % 65536 := by
      rw [BitVec.toNat_add, ax_toNat]; rfl
    refine ⟨BitVec.eq_of_toNat_eq ?_, ?_⟩
    · rw [loByte_toNat, sum, BitVec.toNat_add, show (6 : Byte).toNat = 6 from rfl]
      omega
    · simp only [hiByte_toNat, sum, cls, true_and]
      split <;> omega

/-- AAS, before AL is cut to a digit: the 80286 subtracts from AX as a whole, the others from AL and from AH. -/
theorem asciiSubAx_halves (s : State) : loByte s.asciiSubAx = s.reg8 .al - 6 ∧
    hiByte s.asciiSubAx = s.reg8 .ah - 1 - (if s.cls = .c286 ∧ (s.reg8 .al).toNat < 6 then 1 else 0) := by
  have lo := (s.reg8 .al).isLt
  unfold State.asciiSubAx
  split
  case h_1 cls | h_2 cls =>
    simp only [loByte_mkWord, hiByte_mkWord, cls, reduceCtorEq, false_and, if_false]
    exact ⟨trivial, (BitVec.sub_zero _).symm⟩
  case h_3 cls =>
    have difference : (s.reg .ax - 6 - 0x100).toNat =
        (65536 - 256 + (65536 - 6 + ((s.reg8 .ah).toNat * 256 + (s.reg8 .al).toNat)) % 65536) % 65536 := by
      rw [BitVec.toNat_sub, BitVec.toNat_sub, ax_toNat]; rfl
    refine ⟨BitVec.eq_of_toNat_eq ?_, BitVec.eq_of_toNat_eq ?_⟩
    · rw [loByte_toNat, difference, BitVec.toNat_sub, show (6 : Byte).toNat = 6 from rfl]
      omega
    · simp only [hiByte_toNat, difference, BitVec.toNat_sub, cls, true_and, show (1 : Byte).toNat = 1 from rfl]
      split
      · rw [show (1 : Byte).toNat = 1 from rfl]; omega
      · rw [show (0 : Byte).toNat = 0 from rfl]; omega

theorem aaa_done (s : State) : ∃ t, exec .aaa s = .next t ∧
    (t.reg8 .al).toNat = ((s.reg8 .al).toNat + (if s.lowAdjust then 6 else 0)) % 16 ∧
    (t.reg8 .ah).toNat = ((s.reg8 .ah).toNat + (if s.lowAdjust then 1 else 0) +
      (if s.lowAdjust ∧ s.cls = .c286 ∧ 250 ≤ (s.reg8 .al).toNat then 1 else 0)) % 256 ∧
    t.flags.af = s.lowAdjust ∧ t.flags.cf = s.lowAdjust ∧ Frame s t [.ax] [] := by
  obtain ⟨t, run, al, ah, af, cf, frame⟩ := setAscii_done (v := s.asciiAdd) rfl
  obtain ⟨low, high⟩ := asciiAddAx_halves s
  refine ⟨t, run, ?_, ?_, af, cf, frame⟩
  · rw [al, and_0F_toNat]
    cases s.lowAdjust
    · rfl
    · rw [if_pos rfl, if_pos rfl, low, BitVec.toNat_add]
      exact Nat.mod_mod_of_dvd _ (by decide)
  · rw [ah]
    cases s.lowAdjust
    · exact (Nat.mod_eq_of_lt (s.reg8 .ah).isLt).symm
    · simpa using high

theorem aas_done (s : State) : ∃ t, exec .aas s = .next t ∧
    t.reg8 .al = (s.reg8 .al - (if s.lowAdjust then 6 else 0)) &&& 0x0F ∧
    t.reg8 .ah = s.reg8 .ah - (if s.lowAdjust then 1 else 0) -
      (if s.lowAdjust ∧ s.cls = .c286 ∧ (s.reg8 .al).toNat < 6 then 1 else 0) ∧
    t.flags.af = s.lowAdjust ∧ t.flags.cf = s.lowAdjust ∧ Frame s t [.ax] [] := by
  obtain ⟨t, run, al, ah, af, cf, frame⟩ := setAscii_done (v := s.asciiSub) rfl
  obtain ⟨low, high⟩ := asciiSubAx_halves s
  refine ⟨t, run, ?_, ?_, af, cf, frame⟩
  · rw [al]
    cases s.lowAdjust
    · exact congrArg (· &&& 0x0F) (BitVec.sub_zero _).symm
    · exact congrArg (· &&& 0x0F) low
  · rw [ah]
    cases s.lowAdjust
    · exact ((BitVec.sub_zero _).trans (BitVec.sub_zero (s.reg8 .ah))).symm
    · simpa using high

/-! ## AAM and AAD (R420, R421) -/

theorem adjustMul_ok (s : State) {ib : Byte} (nonzero : ib ≠ 0) : s.adjustMul ib =
    .ok ((s.setReg .ax (mkWord (s.reg8 .al % ib) (s.reg8 .al / ib))).setAdjusted (s.reg8 .al % ib)) := by
  rw [State.adjustMul, beq_false_of_ne nonzero]; rfl

theorem aamIb_done (s : State) {ib : Byte} (nonzero : ib ≠ 0) : ∃ t, exec (.aamIb ib) s = .next t ∧
    (t.reg8 .ah).toNat = (s.reg8 .al).toNat / ib.toNat ∧ (t.reg8 .al).toNat = (s.reg8 .al).toNat % ib.toNat ∧
    ofResult (t.reg8 .al) t.flags ∧ Frame s t [.ax] [] := by
  obtain ⟨t, run, al, ah, result, frame⟩ :=
    setAdjusted_done (s := s) (lo := s.reg8 .al % ib) (hi := s.reg8 .al / ib) rfl
  refine ⟨t, (congrArg s.finish (adjustMul_ok s nonzero)).trans run, ?_, ?_, result, frame⟩
  · rw [ah, BitVec.toNat_udiv]
  · rw [al, BitVec.toNat_umod]

theorem zext16_eq (b : Byte) : zext16 b = mkWord b 0 := by
  apply BitVec.eq_of_toNat_eq
  rw [mkWord_toNat, zext16, BitVec.toNat_setWidth_of_le (by decide)]
  exact (Nat.zero_add _).symm

theorem aadIb_done (s : State) (ib : Byte) : ∃ t, exec (.aadIb ib) s = .next t ∧
    (t.reg8 .al).toNat = ((s.reg8 .al).toNat + (s.reg8 .ah).toNat * ib.toNat) % 256 ∧ t.reg8 .ah = 0 ∧
    ofResult (t.reg8 .al) t.flags ∧ Frame s t [.ax] [] := by
  have body : s.adjustDiv ib = _ := congrArg (fun w => State.setAdjusted (s.setReg .ax w) _) (zext16_eq _)
  obtain ⟨t, run, al, ah, result, frame⟩ := setAdjusted_done body
  refine ⟨t, run, ?_, ah, result, frame⟩
  rw [al, BitVec.toNat_add, BitVec.toNat_mul, Nat.add_mod_mod]

/-! ## SALC (R422) -/

theorem salc_done (s : State) : ∃ t, exec .salc s = .next t ∧ t.reg8 .al = (if s.flags.cf then 0xFF else 0) ∧
    t.flags = s.flags ∧ Frame8 s t [.al] [] := by
  obtain ⟨al, frame⟩ := setReg8_done (.refl (s.setReg8 .al (if s.flags.cf then 0xFF else 0)))
  exact ⟨_, rfl, al, latchTrap_flags s _, frame⟩

/-- Settles O18: the adjusted AL and AX, half by half. -/
theorem decimalInstructions : Obligations.DecimalInstructions := by
  refine ⟨fun s low high adjustLow adjustHigh => ?_, fun s a adjust => ?_,
    fun s ib => ⟨aamIb_done s, aadIb_done s ib⟩, salc_done⟩
  · rw [← lowAdjust_eq] at adjustLow
    obtain rfl : high = s.highAdjust := adjustHigh
    subst adjustLow
    obtain ⟨t, run, al, rest⟩ := setDecimal_done (decimalAdd_eq s)
    exact ⟨⟨t, run, (congrArg _ al).trans (daaAl_toNat s), rest⟩, setDecimal_done (decimalSub_eq s)⟩
  · rw [← lowAdjust_eq] at adjust
    subst adjust
    exact ⟨aaa_done s, aas_done s⟩

end Sys2Proof.Machine
end

section
/-! The shifts and rotates (43_logic_shift.md R510 to R517): a result by a count is that many single steps, and what
the instructions do with it. -/

namespace Sys2Proof.Machine

variable {s t u : State}

/-! ## One bit in at an end -/

section
variable {n i : Nat}

theorem getLsbD_carryIn (b : Bool) (pos : 0 < n) : (carryIn n b).getLsbD i = (decide (i = 0) && b) := by
  cases b
  · simp [carryIn]
  · simpa [carryIn] using fun _ => pos

/-- A shift to the left with a bit put in below. -/
theorem getLsbD_shiftLeft_in (d : BitVec n) (b : Bool) (lt : i < n) :
    (d <<< 1 ||| carryIn n b).getLsbD i = if i = 0 then b else d.getLsbD (i - 1) := by
  rw [BitVec.getLsbD_or, BitVec.getLsbD_shiftLeft, getLsbD_carryIn b (Nat.zero_lt_of_lt lt)]
  by_cases low : i = 0 <;> simp [low, lt]

/-- A shift to the right with a bit put in above. -/
theorem getLsbD_shiftRight_in (d : BitVec n) (b : Bool) (lt : i < n) :
    (d >>> 1 ||| carryIn n b <<< (n - 1)).getLsbD i = if i = n - 1 then b else d.getLsbD (1 + i) := by
  rw [BitVec.getLsbD_or, BitVec.getLsbD_ushiftRight, BitVec.getLsbD_shiftLeft,
    getLsbD_carryIn b (Nat.zero_lt_of_lt lt)]
  by_cases top : i = n - 1
  · rw [top, BitVec.getLsbD_of_ge d _ (by omega)]
    simp [Nat.zero_lt_of_lt lt]
  · rw [if_neg top, decide_eq_true (show i < n - 1 by omega)]
    simp

end

/-! ## Rotations by a sum -/

section
variable {n : Nat}

/-- A rotation to the right reads each bit the count above it, around the end. -/
theorem getLsbD_rotateRight_mod {i : Nat} (d : BitVec n) (c : Nat) (lt : i < n) :
    (d.rotateRight c).getLsbD i = d.getLsbD ((c + i) % n) := by
  have count := Nat.mod_lt c (Nat.zero_lt_of_lt lt)
  rw [BitVec.getLsbD_rotateRight, ← Nat.mod_add_mod]
  by_cases low : i < n - c % n
  · rw [decide_eq_true low, cond_true, Nat.mod_eq_of_lt (Nat.add_lt_of_lt_sub' low)]
  · rw [decide_eq_false low, cond_false, decide_eq_true lt, Bool.true_and,
      Nat.mod_eq_sub_mod (a := c % n + i) (by omega), Nat.mod_eq_of_lt (a := c % n + i - n) (by omega)]
    congr 1
    omega

theorem rotateLeft_zero (d : BitVec n) : d.rotateLeft 0 = d := by
  simp [BitVec.rotateLeft_def, BitVec.ushiftRight_eq_zero]

theorem rotateRight_zero (d : BitVec n) : d.rotateRight 0 = d := by
  simp [BitVec.rotateRight_def]

theorem rotateLeft_add (d : BitVec n) (a b : Nat) : d.rotateLeft (a + b) = (d.rotateLeft a).rotateLeft b := by
  refine BitVec.eq_of_getMsbD_eq fun i lt => ?_
  have inner := Nat.mod_lt (b + i) (Nat.zero_lt_of_lt lt)
  rw [BitVec.getMsbD_rotateLeft, BitVec.getMsbD_rotateLeft, BitVec.getMsbD_rotateLeft, decide_eq_true inner,
    Bool.true_and, Nat.add_mod_mod, Nat.add_assoc]

theorem rotateRight_add (d : BitVec n) (a b : Nat) : d.rotateRight (a + b) = (d.rotateRight a).rotateRight b := by
  refine BitVec.eq_of_getLsbD_eq fun i lt => ?_
  have inner := Nat.mod_lt (b + i) (Nat.zero_lt_of_lt lt)
  rw [getLsbD_rotateRight_mod d _ lt, getLsbD_rotateRight_mod _ b lt, getLsbD_rotateRight_mod d a inner,
    Nat.add_mod_mod, Nat.add_assoc]

theorem rotateLeft_one (d : BitVec n) (two : 1 < n) : d.rotateLeft 1 = d <<< 1 ||| carryIn n d.msb := by
  refine BitVec.eq_of_getLsbD_eq fun i lt => ?_
  rw [getLsbD_shiftLeft_in d _ lt, BitVec.getLsbD_rotateLeft, Nat.mod_eq_of_lt two]
  by_cases low : i = 0 <;> simp [low, lt, BitVec.msb_eq_getLsbD_last]

theorem rotateRight_one (d : BitVec n) (two : 1 < n) :
    d.rotateRight 1 = d >>> 1 ||| carryIn n (d.getLsbD 0) <<< (n - 1) := by
  refine BitVec.eq_of_getLsbD_eq fun i lt => ?_
  rw [getLsbD_shiftRight_in d _ lt, getLsbD_rotateRight_mod d 1 lt]
  by_cases top : i = n - 1
  · rw [if_pos top, top, Nat.add_sub_of_le two.le, Nat.mod_self]
  · rw [if_neg top, Nat.mod_eq_of_lt (by omega)]

end

/-! ## A result by a count as single steps (R511 to R517) -/

/-- CF and the operand that a shift or rotate leaves. -/
def Shifted.outcome {n : Nat} (x : Shifted n) : Bool × BitVec n := (x.cf, x.r)

/-- The model's meaning of each shift and rotate. -/
def ShiftOp.shifted {n : Nat} : ShiftOp → Bool → BitVec n → Nat → Shifted n
  | .rol => rolResult
  | .ror => rorResult
  | .rcl => rclResult
  | .rcr => rcrResult
  | .shl => shlResult
  | .shr => shrResult
  | .sar => sarResult

/-- RCL and RCR rotate CF with the operand. -/
def ShiftOp.readsCarry : ShiftOp → Bool
  | .rcl => true
  | .rcr => true
  | _ => false

section
variable {n : Nat}

theorem eq_of_cons_eq {x : Bool × BitVec n} {w : BitVec (n + 1)} (h : BitVec.cons x.1 x.2 = w) :
    x = (w.msb, w.setWidth n) := by
  rw [← h, BitVec.msb_cons, BitVec.setWidth_cons]

/-- RCL's result is the rotated value, cut in two again. -/
theorem cons_rclResult (cf : Bool) (d : BitVec n) (c : Nat) :
    BitVec.cons (rclResult cf d c).outcome.1 (rclResult cf d c).outcome.2 = rclWide cf d c :=
  BitVec.cons_msb_setWidth _

theorem cons_rcrResult (cf : Bool) (d : BitVec n) (c : Nat) :
    BitVec.cons (rcrResult cf d c).outcome.1 (rcrResult cf d c).outcome.2 = rcrWide cf d c :=
  BitVec.cons_msb_setWidth _

theorem rclWide_succ (cf : Bool) (d : BitVec n) (c : Nat) :
    rclWide cf d (c + 1) = (rclWide cf d c).rotateLeft 1 := by
  simp only [rclWide, BitVec.rotateLeft_mod_eq_rotateLeft, rotateLeft_add]

theorem rcrWide_succ (cf : Bool) (d : BitVec n) (c : Nat) :
    rcrWide cf d (c + 1) = (rcrWide cf d c).rotateRight 1 := by
  simp only [rcrWide, BitVec.rotateRight_mod_eq_rotateRight, rotateRight_add]

end

section
variable {n : Nat} (two : 1 < n)
include two

theorem single_rol (b cf : Bool) (d : BitVec n) (c : Nat) :
    ShiftOp.rol.single (b, (rolResult cf d c).r) = (rolResult cf d (c + 1)).outcome := by
  have step : d.rotateLeft (c + 1) = d.rotateLeft c <<< 1 ||| carryIn n (d.rotateLeft c).msb := by
    rw [rotateLeft_add, rotateLeft_one _ two]
  simp only [Shifted.outcome, ShiftOp.single, rolResult, BitVec.rotateLeft_mod_eq_rotateLeft, step,
    getLsbD_shiftLeft_in _ _ (Nat.zero_lt_of_lt two), if_true]

theorem single_ror (b cf : Bool) (d : BitVec n) (c : Nat) :
    ShiftOp.ror.single (b, (rorResult cf d c).r) = (rorResult cf d (c + 1)).outcome := by
  have step : d.rotateRight (c + 1) =
      d.rotateRight c >>> 1 ||| carryIn n ((d.rotateRight c).getLsbD 0) <<< (n - 1) := by
    rw [rotateRight_add, rotateRight_one _ two]
  simp only [Shifted.outcome, ShiftOp.single, rorResult, BitVec.rotateRight_mod_eq_rotateRight, step,
    BitVec.msb_eq_getLsbD_last, getLsbD_shiftRight_in _ _ (Nat.sub_one_lt_of_lt two), if_true]

/-- RCL by one bit rotates CF and the operand as one value. -/
theorem cons_single_rcl (x : Bool × BitVec n) :
    BitVec.cons (ShiftOp.rcl.single x).1 (ShiftOp.rcl.single x).2 = (BitVec.cons x.1 x.2).rotateLeft 1 := by
  refine BitVec.eq_of_getLsbD_eq fun i lt => ?_
  rw [BitVec.getLsbD_rotateLeft, Nat.mod_eq_of_lt (by omega), BitVec.getLsbD_cons, ShiftOp.single]
  by_cases top : i = n
  · rw [if_pos top, top, decide_eq_false (by omega), cond_false, decide_eq_true (by omega), Bool.true_and,
      BitVec.getLsbD_cons, if_neg (by omega), BitVec.msb_eq_getLsbD_last]
  · rw [if_neg top, getLsbD_shiftLeft_in _ _ (by omega)]
    by_cases low : i = 0
    · simp [low, BitVec.getElem_cons]
    · simp [low, lt, BitVec.getLsbD_cons, show i - 1 ≠ n by omega]

/-- RCR by one bit rotates CF and the operand as one value. -/
theorem cons_single_rcr (x : Bool × BitVec n) :
    BitVec.cons (ShiftOp.rcr.single x).1 (ShiftOp.rcr.single x).2 = (BitVec.cons x.1 x.2).rotateRight 1 := by
  refine BitVec.eq_of_getLsbD_eq fun i lt => ?_
  rw [getLsbD_rotateRight_mod _ _ lt, BitVec.getLsbD_cons, BitVec.getLsbD_cons, ShiftOp.single]
  by_cases top : i = n
  · simp [top, Nat.add_comm 1 n, show 0 ≠ n by omega]
  · rw [if_neg top, getLsbD_shiftRight_in _ _ (by omega), Nat.mod_eq_of_lt (by omega)]
    congr 1
    exact propext (by omega)

theorem single_rcl (cf : Bool) (d : BitVec n) (c : Nat) :
    ShiftOp.rcl.single (rclResult cf d c).outcome = (rclResult cf d (c + 1)).outcome := by
  have wide := cons_single_rcl two (rclResult cf d c).outcome
  rw [cons_rclResult, ← rclWide_succ] at wide
  exact eq_of_cons_eq wide

theorem single_rcr (cf : Bool) (d : BitVec n) (c : Nat) :
    ShiftOp.rcr.single (rcrResult cf d c).outcome = (rcrResult cf d (c + 1)).outcome := by
  have wide := cons_single_rcr two (rcrResult cf d c).outcome
  rw [cons_rcrResult, ← rcrWide_succ] at wide
  exact eq_of_cons_eq wide

end

section
variable {n : Nat}

theorem single_shl (b cf : Bool) (d : BitVec n) (c : Nat) :
    ShiftOp.shl.single (b, (shlResult cf d c).r) = (shlResult cf d (c + 1)).outcome := by
  have carry : (d <<< c).msb = (decide (c + 1 ≤ n) && d.getLsbD (n - (c + 1))) := by
    rw [BitVec.msb_shiftLeft, BitVec.getMsbD_eq_getLsbD, Nat.sub_sub, Nat.add_comm 1 c]
    rfl
  simp only [Shifted.outcome, ShiftOp.single, shlResult, BitVec.shiftLeft_add, carry]

theorem single_shr (b cf : Bool) (d : BitVec n) (c : Nat) :
    ShiftOp.shr.single (b, (shrResult cf d c).r) = (shrResult cf d (c + 1)).outcome := by
  have carry : (d >>> c).getLsbD 0 = (decide (c + 1 ≤ n) && d.getLsbD (c + 1 - 1)) := by
    rw [BitVec.getLsbD_ushiftRight, Nat.add_sub_cancel, Nat.add_zero]
    by_cases inside : c + 1 ≤ n
    · rw [decide_eq_true inside, Bool.true_and]
    · rw [decide_eq_false inside, Bool.false_and, BitVec.getLsbD_of_ge d c (by omega)]
  simp only [Shifted.outcome, ShiftOp.single, shrResult, BitVec.shiftRight_add, carry]

theorem single_sar (pos : 0 < n) (b cf : Bool) (d : BitVec n) (c : Nat) :
    ShiftOp.sar.single (b, (sarResult cf d c).r) = (sarResult cf d (c + 1)).outcome := by
  have carry : (d.sshiftRight c).getLsbD 0 = if c + 1 ≤ n then d.getLsbD (c + 1 - 1) else d.msb := by
    rw [BitVec.getLsbD_sshiftRight, decide_eq_false (Nat.not_le_of_lt pos)]
    rfl
  simp only [Shifted.outcome, ShiftOp.single, sarResult, BitVec.sshiftRight_add, carry]

/-- A shift or rotate by 0 leaves the operand, and the carry where it is rotated with it. -/
theorem shifted_zero (o : ShiftOp) (cf : Bool) (d : BitVec n) :
    (o.shifted cf d 0).r = d ∧ (o.readsCarry = true → (o.shifted cf d 0).cf = cf) := by
  cases o <;> simp [ShiftOp.shifted, ShiftOp.readsCarry, rolResult, rorResult, rclResult, rcrResult, shlResult,
    shrResult, sarResult, rclWide, rcrWide, rotateLeft_zero, rotateRight_zero]

/-- One more single step is a count one larger. -/
theorem single_shifted (two : 1 < n) (o : ShiftOp) {cf : Bool} {d : BitVec n} {c : Nat} {x : Bool × BitVec n}
    (value : (o.shifted cf d c).r = x.2) (carry : o.readsCarry = true → (o.shifted cf d c).cf = x.1) :
    o.single x = (o.shifted cf d (c + 1)).outcome := by
  obtain ⟨b, _⟩ := x
  subst value
  cases o
  case rol => exact single_rol two b cf d c
  case ror => exact single_ror two b cf d c
  case rcl => cases carry rfl; exact single_rcl two cf d c
  case rcr => cases carry rfl; exact single_rcr two cf d c
  case shl => exact single_shl b cf d c
  case shr => exact single_shr b cf d c
  case sar => exact single_sar (Nat.zero_lt_of_lt two) b cf d c

theorem repeated_succ (o : ShiftOp) (c : Nat) (x : Bool × BitVec n) :
    o.repeated (c + 1) x = o.single (o.repeated c x) := by
  induction c generalizing x with
  | zero => rfl
  | succ c ih => exact ih (o.single x)

/-- A shift or rotate by a count above 0 is that many by one bit. -/
theorem repeated_eq_shifted (two : 1 < n) (o : ShiftOp) (cf : Bool) (d : BitVec n) (c : Nat) :
    o.repeated (c + 1) (cf, d) = (o.shifted cf d (c + 1)).outcome := by
  induction c with
  | zero => exact single_shifted two o (shifted_zero o cf d).1 (shifted_zero o cf d).2
  | succ c ih =>
    rw [repeated_succ, ih]
    exact single_shifted two o rfl fun _ => rfl

theorem rclResult_of (pos : 0 < n) (cf : Bool) (d : BitVec n) (c : Nat) :
    (rclResult cf d c).of = ((rclResult cf d c).r.msb ^^ (rclResult cf d c).cf) := by
  simp only [rclResult, BitVec.msb_setWidth, decide_eq_true pos, Bool.true_and]

theorem rcrResult_of (two : 1 < n) (cf : Bool) (d : BitVec n) (c : Nat) :
    (rcrResult cf d c).of = ((rcrResult cf d c).r.getLsbD (n - 1) ^^ (rcrResult cf d c).r.getLsbD (n - 2)) := by
  simp only [rcrResult, BitVec.getLsbD_setWidth, decide_eq_true (show n - 1 < n by omega),
    decide_eq_true (show n - 2 < n by omega), Bool.true_and]

/-- OF of a count of 1: for RCL, RCR and SHL from the carry or the value that the single step gives. -/
theorem shifted_of (two : 1 < n) (o : ShiftOp) (cf : Bool) (d : BitVec n) :
    (o.shifted cf d 1).of = o.overflow cf d (o.shifted cf d 1).r := by
  have one := repeated_eq_shifted two o cf d 0
  cases o
  case rol | ror | shr | sar => rfl
  case rcl =>
    have carry : d.msb = (rclResult cf d 1).cf := congrArg Prod.fst one
    exact (rclResult_of (Nat.zero_lt_of_lt two) cf d 1).trans (congrArg _ carry.symm)
  case rcr =>
    have value : d >>> 1 ||| carryIn n cf <<< (n - 1) = (rcrResult cf d 1).r := congrArg Prod.snd one
    have top : (rcrResult cf d 1).r.getLsbD (n - 1) = cf := by
      rw [← value, getLsbD_shiftRight_in d cf (by omega), if_pos rfl]
    have below : (rcrResult cf d 1).r.getLsbD (n - 2) = d.msb := by
      rw [← value, getLsbD_shiftRight_in d cf (by omega), if_neg (by omega), BitVec.msb_eq_getLsbD_last]
      congr 1
      omega
    rw [ShiftOp.shifted, rcrResult_of two, top, below]
    exact Bool.xor_comm cf d.msb
  case shl =>
    have carry : d.msb = (shlResult cf d 1).cf := congrArg Prod.fst one
    exact congrArg ((d <<< 1).msb ^^ ·) carry.symm

end

/-! ## The flags and the count (R510) -/

/-- How each shift and rotate sets the flags. -/
def ShiftOp.setFlags {n : Nat} (o : ShiftOp) : State → ResultSize → Shifted n → Nat → State :=
  if o.rotates then State.setRotate else State.setShift

section
variable {n : Nat} {z : ResultSize}

theorem touches_shiftFlags (o : ShiftOp) (s : State) (x : Shifted n) (c : Nat) :
    Touches s (o.setFlags s z x c) [] [] := by
  cases o <;> exact .quiet rfl

theorem setRotate_flags (s : State) (x : Shifted n) (c : Nat) :
    (s.setRotate z x c).flags = { s.flags with cf := x.cf, of := s.shiftOf x.of c } := by
  rw [State.setRotate, drawn_flags, State.keepSizeSetFlags, setFlags_flags]

theorem setShift_flags (s : State) (x : Shifted n) (c : Nat) :
    (s.setShift z x c).flags =
      { (logicTriple z x.r).flags with cf := x.cf, of := s.shiftOf x.of c, af := s.undefinedFlag .af } := by
  rw [State.setShift, drawn_flags, setFlags_flags]

theorem shiftFlags_carry (o : ShiftOp) (s : State) (x : Shifted n) (c : Nat) :
    (o.setFlags s z x c).flags.cf = x.cf ∧ (o.setFlags s z x c).flags.of = s.shiftOf x.of c := by
  unfold ShiftOp.setFlags
  split
  · rw [setRotate_flags]; exact ⟨rfl, rfl⟩
  · rw [setShift_flags]; exact ⟨rfl, rfl⟩

/-- Of a count above 0, the flags are those of as many single steps. -/
theorem shifted_flagged (fits : z.Fits n) (two : 1 < n) (o : ShiftOp) (s : State) (d : BitVec n) {c : Nat}
    (pos : 0 < c) :
    o.flagged s.flags d c (o.setFlags s z (o.shifted s.flags.cf d c) c).flags := by
  obtain ⟨c, rfl⟩ := Nat.exists_eq_add_one.mpr pos
  obtain ⟨carry, overflow⟩ := shiftFlags_carry (z := z) o s (o.shifted s.flags.cf d (c + 1)) (c + 1)
  rw [ShiftOp.flagged, repeated_eq_shifted two]
  refine ⟨carry, fun one => ?_, ?_⟩
  · rw [overflow, State.shiftOf, if_pos one, one]
    exact shifted_of two o _ d
  · unfold ShiftOp.setFlags
    split
    · rw [setRotate_flags]; exact ⟨rfl, rfl, rfl, rfl⟩
    · obtain ⟨-, -, result⟩ := ofLogic_logicTriple fits (o.shifted s.flags.cf d (c + 1)).r
      rw [setShift_flags]
      exact result

end

theorem shiftCount_eq (s : State) (b : Byte) : s.shiftCount b = if s.cls = .c86 then b.toNat else b.toNat % 32 := by
  unfold State.shiftCount
  split <;> simp [*]

/-! ## The instructions -/

/-- The shape of every shift and rotate: of the operand read, a result by a count above 0 that is written, with the
flags set. -/
def OperandWidth.shiftWith {ρ : Type} {n : Nat} (w : OperandWidth ρ n) (o : ShiftOp) (s : State) (e : RM ρ)
    (count : Byte) : Res State :=
  w.read s e >>= fun p =>
    if s.shiftCount count = 0 then .ok p.2
    else
      w.write
        (o.setFlags p.2 w.size (o.shifted s.flags.cf p.1 (s.shiftCount count)) (s.shiftCount count)) e
        (o.shifted s.flags.cf p.1 (s.shiftCount count)).r

theorem shiftForm8_exec {i : Instr} {o : ShiftOp} {d : RM Reg8} {k : ShiftCount} (s : State)
    (form : shiftForm8 i = some (o, d, k)) :
    exec i s = s.finish (byteOperands.shiftWith o s d (s.countOf k)) := by
  cases i <;> cases form <;> rfl

theorem shiftForm16_exec {i : Instr} {o : ShiftOp} {d : RM Reg16} {k : ShiftCount} (s : State)
    (form : shiftForm16 i = some (o, d, k)) :
    exec i s = s.finish (wordOperands.shiftWith o s d (s.countOf k)) := by
  cases i <;> cases form <;> rfl

section
variable {ρ : Type} {n : Nat} (w : OperandWidth ρ n) {e : RM ρ} {count : Byte} (o : ShiftOp)

theorem OperandWidth.shiftWith_done (two : 1 < n) {c : Nat} (amount : s.shiftCount count = c) (pos : 0 < c)
    (read : w.canRead s e) (can : w.canWrite s e) :
    ∃ t, s.finish (w.shiftWith o s e count) = .next t ∧
      w.Stored s t (o.repeated c (s.flags.cf, w.value s e)).2 e ∧ o.flagged s.flags (w.value s e) c t.flags := by
  obtain ⟨u, run, triple, h⟩ := w.read_ok read
  obtain ⟨t, written, same, stored⟩ := w.write_ok (o.shifted s.flags.cf (w.value s e) c).r
    (h.trans (touches_shiftFlags (z := w.size) o u (o.shifted s.flags.cf (w.value s e) c) c)) can
  refine ⟨s.latchTrap t, ?_, ?_, ?_⟩
  · rw [OperandWidth.shiftWith, run, ok_bind, amount, if_neg (Nat.ne_of_gt pos), written]; rfl
  · obtain ⟨c, rfl⟩ := Nat.exists_eq_add_one.mpr pos
    rwa [repeated_eq_shifted two]
  · rw [latchTrap_flags, flags_of_triple same, ← flags_of_triple triple]
    exact shifted_flagged w.fits two o u (w.value s e) pos

theorem OperandWidth.shiftWith_zero (amount : s.shiftCount count = 0) (read : w.canRead s e) :
    ∃ t, s.finish (w.shiftWith o s e count) = .next t ∧ t.flags = s.flags ∧ w.Kept s t := by
  obtain ⟨u, run, triple, h⟩ := w.read_ok read
  refine ⟨s.latchTrap u, ?_, ?_, w.keeps h⟩
  · rw [OperandWidth.shiftWith, run, ok_bind, if_pos amount]; rfl
  · rw [latchTrap_flags, flags_of_triple triple]

end

/-- Settles O19: every form is a shift or rotate of its operand by its count. -/
theorem shiftsAndRotates : Obligations.ShiftsAndRotates := by
  refine ⟨⟨fun s i o d k c form count pos read can => ?_, fun s i o d k c form count pos read can => ?_⟩,
    fun s i o d k form count read => ?_, fun s i o d k form count read => ?_⟩
  · rw [← shiftCount_eq] at count
    obtain ⟨t, run, ⟨holds, frame⟩, flags⟩ := byteOperands.shiftWith_done o (by decide) count.symm pos read can
    exact ⟨t, (shiftForm8_exec s form).trans run, holds, flags, frame⟩
  · rw [← shiftCount_eq] at count
    obtain ⟨t, run, ⟨holds, frame⟩, flags⟩ := wordOperands.shiftWith_done o (by decide) count.symm pos read can
    exact ⟨t, (shiftForm16_exec s form).trans run, holds, flags, frame⟩
  · rw [← shiftCount_eq] at count
    obtain ⟨t, run, kept⟩ := byteOperands.shiftWith_zero o count read
    exact ⟨t, (shiftForm8_exec s form).trans run, kept⟩
  · rw [← shiftCount_eq] at count
    obtain ⟨t, run, kept⟩ := wordOperands.shiftWith_zero o count read
    exact ⟨t, (shiftForm16_exec s form).trans run, kept⟩

end Sys2Proof.Machine
end

section
/-! The string instructions (44_string.md): an element of either width reads and writes at SI and DI and moves them, and
an iteration does one element and counts CX down. -/

namespace Sys2Proof.Machine

variable {s t u : State}

/-! ## Pointers (44 R600) -/

section
variable {dest : List Reg16} {stored : List Nat}

theorem Touches.delta (h : Touches s u dest stored) (n : Word) : u.delta n = s.delta n := by
  rw [State.delta, State.delta, State.df, State.df, h.live]

/-- A pointer that nothing has changed moves past an element. -/
theorem Touches.step (h : Touches s u dest stored) {r : Reg16} (out : r ∉ dest) (n : Word) :
    Touches s (u.setReg r (u.reg r + u.delta n)) (dest ++ [r]) stored ∧
      (u.setReg r (u.reg r + u.delta n)).reg r = s.reg r + s.delta n := by
  constructor
  · simpa only [List.append_nil] using h.trans (touches_setReg u r (u.reg r + u.delta n))
  · rw [reg_setReg_same, h.regs r out, h.delta]

/-- SI and DI both move past an element. -/
theorem Touches.stepBoth (h : Touches s u [] stored) (n : Word) :
    Touches s ((u.stepSi n).stepDi n) [.si, .di] stored ∧
      ((u.stepSi n).stepDi n).reg .si = s.reg .si + s.delta n ∧
      ((u.stepSi n).stepDi n).reg .di = s.reg .di + s.delta n := by
  obtain ⟨first, si⟩ := h.step (r := .si) List.not_mem_nil n
  obtain ⟨both, di⟩ := first.step (r := .di) (by decide) n
  exact ⟨both, ((touches_setReg _ .di _).regs .si (by decide)).trans si, di⟩

end

/-! ## Ports (20 R112) -/

/-- A port read answers the host's next answer and changes the host's side and the draws. -/
theorem ioRead_spec (s : State) (port : Word) (n : Nat) : ∃ a h d,
    s.ioRead port n = (a, { s with host := h, draws := d }) ∧
      (∀ b rest, s.host.ioAnswers = b :: rest → a = b) ∧ h.ioAnswers = s.host.ioAnswers.tail ∧
      h.calls = .portRead port n :: s.host.calls := by
  unfold State.ioRead
  split
  · rename_i a rest answers
    exact ⟨a, _, _, rfl, fun b rest' next => (List.cons.inj (answers.symm.trans next)).1, by rw [answers]; rfl, rfl⟩
  · rename_i answers
    exact ⟨_, _, _, rfl, fun b rest next => absurd (answers.symm.trans next) nofun,
      answers.trans (congrArg List.tail answers).symm, rfl⟩

/-- Where the host's side may change too, the rest is as if it had not. -/
theorem Touches.ofHost {dest : List Reg16} {stored : List Nat} {h : HostSide} {d : Nat}
    (k : Touches { s with host := h, draws := d } t dest stored) : Touches s { t with host := s.host } dest stored :=
  { k with host := rfl }

theorem latchTrap_withHost (s t : State) (h : HostSide) :
    { s.latchTrap t with host := h } = s.latchTrap { t with host := h } := by
  unfold State.latchTrap
  split <;> rfl

theorem busWrite8_calls (s : State) (p : Nat) (v : Byte) : s.host.calls ⊆ (s.busWrite8 p v).host.calls := by
  unfold State.busWrite8
  split
  case h_4 => exact List.subset_cons_self _ _
  all_goals exact List.Subset.refl _

theorem busWriteBytes_calls (s : State) (p q : Nat) (v : Word) :
    s.host.calls ⊆ (s.busWriteBytes p q v).host.calls :=
  List.Subset.trans (busWrite8_calls s p _) (busWrite8_calls _ q _)

theorem segPut16_calls (s : State) (r : SegReg) (off v : Word) : s.host.calls ⊆ (s.segPut16 r off v).host.calls := by
  unfold State.segPut16 State.busWrite16
  split
  · exact busWriteBytes_calls s _ _ v
  split
  · exact busWriteBytes_calls s _ _ v
  split
  case h_4 => exact List.subset_cons_self _ _
  all_goals exact List.Subset.refl _

/-! ## Elements of either width -/

/-- The part of the state that says where an instruction is and how it goes on: no element changes it. -/
def State.position (s : State) : Config × Word × Prefetch × Scratch := (s.cfg, s.ip, s.queue, s.scratch)

/-- What the byte and the word elements have in common: the bytes at an offset of a segment are read or written, AL or
AX is the accumulator, and the pointers move by the size. -/
structure ElementWidth (n : Nat) where
  size   : ResultSize
  fits   : size.Fits n
  /-- The bytes after the first. -/
  extra  : Nat
  step   : Word
  get    : State → SegReg → Word → BitVec n × State
  put    : State → SegReg → Word → BitVec n → State
  acc    : State → BitVec n
  /-- AX with a value in the accumulator. -/
  load   : State → BitVec n → Word
  toPort : BitVec n → Word
  ofPort : Word → BitVec n
  stored : State → SegReg → Word → List Nat
  /-- The second state holds a value that was stored from the first. -/
  Holds  : State → State → SegReg → Word → BitVec n → Prop
  touches_get  : ∀ s r off, Touches s (get s r off).2 [] []
  get_triple   : ∀ s r off, (get s r off).2.triple = s.triple
  get_position : ∀ s r off, (get s r off).2.position = s.position
  put_spec     : ∀ {s u} r off v, Touches s u [] [] →
    Touches s (put u r off v) [] (stored s r off) ∧ Holds s (put u r off v) r off v
  put_triple   : ∀ s r off v, (put s r off v).triple = s.triple
  put_position : ∀ s r off v, (put s r off v).position = s.position
  put_calls    : ∀ s r off v, s.host.calls ⊆ (put s r off v).host.calls
  holds_mem    : ∀ {s t u r off v}, Holds s t r off v → u.mem = t.mem → Holds s u r off v
  load_after   : ∀ {s u} v, Touches s u [] [] → load u v = load s v
  ofHost       : ∀ s h d,
    stored { s with host := h, draws := d } = stored s ∧ Holds { s with host := h, draws := d } = Holds s

theorem busWrite8_spec (r : SegReg) (off : Word) (v : Byte) (h : Touches s u [] []) :
    Touches s (u.busWrite8 (u.segAddr r off) v) [] [s.segAddr r off] ∧
      s.holdsByte (u.busWrite8 (u.segAddr r off) v) (s.segAddr r off) v := by
  rw [h.segAddr]
  exact ⟨h.trans (touches_busWrite8 u _ v), fun ram => holdsByte_busWrite8 u _ v (by rwa [h.kindAt])⟩

theorem segPut16_after (r : SegReg) (off v : Word) (h : Touches s u [] []) :
    Touches s (u.segPut16 r off v) [] (s.storedWord r off) ∧ s.holdsWord (u.segPut16 r off v) r off v := by
  obtain ⟨touches, holds⟩ := segPut16_spec u r off v
  constructor
  · simpa only [State.storedWord, h.wordAddrs, List.nil_append] using h.trans touches
  · simpa only [State.holdsWord, State.holdsByte, h.wordAddrs, h.kindAt] using holds

/-- The byte elements. -/
def byteElements : ElementWidth 8 where
  size := .byte
  fits := byte_fits
  extra := 0
  step := 1
  get s r off := s.busRead8 (s.segAddr r off)
  put s r off v := s.busWrite8 (s.segAddr r off) v
  acc s := s.reg8 .al
  load s v := mkWord v (hiByte (s.reg .ax))
  toPort := zext16
  ofPort := loByte
  stored s r off := [s.segAddr r off]
  Holds s t r off v := s.holdsByte t (s.segAddr r off) v
  touches_get s r off := touches_busRead8 s _
  get_triple s r off := State.busRead8_triple s _
  get_position s r off := by simp [State.position]
  put_spec := busWrite8_spec
  put_triple s r off v := State.busWrite8_triple s _ v
  put_position s r off v := by simp [State.position]
  put_calls s r off v := busWrite8_calls s _ v
  holds_mem holds same ram := same ▸ holds ram
  load_after v h := congrArg (fun ax => mkWord v (hiByte ax)) (h.regs .ax List.not_mem_nil)
  ofHost s h d := ⟨rfl, rfl⟩

/-- The word elements. -/
def wordElements : ElementWidth 16 where
  size := .word
  fits := word_fits
  extra := 1
  step := 2
  get := State.segGet16
  put := State.segPut16
  acc s := s.reg .ax
  load _ v := v
  toPort := id
  ofPort := id
  stored := State.storedWord
  Holds := State.holdsWord
  touches_get := touches_segGet16
  get_triple := State.segGet16_triple
  get_position s r off := by simp [State.position]
  put_spec := segPut16_after
  put_triple := State.segPut16_triple
  put_position s r off v := by simp [State.position]
  put_calls := segPut16_calls
  holds_mem holds same := ⟨fun ram => same ▸ holds.1 ram, fun ram => same ▸ holds.2 ram⟩
  load_after _ _ := rfl
  ofHost s h d := ⟨rfl, rfl⟩

namespace ElementWidth

variable {n : Nat} (w : ElementWidth n)

/-- `SegRead` of an element (20 R129). -/
def read (s : State) (r : SegReg) (off : Word) : Res (BitVec n × State) :=
  s.checkAccess r off w.extra false >>= fun _ => .ok (w.get s r off)

/-- `SegWrite` of an element (20 R129). -/
def write (s : State) (r : SegReg) (off : Word) (v : BitVec n) : Res State :=
  s.checkAccess r off w.extra true >>= fun _ => .ok (w.put s r off v)

/-- MOVS (44 R606). -/
def movs (s : State) : Res State :=
  w.read s (s.segOr .ds) (s.reg .si) >>= fun p =>
    w.write p.2 .es (s.reg .di) p.1 >>= fun u => .ok ((u.stepSi w.step).stepDi w.step)

/-- CMPS (44 R607). -/
def cmps (s : State) : Res State :=
  w.read s (s.segOr .ds) (s.reg .si) >>= fun p => w.read p.2 .es (s.reg .di) >>= fun q =>
    .ok (((q.2.setTriple (subTriple w.size p.1 q.1 false)).stepSi w.step).stepDi w.step)

/-- SCAS (44 R608). -/
def scas (s : State) : Res State :=
  w.read s .es (s.reg .di) >>= fun p => .ok ((p.2.setTriple (subTriple w.size (w.acc s) p.1 false)).stepDi w.step)

/-- LODS (44 R609). -/
def lods (s : State) : Res State :=
  w.read s (s.segOr .ds) (s.reg .si) >>= fun p => .ok ((p.2.setReg .ax (w.load p.2 p.1)).stepSi w.step)

/-- STOS (44 R610). -/
def stos (s : State) : Res State :=
  w.write s .es (s.reg .di) (w.acc s) >>= fun u => .ok (u.stepDi w.step)

/-- INS (44 R611). -/
def ins (s : State) : Res State :=
  s.checkIopl >>= fun _ => s.checkAccess .es (s.reg .di) w.extra true >>= fun _ =>
    w.write (s.ioRead (s.reg .dx) w.step.toNat).2 .es (s.reg .di) (w.ofPort (s.ioRead (s.reg .dx) w.step.toNat).1) >>=
      fun u => .ok (u.stepDi w.step)

/-- OUTS (44 R612). -/
def outs (s : State) : Res State :=
  s.checkIopl >>= fun _ => w.read s (s.segOr .ds) (s.reg .si) >>= fun p =>
    .ok ((p.2.ioWrite (s.reg .dx) w.step.toNat (w.toPort p.1)).stepSi w.step)

variable {w} {r : SegReg} {off : Word}

theorem read_ok (h : s.accessFault r off w.extra false = none) : w.read s r off = .ok (w.get s r off) := by
  rw [read, checkAccess_eq_ok (u := ()).mpr h]; rfl

theorem write_ok {v : BitVec n} (h : s.accessFault r off w.extra true = none) :
    w.write s r off v = .ok (w.put s r off v) := by
  rw [write, checkAccess_eq_ok (u := ()).mpr h]; rfl

end ElementWidth

/-- `Terminated()` of the instructions that compare, and of those that do not (44 R602). -/
def terminates : Bool → RepKind → State → Bool
  | true => zfStops
  | false => neverStops

section
variable {i : Instr} {element : State → Res State} {compares : Bool} (form : elementForm i = some (element, compares))
include form

theorem elementForm_exec (s : State) : exec i s = s.finish (s.repeated i (terminates compares) element) := by
  cases i <;> cases form <;> rfl

/-- Unrepeated, the element is the whole instruction. -/
theorem elementForm_once (once : s.scratch.rep = none) : exec i s = s.finish (element s) := by
  rw [elementForm_exec form, State.repeated, once]

/-- Where the element runs, what it raises is raised. -/
theorem elementForm_traps {x : Exc} (runs : s.scratch.rep = none ∨ s.reg .cx ≠ 0) (raised : Raises (element s) x) :
    Traps i s x := by
  have passed : Raises (s.repeated i (terminates compares) element) x := by
    unfold State.repeated
    split
    · exact raised
    · rename_i prefixed
      rw [if_neg (runs.resolve_left (prefixed ▸ nofun))]
      exact raised.bind _
  obtain ⟨u, raises⟩ := passed
  exact ⟨u, by rw [elementForm_exec form, raises]; rfl⟩

end

namespace ElementWidth

/-! ## What an element does where it completes (44 R606 to R612) -/

variable {n : Nat} {w : ElementWidth n} {i : Instr} {compares : Bool}

theorem movs_done (form : elementForm i = some (w.movs, compares)) (once : s.scratch.rep = none)
    (source : s.accessFault (s.segOr .ds) (s.reg .si) w.extra false = none)
    (dest : s.accessFault .es (s.reg .di) w.extra true = none) :
    ∃ t, exec i s = .next t ∧ w.Holds s t .es (s.reg .di) (w.get s (s.segOr .ds) (s.reg .si)).1 ∧
      t.reg .si = s.reg .si + s.delta w.step ∧ t.reg .di = s.reg .di + s.delta w.step ∧ t.flags = s.flags ∧
      Frame s t [.si, .di] (w.stored s .es (s.reg .di)) := by
  have got := w.touches_get s (s.segOr .ds) (s.reg .si)
  obtain ⟨put, holds⟩ := w.put_spec .es (s.reg .di) (w.get s (s.segOr .ds) (s.reg .si)).1 got
  obtain ⟨touches, si, di⟩ := put.stepBoth w.step
  refine ⟨_, ?_, ?_, ?_, ?_, ?_, touches.frame⟩
  · rw [elementForm_once form once, movs, read_ok source, ok_bind, write_ok ((got.accessFault ..).trans dest)]
    rfl
  · exact w.holds_mem holds (State.latchTrap_mem s _)
  · rw [latchTrap_reg, si]
  · rw [latchTrap_reg, di]
  · rw [latchTrap_flags]
    exact flags_of_triple ((w.put_triple ..).trans (w.get_triple ..))

theorem cmps_done (form : elementForm i = some (w.cmps, compares)) (once : s.scratch.rep = none)
    (source : s.accessFault (s.segOr .ds) (s.reg .si) w.extra false = none)
    (dest : s.accessFault .es (s.reg .di) w.extra false = none) :
    ∃ t, exec i s = .next t ∧
      t.flags = subFlags (w.get s (s.segOr .ds) (s.reg .si)).1
        (w.get (w.get s (s.segOr .ds) (s.reg .si)).2 .es (s.reg .di)).1 false ∧
      t.reg .si = s.reg .si + s.delta w.step ∧ t.reg .di = s.reg .di + s.delta w.step ∧ Frame s t [.si, .di] [] := by
  have got := w.touches_get s (s.segOr .ds) (s.reg .si)
  have both := got.trans (w.touches_get (w.get s (s.segOr .ds) (s.reg .si)).2 .es (s.reg .di))
  obtain ⟨touches, si, di⟩ := (both.trans (touches_setTriple _ (subTriple w.size _ _ false))).stepBoth w.step
  refine ⟨_, ?_, ?_, ?_, ?_, touches.frame⟩
  · rw [elementForm_once form once, cmps, read_ok source, ok_bind, read_ok ((got.accessFault ..).trans dest)]
    rfl
  · rw [latchTrap_flags]
    exact w.fits.sub _ _ false
  · rw [latchTrap_reg, si]
  · rw [latchTrap_reg, di]

theorem scas_done (form : elementForm i = some (w.scas, compares)) (once : s.scratch.rep = none)
    (dest : s.accessFault .es (s.reg .di) w.extra false = none) :
    ∃ t, exec i s = .next t ∧ t.flags = subFlags (w.acc s) (w.get s .es (s.reg .di)).1 false ∧
      t.reg .di = s.reg .di + s.delta w.step ∧ Frame s t [.di] [] := by
  have got := w.touches_get s .es (s.reg .di)
  obtain ⟨touches, di⟩ :=
    (got.trans (touches_setTriple _ (subTriple w.size _ _ false))).step (r := .di) List.not_mem_nil w.step
  refine ⟨_, ?_, ?_, ?_, touches.frame⟩
  · rw [elementForm_once form once, scas, read_ok dest]
    rfl
  · rw [latchTrap_flags]
    exact w.fits.sub _ _ false
  · rw [latchTrap_reg, di]

theorem lods_done (form : elementForm i = some (w.lods, compares)) (once : s.scratch.rep = none)
    (source : s.accessFault (s.segOr .ds) (s.reg .si) w.extra false = none) :
    ∃ t, exec i s = .next t ∧ t.reg .ax = w.load s (w.get s (s.segOr .ds) (s.reg .si)).1 ∧
      t.reg .si = s.reg .si + s.delta w.step ∧ t.flags = s.flags ∧ Frame s t [.ax, .si] [] := by
  have got := w.touches_get s (s.segOr .ds) (s.reg .si)
  obtain ⟨touches, si⟩ := (got.trans (touches_setReg _ .ax (w.load _ _))).step (r := .si) (by decide) w.step
  refine ⟨_, ?_, ?_, ?_, ?_, touches.frame⟩
  · rw [elementForm_once form once, lods, read_ok source]
    rfl
  · rw [latchTrap_reg, (touches_setReg _ .si _).regs .ax (by decide), reg_setReg_same, w.load_after _ got]
  · rw [latchTrap_reg, si]
  · rw [latchTrap_flags]
    exact flags_of_triple (w.get_triple ..)

theorem stos_done (form : elementForm i = some (w.stos, compares)) (once : s.scratch.rep = none)
    (dest : s.accessFault .es (s.reg .di) w.extra true = none) :
    ∃ t, exec i s = .next t ∧ w.Holds s t .es (s.reg .di) (w.acc s) ∧ t.reg .di = s.reg .di + s.delta w.step ∧
      t.flags = s.flags ∧ Frame s t [.di] (w.stored s .es (s.reg .di)) := by
  obtain ⟨put, holds⟩ := w.put_spec .es (s.reg .di) (w.acc s) (.refl s)
  obtain ⟨touches, di⟩ := put.step (r := .di) List.not_mem_nil w.step
  refine ⟨_, ?_, ?_, ?_, ?_, touches.frame⟩
  · rw [elementForm_once form once, stos, write_ok dest]
    rfl
  · exact w.holds_mem holds (State.latchTrap_mem s _)
  · rw [latchTrap_reg, di]
  · rw [latchTrap_flags]
    exact flags_of_triple (w.put_triple ..)

section
variable (allowed : ¬(s.protectedMode = true ∧ s.iopl.toNat < s.sys.cpl.toNat))
include allowed

theorem ins_done (form : elementForm i = some (w.ins, compares)) (once : s.scratch.rep = none)
    (dest : s.accessFault .es (s.reg .di) w.extra true = none) :
    ∃ t, exec i s = .next t ∧
      (∀ a rest, s.host.ioAnswers = a :: rest → w.Holds s t .es (s.reg .di) (w.ofPort a)) ∧
      t.host.ioAnswers = s.host.ioAnswers.tail ∧ .portRead (s.reg .dx) w.step.toNat ∈ t.host.calls ∧
      t.reg .di = s.reg .di + s.delta w.step ∧ t.flags = s.flags ∧
      Frame s { t with host := s.host } [.di] (w.stored s .es (s.reg .di)) := by
  have permitted : s.checkIopl = .ok () := checkIopl_ok (by simpa [State.ioplDenies] using allowed)
  obtain ⟨a, h, d, asked, answer, tail, calls⟩ := ioRead_spec s (s.reg .dx) w.step.toNat
  obtain ⟨sameStored, sameHolds⟩ := w.ofHost s h d
  obtain ⟨put, holds⟩ := w.put_spec .es (s.reg .di) (w.ofPort a) (.refl { s with host := h, draws := d })
  rw [sameStored] at put
  rw [sameHolds] at holds
  obtain ⟨touches, di⟩ := put.step (r := .di) List.not_mem_nil w.step
  have answers := congrArg HostSide.ioAnswers touches.host
  have frame := touches.ofHost.frame
  rw [← latchTrap_withHost] at frame
  refine ⟨_, ?_, fun b rest next => ?_, ?_, ?_, ?_, ?_, frame⟩
  · rw [elementForm_once form once, ins, permitted, ok_bind, checkAccess_eq_ok (u := ()).mpr dest,
      ok_bind, asked, write_ok (s := { s with host := h, draws := d }) dest]
    rfl
  · rw [← answer b rest next]
    exact w.holds_mem holds (State.latchTrap_mem s _)
  · rw [State.latchTrap_host, ← tail]
    exact answers
  · rw [State.latchTrap_host]
    exact w.put_calls _ _ _ _ (by rw [calls]; exact List.mem_cons_self)
  · rw [latchTrap_reg]
    exact di
  · rw [latchTrap_flags]
    exact flags_of_triple (w.put_triple ..)

theorem outs_done (form : elementForm i = some (w.outs, compares)) (once : s.scratch.rep = none)
    (source : s.accessFault (s.segOr .ds) (s.reg .si) w.extra false = none) :
    ∃ t, exec i s = .next t ∧
      t.host.calls.head? =
        some (.portWrite (s.reg .dx) w.step.toNat (w.toPort (w.get s (s.segOr .ds) (s.reg .si)).1)) ∧
      t.reg .si = s.reg .si + s.delta w.step ∧ t.flags = s.flags ∧ Frame s t [.si] [] := by
  have got := w.touches_get s (s.segOr .ds) (s.reg .si)
  have permitted : s.checkIopl = .ok () := checkIopl_ok (by simpa [State.ioplDenies] using allowed)
  obtain ⟨touches, si⟩ := (got.trans (touches_note _ (.portWrite (s.reg .dx) w.step.toNat (w.toPort _)))).step
    (r := .si) List.not_mem_nil w.step
  refine ⟨_, ?_, ?_, ?_, ?_, touches.frame⟩
  · rw [elementForm_once form once, outs, permitted, ok_bind, read_ok source]
    rfl
  · rw [State.latchTrap_host]
    rfl
  · rw [latchTrap_reg, si]
  · rw [latchTrap_flags]
    exact flags_of_triple (w.get_triple ..)

end

end ElementWidth

/-- Settles O32: the elements that use no port, by their kind. -/
theorem stringElements : Obligations.StringElements := by
  refine ⟨?_, ?_, ?_⟩
  · rintro s _ _ once rfl rfl source
    refine ⟨byteElements.movs_done rfl once source, ?_, fun dest => ?_⟩
    · obtain ⟨t, run, ax, rest⟩ := byteElements.lods_done (i := .lodsb) rfl once source
      have al : t.reg8 .al = _ := (congrArg loByte ax).trans (loByte_mkWord _ _)
      have ah : t.reg8 .ah = s.reg8 .ah := (congrArg hiByte ax).trans (hiByte_mkWord _ _)
      exact ⟨t, run, al, ah, rest⟩
    · rw [← (touches_busRead8 s (s.segAddr (s.segOr .ds) (s.reg .si))).segAddr .es (s.reg .di)]
      exact byteElements.cmps_done (i := .cmpsb) rfl once source dest
  · rintro s _ _ once rfl rfl source
    exact ⟨wordElements.movs_done rfl once source, wordElements.lods_done rfl once source,
      wordElements.cmps_done rfl once source⟩
  · rintro s _ _ once rfl rfl
    exact ⟨byteElements.stos_done rfl once, wordElements.stos_done rfl once, byteElements.scas_done rfl once,
      wordElements.scas_done rfl once⟩

/-- Settles O33: the port elements by their kind, and the check of their privilege, which comes first. -/
theorem stringPorts : Obligations.StringPorts := by
  refine ⟨?_, fun s i port runs protect denied => ?_⟩
  · rintro s _ _ once rfl rfl allowed
    exact ⟨byteElements.ins_done allowed rfl once, wordElements.ins_done allowed rfl once,
      byteElements.outs_done allowed rfl once, wordElements.outs_done allowed rfl once⟩
  · have raised : Raises s.checkIopl (.gp 0) := by
      rw [State.checkIopl, State.ioplDenies, protect, decide_eq_true denied]
      exact ⟨s, rfl⟩
    rcases port with rfl | rfl | rfl | rfl <;> exact elementForm_traps rfl runs (raised.bind _)

/-! ## One iteration (44 R601, R602) -/

/-- The element leaves the instruction's place as it was, where it completes. -/
def StaysAt (s : State) (x : Res State) : Prop := ∀ u, x = .ok u → u.position = s.position

section
variable {x : Res State} {y : Res Unit} {f : Unit → Res State}

theorem StaysAt.ok (h : u.position = s.position) : StaysAt s (.ok u) := by
  rintro _ ⟨⟩
  exact h

theorem StaysAt.check (h : StaysAt s (f ())) : StaysAt s (y >>= f) := by
  intro u run
  obtain ⟨_, -, rest⟩ := bind_eq_ok.mp run
  exact h u rest

end

namespace ElementWidth

variable {n : Nat} (w : ElementWidth n)

theorem staysAt_read {r : SegReg} {off : Word} {f : BitVec n × State → Res State} (here : t.position = s.position)
    (h : ∀ v u, u.position = s.position → StaysAt s (f (v, u))) : StaysAt s (w.read t r off >>= f) := by
  intro u run
  obtain ⟨p, got, rest⟩ := bind_eq_ok.mp run
  obtain ⟨_, -, ⟨⟩⟩ := bind_eq_ok.mp got
  exact h _ _ ((w.get_position ..).trans here) u rest

theorem staysAt_write {r : SegReg} {off : Word} {v : BitVec n} {f : State → Res State}
    (here : t.position = s.position) (h : ∀ u, u.position = s.position → StaysAt s (f u)) :
    StaysAt s (w.write t r off v >>= f) := by
  intro u run
  obtain ⟨p, put, rest⟩ := bind_eq_ok.mp run
  obtain ⟨_, -, ⟨⟩⟩ := bind_eq_ok.mp put
  exact h _ ((w.put_position ..).trans here) u rest

theorem staysAt_movs (s : State) : StaysAt s (w.movs s) :=
  w.staysAt_read rfl fun _ _ h => w.staysAt_write h fun _ k => .ok k

theorem staysAt_cmps (s : State) : StaysAt s (w.cmps s) :=
  w.staysAt_read rfl fun _ _ h => w.staysAt_read h fun _ _ k => .ok k

theorem staysAt_scas (s : State) : StaysAt s (w.scas s) := w.staysAt_read rfl fun _ _ h => .ok h

theorem staysAt_lods (s : State) : StaysAt s (w.lods s) := w.staysAt_read rfl fun _ _ h => .ok h

theorem staysAt_stos (s : State) : StaysAt s (w.stos s) := w.staysAt_write rfl fun _ h => .ok h

theorem staysAt_ins (s : State) : StaysAt s (w.ins s) :=
  .check (.check (w.staysAt_write (by simp [State.position]) fun _ h => .ok h))

theorem staysAt_outs (s : State) : StaysAt s (w.outs s) := .check (w.staysAt_read rfl fun _ _ h => .ok h)

end ElementWidth

theorem elementForm_staysAt {i : Instr} {element : State → Res State} {compares : Bool}
    (form : elementForm i = some (element, compares)) (s : State) : StaysAt s (element s) := by
  cases i <;> cases form
  case movsb => exact byteElements.staysAt_movs s
  case movsw => exact wordElements.staysAt_movs s
  case cmpsb => exact byteElements.staysAt_cmps s
  case cmpsw => exact wordElements.staysAt_cmps s
  case scasb => exact byteElements.staysAt_scas s
  case scasw => exact wordElements.staysAt_scas s
  case lodsb => exact byteElements.staysAt_lods s
  case lodsw => exact wordElements.staysAt_lods s
  case stosb => exact byteElements.staysAt_stos s
  case stosw => exact wordElements.staysAt_stos s
  case insb => exact byteElements.staysAt_ins s
  case insw => exact wordElements.staysAt_ins s
  case outsb => exact byteElements.staysAt_outs s
  case outsw => exact wordElements.staysAt_outs s

/-- The iteration is the last one: CX is used up, or the comparison says so. -/
def LastIteration (s u : State) (compares : Bool) (k : RepKind) : Prop :=
  s.reg .cx = 1 ∨ (compares = true ∧ u.flags.zf = (k == .repne))

theorem terminates_iff (compares : Bool) (k : RepKind) (u : State) :
    terminates compares k u = true ↔ compares = true ∧ u.flags.zf = (k == .repne) := by
  cases compares
  · simp [terminates, neverStops]
  · cases k with
    | rep => simp [terminates, zfStops, show (RepKind.rep == .repne) = false from rfl]
    | repne => simp [terminates, zfStops]

section
variable {i : Instr} {element : State → Res State} {compares : Bool} {k : RepKind} (prefixed : s.scratch.rep = some k)
include prefixed

theorem repeated_zero {stops : RepKind → State → Bool} (zero : s.reg .cx = 0) :
    s.repeated i stops element = .ok { s with rep := none } := by
  rw [State.repeated, prefixed]
  exact if_pos zero

/-- After its element an iteration counts CX down, and ends the repetition or suspends it. -/
theorem repeated_element (more : s.reg .cx ≠ 0) (done : element s = .ok u) :
    (LastIteration s u compares k → s.repeated i (terminates compares) element =
      .ok { u.setReg .cx (s.reg .cx - 1) with rep := none }) ∧
    (¬LastIteration s u compares k → s.repeated i (terminates compares) element =
      .ok ((u.setReg .cx (s.reg .cx - 1)).suspend i k)) := by
  have ends : (decide (s.reg .cx - 1 = 0) || terminates compares k (u.setReg .cx (s.reg .cx - 1))) = true ↔
      LastIteration s u compares k := by
    rw [Bool.or_eq_true, decide_eq_true_eq, sub_eq_zero, terminates_iff]
    rfl
  rw [State.repeated, prefixed]
  dsimp only
  rw [if_neg more, done]
  exact ⟨fun last => if_pos (ends.mpr last), fun unfinished => if_neg (mt ends.mp unfinished)⟩

end

theorem latchTrap_withRep (s t : State) (p : Option RepeatPending) :
    { s.latchTrap t with rep := p } = s.latchTrap { t with rep := p } := by
  unfold State.latchTrap
  split <;> rfl

/-- What an iteration makes of the registers, the flags and memory, whether it is the last or not. -/
theorem iteration_effect {c : Word} (regs : t.regs = (u.setReg .cx c).regs) (triple : t.triple = u.triple)
    (mem : t.mem = u.mem) :
    (s.latchTrap t).reg .cx = c ∧ (∀ r, r ≠ .cx → (s.latchTrap t).reg r = u.reg r) ∧
      (s.latchTrap t).flags = u.flags ∧ (s.latchTrap t).mem = u.mem := by
  have reg (r : Reg16) : (s.latchTrap t).reg r = (u.setReg .cx c).reg r := by rw [latchTrap_reg, State.reg, regs]; rfl
  refine ⟨?_, fun r other => ?_, ?_, ?_⟩
  · rw [reg, reg_setReg_same]
  · rw [reg, (touches_setReg u .cx c).regs r (by simpa using other)]
  · rw [latchTrap_flags, flags_of_triple triple]
  · rw [State.latchTrap_mem, mem]

theorem restartIp_eq (s : State) :
    s.restartIp = if s.cls = .c86 then s.scratch.lastPrefixIp else s.scratch.startIp := by
  unfold State.restartIp
  split <;> simp [*]

/-- What a suspended repetition keeps is where its instruction stood. -/
theorem suspend_spec (same : u.position = s.position) (i : Instr) (k : RepKind) :
    (u.suspend i k).ip = (if s.cls = .c86 then s.scratch.lastPrefixIp else s.scratch.startIp) ∧
      (u.suspend i k).rep = some
        { instr := i, startIp := s.scratch.startIp, lastPrefixIp := s.scratch.lastPrefixIp, nextIp := s.ip
          override := s.scratch.override, rep := k, lock := s.scratch.lock, ahead := s.queue } := by
  simp only [State.position, Prod.mk.injEq] at same
  obtain ⟨cfg, ip, queue, scratch⟩ := same
  constructor
  · rw [State.suspend, restartIp_eq, State.cls, cfg, scratch]
    rfl
  · rw [State.suspend, ip, queue, scratch]

/-- Settles O34: an iteration by CX, by what its element does, and by whether it is the last. -/
theorem repeatIteration : Obligations.RepeatIteration := by
  intro s i element compares k form prefixed
  refine ⟨fun zero => ?_, fun more u done => ?_, fun more x raised => elementForm_traps form (.inr more) raised⟩
  · have run : exec i s = s.finish (.ok { s with rep := none }) := by
      rw [elementForm_exec form, repeated_zero prefixed zero]
    refine ⟨_, run, State.latchTrap_rep s _, latchTrap_flags s _, ?_⟩
    rw [latchTrap_withRep]
    exact (Touches.refl s).frame
  · obtain ⟨ended, suspended⟩ := repeated_element (i := i) (compares := compares) prefixed more done
    have same := elementForm_staysAt form s u done
    by_cases last : LastIteration s u compares k
    · obtain ⟨cx, regs, flags, mem⟩ := iteration_effect (s := s) (u := u) (c := s.reg .cx - 1)
        (t := { u.setReg .cx (s.reg .cx - 1) with rep := none }) rfl rfl rfl
      have ip : u.ip = s.ip := congrArg (·.2.1) same
      refine ⟨_, by rw [elementForm_exec form, ended last]; rfl, cx, regs, flags, mem, fun _ => ?_, absurd last⟩
      exact ⟨State.latchTrap_rep s _, (State.latchTrap_ip s _).trans ip⟩
    · obtain ⟨cx, regs, flags, mem⟩ := iteration_effect (s := s) (u := u) (c := s.reg .cx - 1)
        (t := (u.setReg .cx (s.reg .cx - 1)).suspend i k) rfl rfl rfl
      obtain ⟨ip, rep⟩ := suspend_spec (u := u.setReg .cx (s.reg .cx - 1)) same i k
      refine ⟨_, by rw [elementForm_exec form, suspended last]; rfl, cx, regs, flags, mem, (absurd · last),
        fun _ => ?_⟩
      exact ⟨(State.latchTrap_ip s _).trans ip, (State.latchTrap_rep s _).trans rep⟩

end Sys2Proof.Machine
end

section
/-! What transfers have in common (45_control_transfer.md R650 to R712): a relation that keeps the flags beside what
`Touches` keeps, words pushed one after another and words popped. -/

namespace Sys2Proof.Machine

variable {s t u v : State} {dest dest' : List Reg16} {stored stored' : List Nat}

/-! ## Touching no flags -/

/-- `Touches`, with the arithmetic flags as they were. -/
structure KeepsFlags (s t : State) (dest : List Reg16) (stored : List Nat) : Prop extends
    Touches s t dest stored where
  triple : t.triple = s.triple

namespace KeepsFlags

theorem refl (s : State) : KeepsFlags s s [] [] := ⟨.refl s, rfl⟩

theorem trans (h : KeepsFlags s t dest stored) (k : KeepsFlags t u dest' stored') :
    KeepsFlags s u (dest ++ dest') (stored ++ stored') :=
  ⟨h.toTouches.trans k.toTouches, k.triple.trans h.triple⟩

theorem mono (h : KeepsFlags s t dest stored) (hd : dest ⊆ dest') (ha : stored ⊆ stored') :
    KeepsFlags s t dest' stored' := ⟨h.toTouches.mono hd ha, h.triple⟩

theorem flags (h : KeepsFlags s t dest stored) : t.flags = s.flags := flags_of_triple h.triple

theorem setReg (h : KeepsFlags s t dest stored) {r : Reg16} (mem : r ∈ dest) (x : Word) :
    KeepsFlags s (t.setReg r x) dest stored := by
  have k : KeepsFlags t (t.setReg r x) [r] [] := ⟨touches_setReg t r x, rfl⟩
  refine (h.trans k).mono (List.append_subset.mpr ⟨List.Subset.refl _, ?_⟩) (List.append_nil _ ▸ List.Subset.refl _)
  simpa using mem

/-- Reading on. -/
theorem read (h : KeepsFlags s t dest stored) (k : KeepsFlags t u [] []) : KeepsFlags s u dest stored := by
  simpa only [List.append_nil] using h.trans k

/-- The same registers, where none are named. -/
theorem reg (h : KeepsFlags s t [] stored) (r : Reg16) : t.reg r = s.reg r := h.regs r List.not_mem_nil

end KeepsFlags

theorem keepsFlags_segGet16 (s : State) (r : SegReg) (off : Word) : KeepsFlags s (s.segGet16 r off).2 [] [] :=
  ⟨touches_segGet16 s r off, by simp⟩

theorem keepsFlags_afterEw (s : State) (e : RM Reg16) : KeepsFlags s (s.afterEw e) [] [] :=
  ⟨touches_afterEw s e, afterEw_triple s e⟩

/-! ## What the bus does not see -/

/-- A change of the state that no bus access sees or undoes: of registers, of the scratch, of CPL. -/
structure BusBlind (f : State → State) : Prop where
  cfg    : ∀ s, (f s).cfg = s.cfg
  a20    : ∀ s, (f s).a20 = s.a20
  blocks : ∀ s, (f s).blocks = s.blocks
  segs   : ∀ s, (f s).segs = s.segs
  mem    : ∀ s, (f s).mem = s.mem
  draws  : ∀ s, (f s).draws = s.draws
  drawn  : ∀ s, f s.drawn = (f s).drawn
  note   : ∀ s e, f (s.note e) = (f s).note e
  store  : ∀ s m, f { s with mem := m } = { f s with mem := m }

namespace BusBlind

theorem setReg (r : Reg16) (x : Word) : BusBlind (State.setReg · r x) := by constructor <;> intros <;> rfl

theorem noteEa (x : Word) : BusBlind (State.noteEa · x) := by constructor <;> intros <;> rfl

variable {f : State → State} (blind : BusBlind f)
include blind

theorem kindAt (s : State) (p : Nat) : (f s).kindAt p = s.kindAt p := by
  simp only [State.kindAt, blind.cfg, blind.blocks]

theorem lastOfBlock (s : State) (p : Nat) : (f s).lastOfBlock p = s.lastOfBlock p := by
  simp only [State.lastOfBlock, blind.cfg]

theorem phys (s : State) (l : BitVec 32) : (f s).phys l = s.phys l := by
  simp only [State.phys, State.addrMask, State.cls, blind.cfg, blind.a20]

theorem physNext (s : State) (p : Nat) : (f s).physNext p = s.physNext p := blind.phys s _

theorem segAddr (s : State) (r : SegReg) (off : Word) : (f s).segAddr r off = s.segAddr r off := by
  simp only [State.segAddr, State.seg, blind.segs, blind.phys]

theorem wrapAddr (s : State) (r : SegReg) : (f s).wrapAddr r = s.wrapAddr r := by
  simp only [State.wrapAddr, State.cls, State.seg, blind.cfg, blind.segs, blind.segAddr, blind.phys]

theorem busRead8 (s : State) (p : Nat) : (f s).busRead8 p = ((s.busRead8 p).1, f (s.busRead8 p).2) := by
  simp only [State.busRead8, blind.kindAt, blind.mem, blind.draws]
  split <;> simp only [blind.note, blind.drawn]

theorem busReadBytes (s : State) (p q : Nat) :
    (f s).busReadBytes p q = ((s.busReadBytes p q).1, f (s.busReadBytes p q).2) := by
  simp only [State.busReadBytes, blind.busRead8]

theorem busRead16 (s : State) (p : Nat) : (f s).busRead16 p = ((s.busRead16 p).1, f (s.busRead16 p).2) := by
  simp only [State.busRead16, blind.lastOfBlock, blind.physNext, blind.kindAt, blind.mem, blind.draws,
    blind.busReadBytes]
  split
  · rfl
  · split <;> simp only [blind.note, blind.drawn]

theorem segGet16 (s : State) (r : SegReg) (off : Word) :
    (f s).segGet16 r off = ((s.segGet16 r off).1, f (s.segGet16 r off).2) := by
  simp only [State.segGet16, blind.segAddr, blind.wrapAddr, blind.busReadBytes, blind.busRead16]
  split <;> rfl

theorem busWrite8 (s : State) (p : Nat) (x : Byte) : (f s).busWrite8 p x = f (s.busWrite8 p x) := by
  simp only [State.busWrite8, blind.kindAt, blind.mem]
  split
  case h_1 => exact (blind.store s _).symm
  case h_4 => exact (blind.note s _).symm
  all_goals rfl

theorem busWriteBytes (s : State) (p q : Nat) (x : Word) : (f s).busWriteBytes p q x = f (s.busWriteBytes p q x) := by
  simp only [State.busWriteBytes, blind.busWrite8]

theorem busWrite16 (s : State) (p : Nat) (x : Word) : (f s).busWrite16 p x = f (s.busWrite16 p x) := by
  simp only [State.busWrite16, blind.lastOfBlock, blind.physNext, blind.kindAt, blind.mem, blind.busWriteBytes]
  split
  · rfl
  · split
    case h_1 => exact (blind.store s _).symm
    case h_4 => exact (blind.note s _).symm
    all_goals rfl

theorem segPut16 (s : State) (r : SegReg) (off x : Word) : (f s).segPut16 r off x = f (s.segPut16 r off x) := by
  simp only [State.segPut16, blind.segAddr, blind.wrapAddr, blind.busWriteBytes, blind.busWrite16]
  split <;> rfl

end BusBlind

/-! ## Words on the stack do not overlap (41 R330) -/

theorem storedWord_mod {r : SegReg} {x : Word} {a : Nat} (h : a ∈ s.storedWord r x) :
    a % 65536 = ((s.seg r).base.toNat + x.toNat) % 65536 ∨
      a % 65536 = ((s.seg r).base.toNat + x.toNat + 1) % 65536 := by
  simp only [State.storedWord, List.mem_cons, List.not_mem_nil, or_false] at h
  rcases h with rfl | rfl
  · exact .inl (segAddr_mod s r x)
  · exact .inr (wordAddrs_mod s r x)

/-- Words at offsets more than one apart share no byte. -/
theorem storedWord_disjoint {r : SegReg} {x y : Word} (ne : x ≠ y) (above : x ≠ y + 1) (below : y ≠ x + 1) {a : Nat}
    (h : a ∈ s.storedWord r x) : a ∉ s.storedWord r y := by
  intro h'
  have hx := x.isLt
  have hy := y.isLt
  have d : x.toNat ≠ y.toNat := fun e => ne (BitVec.eq_of_toNat_eq e)
  have d₁ : x.toNat ≠ (y.toNat + 1) % 65536 := fun e => above (BitVec.eq_of_toNat_eq (by simpa using e))
  have d₂ : y.toNat ≠ (x.toNat + 1) % 65536 := fun e => below (BitVec.eq_of_toNat_eq (by simpa using e))
  have mx := storedWord_mod h
  have my := storedWord_mod h'
  omega

theorem pushedOffset_disjoint {r : SegReg} {sp : Word} {j k : Nat} (hj : j < 0x7FFF) (hk : k < 0x7FFF) (ne : j ≠ k)
    {a : Nat} (h : a ∈ s.storedWord r (sp - BitVec.ofNat 16 (2 * (j + 1)))) :
    a ∉ s.storedWord r (sp - BitVec.ofNat 16 (2 * (k + 1))) := by
  refine storedWord_disjoint ?_ ?_ ?_ h <;> bv_omega

theorem pushedAddrs_succ (s : State) (n : Nat) :
    s.pushedAddrs (n + 1) = s.pushedAddrs n ++ s.storedWord .ss (s.reg .sp - BitVec.ofNat 16 (2 * (n + 1))) := by
  simp only [State.pushedAddrs, List.range_succ, List.flatMap_append, List.flatMap_singleton]
  rfl

theorem pushedAddrs_mono (s : State) {m n : Nat} (h : m ≤ n) : s.pushedAddrs m ⊆ s.pushedAddrs n := by
  induction h with
  | refl => exact List.Subset.refl _
  | step _ ih => rw [pushedAddrs_succ]; exact List.subset_append_of_subset_left _ ih

/-- A stored word stays where its bytes do. -/
theorem State.holdsWord.of_mem {r : SegReg} {off x : Word} (h : s.holdsWord t r off x)
    (same : ∀ a ∈ s.storedWord r off, Memory.read u.mem a = Memory.read t.mem a) : s.holdsWord u r off x :=
  ⟨fun ram => (same _ (by simp [State.storedWord])).trans (h.1 ram),
    fun ram => (same _ (by simp [State.storedWord])).trans (h.2 ram)⟩

/-! ## Words pushed one after another (41 R330) -/

/-- `t` is `s` with the words pushed, the first of them first; the registers named may have changed. -/
structure Pushed (s t : State) (dest : List Reg16) (ws : List Word) : Prop extends
    KeepsFlags s t dest (s.pushedAddrs ws.length) where
  sp    : t.reg .sp = s.reg .sp - BitVec.ofNat 16 (2 * ws.length)
  holds : s.holdsPushed t ws

namespace Pushed

variable {ws : List Word}

/-- Nothing pushed yet. -/
theorem start (h : KeepsFlags s t [] []) : Pushed s t dest [] where
  toKeepsFlags := h.mono (List.nil_subset _) (List.nil_subset _)
  sp := by rw [h.reg]; simp
  holds := fun k hk => absurd hk (Nat.not_lt_zero k)

/-- Between the pushes registers may change, but for SP, and words be read. -/
theorem keep (h : Pushed s t dest ws) (k : KeepsFlags t u dest' []) (sub : dest' ⊆ dest) (sp : .sp ∉ dest') :
    Pushed s u dest ws where
  toKeepsFlags := (h.toKeepsFlags.trans k).mono (List.append_subset.mpr ⟨List.Subset.refl _, sub⟩)
    (List.append_nil _ ▸ List.Subset.refl _)
  sp := (k.regs _ sp).trans h.sp
  holds i hi := (h.holds i hi).of_mem fun _ _ => k.memory _ List.not_mem_nil

/-- One more push, which its check allows. -/
theorem push (h : Pushed s t dest ws) (named : .sp ∈ dest) (len : ws.length < 0x7FFF)
    (can : s.accessFault .ss (s.reg .sp - BitVec.ofNat 16 (2 * (ws.length + 1))) 1 true = none) (x : Word) :
    ∃ u, t.push16 x = .ok u ∧ Pushed s u dest (ws ++ [x]) := by
  have top : t.regs.sp - 2 = s.reg .sp - BitVec.ofNat 16 (2 * (ws.length + 1)) := by
    rw [show t.regs.sp = _ from h.sp]
    bv_omega
  obtain ⟨u, run, triple, sp, touches, holds⟩ := push16_ok (s := t) (by rw [top, h.accessFault]; exact can) x
  rw [top] at sp touches holds
  have same : t.storedWord .ss (s.reg .sp - BitVec.ofNat 16 (2 * (ws.length + 1))) =
      s.storedWord .ss (s.reg .sp - BitVec.ofNat 16 (2 * (ws.length + 1))) := by
    rw [State.storedWord, h.wordAddrs, State.storedWord]
  rw [same] at touches
  refine ⟨u, run, ⟨⟨?_, triple.trans h.triple⟩, ?_, ?_⟩⟩
  · rw [List.length_append, List.length_singleton, pushedAddrs_succ]
    exact (h.toTouches.trans touches).mono (by simpa using named) (List.Subset.refl _)
  · rw [List.length_append, List.length_singleton]
    exact sp
  · intro k hk
    rw [List.length_append, List.length_singleton] at hk
    by_cases old : k < ws.length
    · rw [List.getElem_append_left old]
      exact (h.holds k old).of_mem fun a ha => touches.memory a (pushedOffset_disjoint (by omega) len (by omega) ha)
    · obtain rfl : k = ws.length := by omega
      rw [List.getElem_append_right (Nat.le_refl _)]
      simp only [State.holdsWord, State.holdsByte, h.wordAddrs, h.kindAt] at holds
      simp only [Nat.sub_self, List.getElem_singleton]
      exact holds

/-- More pushes, which their checks allow. -/
theorem pushAll {vs : List Word} (h : Pushed s t dest ws) (named : .sp ∈ dest) (len : ws.length + vs.length < 0x8000)
    (can : s.canPush (ws.length + vs.length)) : ∃ u, State.pushAll vs t = .ok u ∧ Pushed s u dest (ws ++ vs) := by
  induction vs generalizing t ws with
  | nil => exact ⟨t, rfl, by rwa [List.append_nil]⟩
  | cons x vs ih =>
    rw [List.length_cons] at len can
    obtain ⟨u, run, pushed⟩ := h.push named (by omega) (can ws.length (by omega)) x
    have total : (ws ++ [x]).length + vs.length = ws.length + (vs.length + 1) := by
      rw [List.length_append, List.length_singleton]
      omega
    obtain ⟨w, rest, done⟩ := ih pushed (by omega) (total ▸ can)
    exact ⟨w, by rw [State.pushAll, run, ok_bind, rest], by rwa [List.append_assoc] at done⟩

end Pushed

/-- That many pushes, which their checks allow, after words were read. -/
theorem KeepsFlags.pushAll (h : KeepsFlags s t [] []) {ws : List Word} (len : ws.length < 0x8000)
    (can : s.canPush ws.length) : ∃ u, State.pushAll ws t = .ok u ∧ Pushed s u [.sp] ws :=
  (Pushed.start (dest := [.sp]) h).pushAll (ws := []) (List.mem_singleton_self _) (by simpa using len)
    (by simpa using can)

/-- Words pushed before others. -/
theorem pushAll_append (ws vs : List Word) (s : State) :
    State.pushAll (ws ++ vs) s = State.pushAll ws s >>= State.pushAll vs := by
  induction ws generalizing s with
  | nil => rfl
  | cons w ws ih => simp only [List.cons_append, State.pushAll, bind_assoc, ih]

/-! ## Words popped one after another (41 R330) -/

theorem keepsFlags_popped (s : State) :
    KeepsFlags s ((s.segGet16 .ss (s.reg .sp)).2.setReg .sp (s.reg .sp + 2)) [.sp] [] :=
  ((keepsFlags_segGet16 s .ss (s.reg .sp)).mono (List.nil_subset _) (List.Subset.refl _)).setReg
    (List.mem_singleton_self _) _

/-- The first of several words that can be popped. -/
theorem pop16_of_canPop {n : Nat} {x : Word} {xs : List Word} (can : s.canPop (n + 1))
    (top : (s.popMany (n + 1)).1 = x :: xs) :
    ∃ t, s.pop16 = .ok (x, t) ∧ KeepsFlags s t [.sp] [] ∧ t.reg .sp = s.reg .sp + 2 ∧ t.canPop n ∧
      (t.popMany n).1 = xs := by
  have first : s.accessFault .ss s.regs.sp 1 false = none := by simpa using can 0 (Nat.succ_pos n)
  obtain ⟨rfl, rfl⟩ := List.cons.inj top
  refine ⟨_, pop16_ok first, keepsFlags_popped s, reg_setReg_same _ _ _, fun k hk => ?_, rfl⟩
  refine ((keepsFlags_popped s).accessFault ..).trans ?_
  have next := can (k + 1) (Nat.succ_lt_succ hk)
  rw [ofNat_two_mul_succ, ← BitVec.add_assoc] at next
  exact next

/-! ## Where an instruction ends -/

theorem latchTrap_intFlags (h : t.intFlags = s.intFlags) : (s.latchTrap t).intFlags = s.latched := by
  unfold State.latchTrap State.latched
  cases e : s.tf <;> simp [h]

theorem latchTrap_jump (s t : State) (target : Word) : s.latchTrap (t.jump target) = (s.latchTrap t).jump target := by
  unfold State.latchTrap
  split <;> rfl

theorem restarts_jump (s : State) (target : Word) : (s.jump target).queue.restarts target := ⟨rfl, rfl, rfl, rfl⟩

/-- The end of an instruction that jumps within its segment (20 R160). -/
theorem KeepsFlags.jumpFrame (h : KeepsFlags s t dest stored) (target : Word) :
    JumpFrame s (s.latchTrap (t.jump target)) target dest stored := by
  have frame := h.frame
  rw [latchTrap_jump]
  exact ⟨⟨frame.regs, frame.memory, frame.live, frame.sys, frame.events, frame.fixed⟩, rfl, restarts_jump _ _,
    frame.segs, (latchTrap_flags s t).trans h.flags, frame.nointr, frame.rep, frame.host⟩

/-- An instruction whose body raises traps. -/
theorem Raises.traps {i : Instr} {x : Res State} {e : Exc} (h : Raises x e) (run : exec i s = s.finish x) :
    Traps i s e := by
  obtain ⟨u, rfl⟩ := h
  exact ⟨u, run⟩

end Sys2Proof.Machine
end

section
/-! LEAVE, ENTER and BOUND (45_control_transfer.md R710 to R712). -/

namespace Sys2Proof.Machine

variable {s t u : State}

/-! ## LEAVE (R711) -/

theorem leave_done (can : s.accessFault .ss (s.reg .bp) 1 false = none) :
    ∃ t, exec .leave s = .next t ∧ t.reg .bp = (s.segGet16 .ss (s.reg .bp)).1 ∧ t.reg .sp = s.reg .bp + 2 ∧
      t.flags = s.flags ∧ Frame s t [.sp, .bp] [] := by
  have get := (BusBlind.setReg .sp (s.reg .bp)).segGet16 s .ss (s.reg .bp)
  have start : KeepsFlags s (s.setReg .sp (s.reg .bp)) [.sp, .bp] [] :=
    ((KeepsFlags.refl s).mono (List.nil_subset _) (List.Subset.refl _)).setReg (by decide) _
  have popped := ((start.read (keepsFlags_segGet16 _ .ss (s.reg .bp))).setReg (r := .sp) (by decide)
    (s.reg .bp + 2)).setReg (r := .bp) (by decide) (s.segGet16 .ss (s.reg .bp)).1
  have run : s.leaveFrame = .ok ((((s.setReg .sp (s.reg .bp)).segGet16 .ss (s.reg .bp)).2.setReg .sp
      (s.reg .bp + 2)).setReg .bp (s.segGet16 .ss (s.reg .bp)).1) := by
    have top : (s.setReg .sp (s.regs.bp)).accessFault .ss (s.setReg .sp s.regs.bp).regs.sp 1 false = none :=
      (start.accessFault ..).trans can
    rw [State.leaveFrame, pop16_ok top]
    exact congrArg (fun x => Except.ok (State.setReg _ .bp x)) (congrArg Prod.fst get)
  refine ⟨_, congrArg s.finish run, ?_, ?_, ?_, popped.frame⟩
  · rw [latchTrap_reg, reg_setReg_same]
  · rw [latchTrap_reg, (touches_setReg _ .bp _).regs .sp (by decide), reg_setReg_same]
  · rw [latchTrap_flags, popped.flags]

/-! ## ENTER (R710) -/

/-- The words are the frame pointers below BP, where no push wrote over them. -/
def State.framePointers (s : State) (n : Nat) (ws : List Word) : Prop :=
  ∀ k, (h : k < ws.length) → ∀ off : Word, off = s.reg .bp - BitVec.ofNat 16 (2 * (k + 1)) →
    s.kindAt (s.wordAddrs .ss off).1 = .ram → s.kindAt (s.wordAddrs .ss off).2 = .ram →
    (s.wordAddrs .ss off).1 ∉ s.pushedAddrs n → (s.wordAddrs .ss off).2 ∉ s.pushedAddrs n →
    ws[k] = (s.segGet16 .ss off).1

/-- A word of `ram` that nothing has written over is read as it was. -/
theorem Touches.segGet16_untouched {dest : List Reg16} {stored : List Nat} (h : Touches s t dest stored) {r : SegReg}
    {off : Word} (lo : s.kindAt (s.wordAddrs r off).1 = .ram) (hi : s.kindAt (s.wordAddrs r off).2 = .ram)
    (lo' : (s.wordAddrs r off).1 ∉ stored) (hi' : (s.wordAddrs r off).2 ∉ stored) :
    (t.segGet16 r off).1 = (s.segGet16 r off).1 := by
  rw [segGet16_ram lo hi, segGet16_ram (by rw [h.wordAddrs, h.kindAt]; exact lo)
    (by rw [h.wordAddrs, h.kindAt]; exact hi), h.wordAddrs, h.memory _ lo', h.memory _ hi']

/-- A push changes no register but SP. -/
theorem push16_reg {x : Word} (run : t.push16 x = .ok u) {r : Reg16} (other : r ≠ .sp) : u.reg r = t.reg r := by
  obtain ⟨v, put, ⟨⟩⟩ := bind_eq_ok.mp run
  obtain ⟨_, -, ⟨⟩⟩ := bind_eq_ok.mp put
  rw [(touches_setReg _ .sp _).regs r (by simpa using other)]
  exact congrArg (Regs.get · r) (State.segPut16_regs ..)

section
variable {n : Nat} {ws : List Word}

/-- The copies of an ENTER under way: BP and the copied frame pointers are pushed, and BP points below the last. -/
structure Copying (s u : State) (n : Nat) (ws : List Word) : Prop where
  pushed : Pushed s u [.sp, .bp] (s.reg .bp :: ws)
  bp     : u.reg .bp = s.reg .bp - BitVec.ofNat 16 (2 * ws.length)
  copied : s.framePointers (n + 2) ws

/-- One more copy. -/
theorem Copying.next (h : Copying s u n ws) (len : ws.length < n) (small : n < 32) (push : s.canPush (n + 2))
    (read : s.accessFault .ss (s.reg .bp - BitVec.ofNat 16 (2 * (ws.length + 1))) 1 false = none) :
    ∃ x v t, (u.setReg .bp (u.regs.bp - 2)).segRead16 .ss (u.regs.bp - 2) = .ok (x, v) ∧ v.push16 x = .ok t ∧
      Copying s t n (ws ++ [x]) := by
  have below : u.regs.bp - 2 = s.reg .bp - BitVec.ofNat 16 (2 * (ws.length + 1)) := by
    rw [show u.regs.bp = _ from h.bp]
    bv_omega
  rw [below]
  generalize at_off : s.reg .bp - BitVec.ofNat 16 (2 * (ws.length + 1)) = off at read
  have moved : KeepsFlags u (u.setReg .bp off) [.bp] [] :=
    ((KeepsFlags.refl u).mono (List.nil_subset _) (List.Subset.refl _)).setReg (List.mem_singleton_self _) _
  have here := h.pushed.keep moved (by decide) (by decide)
  have after := here.keep (keepsFlags_segGet16 _ .ss off) (List.nil_subset _) List.not_mem_nil
  obtain ⟨t, run, pushed⟩ := after.push (by decide) (by simp; omega) (push _ (by simp; omega))
    ((u.setReg .bp off).segGet16 .ss off).1
  refine ⟨((u.setReg .bp off).segGet16 .ss off).1, ((u.setReg .bp off).segGet16 .ss off).2, t,
    segRead16_of_access ((here.accessFault ..).trans read), run, pushed, ?_, fun k hk off' at_k lo hi lo' hi' => ?_⟩
  · rw [push16_reg run (by decide), (touches_segGet16 ..).regs .bp List.not_mem_nil, reg_setReg_same, ← at_off,
      List.length_append, List.length_singleton]
  · rw [List.length_append, List.length_singleton] at hk
    by_cases old : k < ws.length
    · rw [List.getElem_append_left old]
      exact h.copied k old off' at_k lo hi lo' hi'
    · obtain rfl : k = ws.length := by omega
      obtain rfl : off' = off := at_k.trans at_off
      have fewer : s.pushedAddrs (s.reg .bp :: ws).length ⊆ s.pushedAddrs (n + 2) :=
        pushedAddrs_mono s (by rw [List.length_cons]; omega)
      simp only [List.getElem_append_right (Nat.le_refl _), Nat.sub_self, List.getElem_singleton]
      exact here.segGet16_untouched lo hi (fun m => lo' (fewer m)) (fun m => hi' (fewer m))

/-- The copies that are left. -/
theorem Copying.enterCopy {m : Nat} (h : Copying s u n ws) (len : ws.length + m = n) (small : n < 32)
    (push : s.canPush (n + 2))
    (read : ∀ k < n, s.accessFault .ss (s.reg .bp - BitVec.ofNat 16 (2 * (k + 1))) 1 false = none) :
    ∃ v ws', State.enterCopy m u = .ok v ∧ Copying s v n ws' ∧ ws'.length = n := by
  induction m generalizing u ws with
  | zero => exact ⟨u, ws, rfl, h, len⟩
  | succ m ih =>
    obtain ⟨x, v, t, get, put, next⟩ := h.next (by omega) small push (read _ (by omega))
    obtain ⟨w, ws', rest, done, total⟩ := ih next (by rw [List.length_append, List.length_singleton]; omega)
    refine ⟨w, ws', ?_, done, total⟩
    rw [State.enterCopy, get, ok_bind]
    exact (congrArg (· >>= State.enterCopy m) put).trans rest

end

/-- The end of ENTER: BP points at the pushed BP, and SP makes room. -/
theorem enter_end {n : Nat} {ws : List Word} (h : Pushed s u [.sp, .bp] ws) (frame size : Word)
    (len : ws.length = n) :
    let t := s.latchTrap ((u.setReg .bp frame).setReg .sp (u.regs.sp - size))
    t.reg .bp = frame ∧ t.reg .sp = s.reg .sp - BitVec.ofNat 16 (2 * n) - size ∧ s.holdsPushed t ws ∧
      t.flags = s.flags ∧ Frame s t [.sp, .bp] (s.pushedAddrs n) := by
  subst len
  have ended := (h.setReg (r := .bp) (by decide) frame).setReg (r := .sp) (by decide) (u.regs.sp - size)
  refine ⟨?_, ?_, fun k hk => (h.holds k hk).of_mem fun a _ => ?_, ?_, ended.frame⟩
  · rw [latchTrap_reg, (touches_setReg _ .sp _).regs .bp (by decide), reg_setReg_same]
  · rw [latchTrap_reg, reg_setReg_same]
    exact congrArg (· - size) h.sp
  · rw [State.latchTrap_mem]
    rfl
  · rw [latchTrap_flags, ended.flags]

theorem enter_flat {size : Word} {lev : Byte} (level : lev.toNat % 32 = 0) (can : s.canPush 1) :
    ∃ t, exec (.enterIwIb size lev) s = .next t ∧ s.holdsPushed t [s.reg .bp] ∧ t.reg .bp = s.reg .sp - 2 ∧
      t.reg .sp = s.reg .sp - 2 - size ∧ t.flags = s.flags ∧ Frame s t [.sp, .bp] (s.pushedAddrs 1) := by
  obtain ⟨u, run, pushed⟩ := (Pushed.start (dest := [.sp, .bp]) (.refl s)).push (by decide) (by decide)
    (can 0 Nat.one_pos) (s.reg .bp)
  have body : s.enterFrame size lev = .ok ((u.setReg .bp u.regs.sp).setReg .sp (u.regs.sp - size)) := by
    rw [State.enterFrame, show s.push16 s.regs.bp = .ok u from run, ok_bind, level]
    rfl
  obtain ⟨bp, sp, holds, flags, frame⟩ := enter_end pushed u.regs.sp size rfl
  exact ⟨_, congrArg s.finish body, holds, bp.trans pushed.sp, sp, flags, frame⟩

theorem enter_nested {size : Word} {lev : Byte} {n : Nat} (level : lev.toNat % 32 = n + 1) (can : s.canPush (n + 2))
    (read : ∀ k < n, s.accessFault .ss (s.reg .bp - BitVec.ofNat 16 (2 * (k + 1))) 1 false = none) :
    ∃ t ws, exec (.enterIwIb size lev) s = .next t ∧ ws.length = n ∧ s.framePointers (n + 2) ws ∧
      s.holdsPushed t (s.reg .bp :: ws ++ [s.reg .sp - 2]) ∧ t.reg .bp = s.reg .sp - 2 ∧
      t.reg .sp = s.reg .sp - BitVec.ofNat 16 (2 * (n + 2)) - size ∧ t.flags = s.flags ∧
      Frame s t [.sp, .bp] (s.pushedAddrs (n + 2)) := by
  have small : n < 32 := by omega
  obtain ⟨u, push, first⟩ := (Pushed.start (dest := [.sp, .bp]) (.refl s)).push (by decide) (by decide)
    (can 0 (Nat.succ_pos _)) (s.reg .bp)
  have sp : u.regs.sp = s.reg .sp - 2 := first.sp
  have copying : Copying s u n [] :=
    ⟨first, by rw [push16_reg push (by decide)]; simp, fun k hk => absurd hk (Nat.not_lt_zero k)⟩
  obtain ⟨v, ws, copy, ⟨pushed, -, copied⟩, rfl⟩ := copying.enterCopy (Nat.zero_add n) small can read
  obtain ⟨w, last, all⟩ := pushed.push (by decide) (by rw [List.length_cons]; omega) (can _ (by simp)) u.regs.sp
  have body : s.enterFrame size lev = .ok ((w.setReg .bp u.regs.sp).setReg .sp (w.regs.sp - size)) := by
    rw [State.enterFrame, show s.push16 s.regs.bp = .ok u from push, ok_bind, level, State.enterLevels,
      if_neg (Nat.succ_ne_zero _), Nat.add_sub_cancel, copy, ok_bind, last]
    rfl
  obtain ⟨bp, spEnd, holds, flags, frame⟩ := enter_end all u.regs.sp size
    (show _ = ws.length + 2 by simp)
  exact ⟨_, ws, congrArg s.finish body, rfl, copied, sp ▸ holds, bp.trans sp, spEnd, flags, frame⟩

/-! ## BOUND (R712) -/

theorem keepsFlags_afterPair (s : State) (m : MemRef) : KeepsFlags s (s.afterPair m) [] [] :=
  ((KeepsFlags.mk (touches_noteEa s _) rfl).read (keepsFlags_segGet16 _ _ _)).read (keepsFlags_segGet16 _ _ _)

/-- The two words at a memory operand that can be read. -/
theorem readPair_ok {m : MemRef} (can : s.canReadPair m) : s.readPair m = .ok (s.valuePair m, s.afterPair m) := by
  obtain ⟨first, second⟩ := can
  have noted := touches_noteEa s (s.ea m)
  have read := noted.trans (touches_segGet16 (s.noteEa (s.ea m)) (s.opSeg m) (s.ea m))
  rw [State.readPair, segRead16_of_access ((noted.accessFault ..).trans first), ok_bind]
  dsimp only
  rw [segRead16_of_access ((read.accessFault ..).trans second)]
  simp only [State.valuePair, State.afterPair, (BusBlind.noteEa (s.ea m)).segGet16, ok_bind, pure_eq_ok]

/-- Settles O28: LEAVE and BOUND by what they read, ENTER by the words it pushes and copies. -/
theorem framesAndBounds : Obligations.FramesAndBounds := by
  refine ⟨⟨fun s => leave_done, fun s size lev => enter_flat, fun s size lev n level can read => ?_⟩,
    fun s m g can => ⟨fun lower upper => ?_, fun outside => ?_⟩⟩
  · obtain ⟨t, ws, run, rfl, copied, holds, bp, sp, flags, frame⟩ := enter_nested level can read
    refine ⟨t, run, bp, sp, holds 0 (by simp), ?_, fun k hk off at_k lo hi lo' hi' => ?_, flags, frame⟩
    · have word := holds (ws.length + 1) (by simp)
      rw [List.getElem_append_right (by simp)] at word
      simp only [List.length_cons, Nat.sub_self, List.getElem_singleton] at word
      exact word
    · have word := holds (k + 1) (by simp; omega)
      rw [← copied k hk off at_k lo hi lo' hi']
      rwa [List.getElem_append_left (by simpa using hk)] at word
  · have inside : (decide ((s.reg g).toInt < (s.valuePair m).1.toInt) ||
        decide ((s.valuePair m).2.toInt < (s.reg g).toInt)) = false := by
      simpa using ⟨lower, upper⟩
    have body : s.bound g m = .ok (s.afterPair m) := by
      rw [State.bound, readPair_ok can, ok_bind]
      exact raiseIf_bind inside _ _ _
    exact ⟨_, congrArg s.finish body, (latchTrap_flags _ _).trans (keepsFlags_afterPair s m).flags,
      (keepsFlags_afterPair s m).frame⟩
  · have raised : Raises (s.bound g m) .br := by
      rw [State.bound, readPair_ok can, ok_bind]
      refine raises_raiseIf ?_ _ _ _
      rwa [Bool.or_eq_true, decide_eq_true_iff, decide_eq_true_iff]
    exact raised.traps rfl

end Sys2Proof.Machine
end

section
/-! Jumps, calls and returns within a segment (45_control_transfer.md R650 to R669, R673 to R681, R690 to R693). -/

namespace Sys2Proof.Machine

variable {s t u : State} {dest : List Reg16} {stored : List Nat}

/-! ## The check of a near target (R650, R667) -/

theorem KeepsFlags.inCode (h : KeepsFlags s t dest stored) (target : Word) : t.inCode target ↔ s.inCode target := by
  rw [State.inCode, State.inCode, h.protectedMode, h.seg]

theorem nearCheck_eq_false {target : Word} (h : s.inCode target) :
    (s.protectedMode && decide ((s.seg .cs).limit.toNat < target.toNat)) = false := by
  simpa [State.inCode] using h

theorem nearCheck_eq_true {target : Word} (h : ¬s.inCode target) :
    (s.protectedMode && decide ((s.seg .cs).limit.toNat < target.toNat)) = true := by
  simpa [State.inCode] using h

theorem nearJump_ok {target : Word} (h : s.inCode target) : s.nearJump target = .ok (s.jump target) :=
  raiseIf_bind (nearCheck_eq_false h) _ _ _

theorem nearJump_raises {target : Word} (h : ¬s.inCode target) : Raises (s.nearJump target) (.gp 0) :=
  raises_raiseIf (nearCheck_eq_true h) _ _ _

theorem callNear_ok {target : Word} (h : s.inCode target) :
    s.callNear target = s.push16 s.ip >>= fun t => .ok (t.jump target) :=
  raiseIf_bind (nearCheck_eq_false h) _ _ _

theorem callNear_raises {target : Word} (h : ¬s.inCode target) : Raises (s.callNear target) (.gp 0) :=
  raises_raiseIf (nearCheck_eq_true h) _ _ _

/-! ## Conditions (30 R232) -/

theorem holds_iff_asks (c : Cond) (f : Flags) : c.holds f = true ↔ c.asks f := by
  cases c <;> simp [Cond.holds, Cond.asks]

theorem condForm_exec {i : Instr} {c : Cond} {d : Byte} (form : condForm i = some (c, d)) (s : State) :
    exec i s = s.finish (s.branchIf (c.holds s.flags) d) := by
  cases i <;> cases form <;> rfl

section
variable {i : Instr} {c : Bool} {d : Byte} (run : exec i s = s.finish (t.branchIf c d))
include run

/-- What a jump on a condition does after registers were set: it is not taken, it is taken, or its target is beyond the
limit. -/
theorem branchIf_done (h : KeepsFlags s t dest stored) :
    (c = false → ∃ u, exec i s = .next u ∧ u.regs = t.regs ∧ u.flags = s.flags ∧ Frame s u dest stored) ∧
      (c = true → s.inCode (s.ip + sext16 d) →
        ∃ u, exec i s = .next u ∧ u.regs = t.regs ∧ JumpFrame s u (s.ip + sext16 d) dest stored) ∧
      (c = true → ¬s.inCode (s.ip + sext16 d) → Traps i s (.gp 0)) := by
  rw [State.branchIf, h.ip] at run
  refine ⟨?_, ?_, ?_⟩
  · rintro rfl
    exact ⟨_, run, State.latchTrap_regs .., (latchTrap_flags ..).trans h.flags, h.frame⟩
  · rintro rfl within
    rw [if_pos rfl, nearJump_ok ((h.inCode _).mpr within)] at run
    exact ⟨_, run, State.latchTrap_regs .., h.jumpFrame _⟩
  · rintro rfl beyond
    exact (nearJump_raises (mt (h.inCode _).mp beyond)).traps run

end

/-- The count of LOOP is used up by this iteration, or it is not (R690). -/
theorem loop_goes_on (x : Word) (z : Bool) : (x - 1 != 0 && z) = true ↔ x ≠ 1 ∧ z = true := by
  rw [Bool.and_eq_true, bne_iff_ne, Ne, sub_eq_zero]

theorem loop_done {i : Instr} {d : Byte} {z : Bool} (run : exec i s = s.finish (s.loopIf z d)) :
    (¬(s.reg .cx ≠ 1 ∧ z = true) →
      ∃ t, exec i s = .next t ∧ t.reg .cx = s.reg .cx - 1 ∧ t.flags = s.flags ∧ Frame s t [.cx] []) ∧
    (s.reg .cx ≠ 1 → z = true → s.inCode (s.ip + sext16 d) →
      ∃ t, exec i s = .next t ∧ t.reg .cx = s.reg .cx - 1 ∧ JumpFrame s t (s.ip + sext16 d) [.cx] []) ∧
    (s.reg .cx ≠ 1 → z = true → ¬s.inCode (s.ip + sext16 d) → Traps i s (.gp 0)) := by
  have counted : KeepsFlags s (s.setReg .cx (s.reg .cx - 1)) [.cx] [] :=
    ((KeepsFlags.refl s).mono (List.nil_subset _) (List.Subset.refl _)).setReg (List.mem_singleton_self _) _
  have cx {u : State} (regs : u.regs = (s.setReg .cx (s.reg .cx - 1)).regs) : u.reg .cx = s.reg .cx - 1 :=
    (congrArg (Regs.get · .cx) regs).trans (reg_setReg_same ..)
  obtain ⟨stays, jumps, traps⟩ := branchIf_done run counted
  have goes := loop_goes_on (s.reg .cx) z
  refine ⟨fun ends => ?_, fun more cond within => ?_, fun more cond => traps (goes.mpr ⟨more, cond⟩)⟩
  · obtain ⟨t, run, regs, rest⟩ := stays (by rwa [← Bool.not_eq_true, goes])
    exact ⟨t, run, cx regs, rest⟩
  · obtain ⟨t, run, regs, frame⟩ := jumps (goes.mpr ⟨more, cond⟩) within
    exact ⟨t, run, cx regs, frame⟩

/-- Settles O35: each jump is taken on its condition, and LOOP counts CX down before it. -/
theorem conditionalJumps : Obligations.ConditionalJumps := by
  refine ⟨fun s i c d form => ?_, fun s i d z forms => ?_, fun s d => ?_⟩
  · obtain ⟨stays, jumps, traps⟩ := branchIf_done (condForm_exec form s) (.refl s)
    simp only [← holds_iff_asks, Bool.not_eq_true]
    refine ⟨fun no => ?_, fun yes within => ?_, traps⟩
    · obtain ⟨t, run, -, rest⟩ := stays no
      exact ⟨t, run, rest⟩
    · obtain ⟨t, run, -, frame⟩ := jumps yes within
      exact ⟨t, run, frame⟩
  · rcases forms with ⟨rfl, rfl⟩ | ⟨rfl, rfl⟩ | ⟨rfl, rfl⟩ <;> exact loop_done rfl
  · obtain ⟨stays, jumps, traps⟩ :=
      branchIf_done (i := .jcxzJb d) (c := s.reg .cx == 0) (d := d) rfl (.refl s)
    refine ⟨fun counts => ?_, fun zero within => ?_, fun zero => traps (beq_iff_eq.mpr zero)⟩
    · obtain ⟨t, run, -, rest⟩ := stays (beq_eq_false_iff_ne.mpr counts)
      exact ⟨t, run, rest⟩
    · obtain ⟨t, run, -, frame⟩ := jumps (beq_iff_eq.mpr zero) within
      exact ⟨t, run, frame⟩

/-! ## Near calls and returns (R673, R674, R680, R681) -/

/-- A call after its operand is read. -/
theorem callNear_done {i : Instr} {target : Word} (h : KeepsFlags s t [] [])
    (run : exec i s = s.finish (t.callNear target))
    (within : s.inCode target) (can : s.canPush 1) :
    ∃ u, exec i s = .next u ∧ s.holdsPushed u [s.ip] ∧ u.reg .sp = s.reg .sp - 2 ∧
      JumpFrame s u target [.sp] (s.pushedAddrs 1) := by
  obtain ⟨u, push, pushed⟩ := (Pushed.start (dest := [.sp]) h).push (by decide) (by decide) (can 0 Nat.one_pos) t.ip
  rw [callNear_ok ((h.inCode target).mpr within), push] at run
  rw [h.ip] at pushed
  refine ⟨_, run, fun k hk => (pushed.holds k hk).of_mem fun a _ => ?_, ?_, pushed.jumpFrame target⟩
  · rw [State.latchTrap_mem]
    rfl
  · rw [latchTrap_reg]
    exact pushed.sp

theorem nearReturnForm_exec {i : Instr} {k : Word} (form : nearReturnForm i = some k) (s : State) :
    exec i s = s.finish (s.retNear k) := by
  cases i <;> cases form <;> rfl

section
variable {i : Instr} {k : Word} (form : nearReturnForm i = some k) (can : s.canPop 1)
include form can

theorem retNear_popped : exec i s = s.finish
    (((s.segGet16 .ss (s.reg .sp)).2.setReg .sp (s.reg .sp + 2)).nearJump (s.segGet16 .ss (s.reg .sp)).1 >>=
      fun u => .ok (u.setReg .sp (u.regs.sp + k))) := by
  rw [nearReturnForm_exec form, State.retNear, pop16_ok (by simpa using can 0 Nat.one_pos)]
  rfl

theorem retNear_done (within : s.inCode (s.segGet16 .ss (s.reg .sp)).1) :
    ∃ t, exec i s = .next t ∧ t.reg .sp = s.reg .sp + 2 + k ∧
      JumpFrame s t (s.segGet16 .ss (s.reg .sp)).1 [.sp] [] := by
  have popped := keepsFlags_popped s
  have run := retNear_popped form can
  rw [nearJump_ok ((popped.inCode _).mpr within)] at run
  have released := popped.setReg (List.mem_singleton_self Reg16.sp) (s.reg .sp + 2 + k)
  refine ⟨_, run, ?_, released.jumpFrame _⟩
  rw [latchTrap_reg, reg_setReg_same]
  exact congrArg (· + k) (reg_setReg_same (s.segGet16 .ss s.regs.sp).2 .sp _)

end

/-- Settles O36: each transfer by the check of its target, which a call makes before it pushes. -/
theorem nearTransfers : Obligations.NearTransfers := by
  refine ⟨⟨?_, ?_, ?_⟩, ?_, ?_⟩
  · rintro s i target (⟨d, rfl, rfl⟩ | ⟨w, rfl, rfl⟩ | ⟨e, rfl, can, rfl⟩) within
    · exact ⟨_, congrArg s.finish (nearJump_ok within), (KeepsFlags.refl s).jumpFrame _⟩
    · exact ⟨_, congrArg s.finish (nearJump_ok within), (KeepsFlags.refl s).jumpFrame _⟩
    · have read := keepsFlags_afterEw s e
      have run : s.jmpOperand e = .ok ((s.afterEw e).jump (s.valueEw e)) := by
        rw [State.jmpOperand, readEw_ok can]
        exact nearJump_ok ((read.inCode _).mpr within)
      exact ⟨_, congrArg s.finish run, read.jumpFrame _⟩
  · rintro s i target (⟨w, rfl, rfl⟩ | ⟨e, rfl, can, rfl⟩) within push
    · exact callNear_done (.refl s) rfl within push
    · refine callNear_done (keepsFlags_afterEw s e) (congrArg s.finish ?_) within push
      rw [State.callOperand, readEw_ok can]
      rfl
  · rintro s i k _ form can rfl within
    exact retNear_done form can within
  · rintro s i target (⟨d, rfl, rfl⟩ | ⟨w, rfl, rfl⟩ | ⟨w, rfl, rfl⟩ | ⟨e, rfl, can, rfl⟩ | ⟨e, rfl, can, rfl⟩) beyond
    · exact (nearJump_raises beyond).traps rfl
    · exact (nearJump_raises beyond).traps rfl
    · exact (callNear_raises beyond).traps rfl
    · refine Raises.traps (x := s.jmpOperand e) ?_ rfl
      rw [State.jmpOperand, readEw_ok can]
      exact nearJump_raises (mt ((keepsFlags_afterEw s e).inCode _).mp beyond)
    · refine Raises.traps (x := s.callOperand e) ?_ rfl
      rw [State.callOperand, readEw_ok can]
      exact callNear_raises (mt ((keepsFlags_afterEw s e).inCode _).mp beyond)
  · intro s i k form can beyond
    have raised := nearJump_raises (mt ((keepsFlags_popped s).inCode _).mp beyond)
    exact (raised.bind _).traps (retNear_popped form can)

end Sys2Proof.Machine
end

section
/-! Far transfers and interrupts in real mode (45_control_transfer.md R670 to R684, R700 to R703; 60_exceptions.md R920,
R950). -/

namespace Sys2Proof.Machine

variable {s t u v : State} {dest : List Reg16} {stored : List Nat} {sel off : Word}

/-! ## The frame of a real-mode transfer (20 R119) -/

namespace FarFrame

theorem of_touches (h : Touches s t dest stored) (sel off : Word) :
    FarFrame s (t.farJumpReal sel off) sel off dest stored where
  regs := h.regs
  memory := h.memory
  sys := h.sys
  fixed := ⟨h.cfg, h.a20, h.blocks, h.status⟩
  ip := rfl
  queue := restarts_jump _ off
  cs := seg_setSeg_self t .cs _
  segs r ne := (SegRegs.get_set t.segs .cs r _).trans ((if_neg ne).trans (h.seg r))
  nointr := h.nointr
  rep := h.rep

variable (h : FarFrame s t sel off dest stored)
include h

/-- The direct bits of PS and the flags are free. -/
theorem clearDirect (m : Word) : FarFrame s (t.clearDirect m) sel off dest stored := { h with }

theorem setPS (f m : Word) : FarFrame s (t.setPS f m) sel off dest stored := { h with }

theorem latchTrap : FarFrame s (s.latchTrap t) sel off dest stored := by
  unfold State.latchTrap
  split
  · exact { h with }
  · exact h

/-- The host's side is free. -/
theorem ofHost {q : HostSide} (e : s = { v with host := q }) : FarFrame v t sel off dest stored := by
  subst e
  exact { h with }

end FarFrame

/-- The end of a jump, a call or a far return, with the frame and what stands beside it. -/
theorem KeepsFlags.farJumpReal_done (h : KeepsFlags s t dest stored) (sel off : Word) :
    (s.latchTrap (t.farJumpReal sel off)).flags = s.flags ∧ (s.latchTrap (t.farJumpReal sel off)).live = s.live ∧
      (s.latchTrap (t.farJumpReal sel off)).intFlags = s.latched ∧
      FarFrame s (s.latchTrap (t.farJumpReal sel off)) sel off dest stored :=
  ⟨(latchTrap_flags ..).trans h.flags, (State.latchTrap_live ..).trans h.live, latchTrap_intFlags h.intFlags,
    (FarFrame.of_touches h.toTouches sel off).latchTrap⟩

/-! ## Far jumps, calls and returns (45 R670 to R676, R682 to R684) -/

/-- A far transfer, once its pointer is read. -/
theorem farForm_exec {i : Instr} {call : Bool} (form : s.farForm i = some (call, sel, off)) (can : s.canReadFar i) :
    exec i s = s.finish ((s.afterFar i).farTransfer call sel off) ∧ KeepsFlags s (s.afterFar i) [] [] := by
  have read {m : MemRef} {c : Bool} (can : s.canReadPair m) :
      s.finish (s.farOperand c m) =
        s.finish ((s.afterPair m).farTransfer c (s.valuePair m).2 (s.valuePair m).1) := by
    rw [State.farOperand, readPair_ok can]
    rfl
  cases i <;> cases form
  case jmpAp | callAp => exact ⟨rfl, .refl s⟩
  case jmpMp | callMp => exact ⟨read can, keepsFlags_afterPair s _⟩

theorem farReturnForm_exec {i : Instr} {k : Word} (form : farReturnForm i = some k) (s : State) :
    exec i s = s.finish (s.farReturn k) := by
  cases i <;> cases form <;> rfl

theorem farTransfer_real (real : s.protectedMode = false) (call : Bool) (sel off : Word) :
    s.farTransfer call sel off = s.pushReturn call >>= fun t => .ok (t.farJumpReal sel off) := by
  rw [State.farTransfer, real]
  rfl

/-- What a call has pushed stays. -/
theorem holdsPushed_of_mem {ws : List Word} (h : s.holdsPushed t ws) (mem : u.mem = t.mem) : s.holdsPushed u ws :=
  fun k hk => (h k hk).of_mem fun a _ => by rw [mem]

/-- Settles O37: the transfer by its form, the words of a call pushed and those of a return popped. -/
theorem farTransfersReal : Obligations.FarTransfersReal := by
  refine ⟨fun s i sel off form real can => ?_, fun s i sel off form real can push => ?_,
    fun s i k off sel form real can top => ?_⟩
  · obtain ⟨run, read⟩ := farForm_exec form can
    rw [farTransfer_real (read.protectedMode.trans real)] at run
    exact ⟨_, run, read.farJumpReal_done sel off⟩
  · obtain ⟨run, read⟩ := farForm_exec form can
    obtain ⟨u, push, pushed⟩ := read.pushAll
      (ws := [((s.afterFar i).seg .cs).selector, (s.afterFar i).ip]) (by simp) push
    rw [farTransfer_real (read.protectedMode.trans real), State.pushReturn, if_pos rfl, push] at run
    rw [read.seg, read.ip] at pushed
    refine ⟨_, run, holdsPushed_of_mem pushed.holds (State.latchTrap_mem ..), ?_,
      pushed.farJumpReal_done sel off⟩
    exact (latchTrap_reg ..).trans pushed.sp
  · obtain ⟨t, pop, popped, sp, can', top'⟩ := pop16_of_canPop can top
    obtain ⟨u, pop', popped', sp', -⟩ := pop16_of_canPop can' top'
    have run := farReturnForm_exec form s
    rw [State.farReturn, real] at run
    simp only [Bool.false_eq_true, if_false, pop, ok_bind, pop'] at run
    have both := (popped.trans popped').mono (dest' := [.sp]) (by decide) (List.Subset.refl _)
    have released := both.setReg (List.mem_singleton_self Reg16.sp) (u.regs.sp + k)
    refine ⟨_, run, ?_, released.farJumpReal_done sel off⟩
    rw [latchTrap_reg, reg_setReg_same, show u.regs.sp = _ from sp', sp]
    bv_omega

/-! ## Interrupts in real mode (60 R920, R930) -/

theorem KeepsFlags.getPS (h : KeepsFlags s t dest stored) : t.getPS = s.getPS := by
  simp only [State.getPS, State.cls, h.live, h.cfg, h.flags]

theorem Touches.idtBase (h : Touches s t dest stored) : t.idtBase = s.idtBase := by
  simp only [State.idtBase, State.cls, h.cfg, h.sys]

theorem keepsFlags_sysRead16 (s : State) (lin : BitVec 32) : KeepsFlags s (s.sysRead16 lin).2 [] [] :=
  ⟨touches_busRead16 s _, by simp [State.sysRead16]⟩

/-- What the first push to fail its check raises, after words were read. -/
theorem KeepsFlags.pushAll_raises (h : KeepsFlags s t [] []) {e : Exc} (ws : List Word)
    (fault : s.firstFault (s.pushes ws.length) = some e) : Raises (State.pushAll ws t) e := by
  have same : t.pushes ws.length = s.pushes ws.length := by rw [State.pushes, State.pushes, h.reg]
  exact ((same ▸ (follows_pushAll ws t).raises).from h.faultOf) e fault

/-- The words a real-mode delivery pushes, and the state it pushes them in. -/
theorem deliverReal_eq (s : State) (n : Byte) (ip : Word) (inTable : s.vectorInTable n) :
    ∃ t, KeepsFlags s t [] [] ∧ s.deliverReal n ip =
      State.pushAll [s.getPS, (s.seg .cs).selector, ip] t >>= fun u =>
        .ok ((u.clearDirect maskTfIf).farJumpReal (s.vector n).2 (s.vector n).1) := by
  have first := keepsFlags_sysRead16 s (s.idtBase + BitVec.ofNat 32 (4 * n.toNat))
  have both := first.read (keepsFlags_sysRead16 _ (s.idtBase + BitVec.ofNat 32 (4 * n.toNat + 2)))
  have passes : (s.cls == .c286 && decide (s.sys.idtr.limit.toNat < 4 * n.toNat + 3)) = false := by
    simpa [State.vectorInTable] using inTable
  refine ⟨_, both, ?_⟩
  rw [State.deliverReal, raiseIf_bind passes]
  dsimp only
  rw [first.idtBase, both.getPS, both.seg, State.vector, ← first.phys (s.idtBase + BitVec.ofNat 32 (4 * n.toNat + 2))]
  rfl

theorem deliverReal_beyond {n : Byte} (beyond : ¬s.vectorInTable n) (ip : Word) :
    Raises (s.deliverReal n ip) (.gp 0) :=
  raises_raiseIf (by simpa [State.vectorInTable] using beyond) _ _ _

section
variable {n : Nat} {k : Nat}

theorem clearDirect_getLsbD (s : State) (mask : Word) (k : Nat) :
    (s.clearDirect mask).live.getLsbD k = (s.live.getLsbD k && !mask.getLsbD k) := by
  by_cases h : k < 16
  · simp [State.clearDirect, h]
  · simp [State.clearDirect, BitVec.getLsbD_of_ge, Nat.le_of_not_lt h]

theorem maskTfIf_getLsbD (k : Nat) : maskTfIf.getLsbD k = decide (k = 8 ∨ k = 9) := by
  by_cases h : k < 16
  · revert k
    decide
  · rw [BitVec.getLsbD_of_ge _ _ (Nat.le_of_not_lt h), eq_comm, decide_eq_false_iff_not]
    omega

end

/-- What a delivery in real mode leaves (60 R920). -/
structure EntersReal (s t : State) (n : Byte) (ip : Word) : Prop where
  pushed : s.holdsPushed t [s.getPS, (s.seg .cs).selector, ip]
  sp     : t.reg .sp = s.reg .sp - 6
  flags  : t.flags = s.flags
  tf     : t.tf = false
  ifl    : t.ifl = false
  others : ∀ k, k ≠ 8 → k ≠ 9 → t.live.getLsbD k = s.live.getLsbD k
  events : t.intFlags = s.intFlags
  frame  : FarFrame s t (s.vector n).2 (s.vector n).1 [.sp] (s.pushedAddrs 3)

theorem deliverReal_done {n : Byte} (inTable : s.vectorInTable n) (can : s.canPush 3) (ip : Word) :
    ∃ t, s.deliverReal n ip = .ok t ∧ EntersReal s t n ip := by
  obtain ⟨t, read, deliver⟩ := deliverReal_eq s n ip inTable
  obtain ⟨u, push, pushed⟩ := read.pushAll (ws := [s.getPS, (s.seg .cs).selector, ip]) (by simp) can
  rw [push] at deliver
  have bit (k : Nat) : (u.clearDirect maskTfIf).live.getLsbD k = (s.live.getLsbD k && !decide (k = 8 ∨ k = 9)) := by
    rw [clearDirect_getLsbD, pushed.live, maskTfIf_getLsbD]
  refine ⟨_, deliver, holdsPushed_of_mem pushed.holds rfl, pushed.sp, pushed.flags, (bit 8).trans (by simp),
    (bit 9).trans (by simp), fun k h8 h9 => (bit k).trans (by simp [h8, h9]), pushed.intFlags, ?_⟩
  exact (FarFrame.of_touches pushed.toTouches _ _).clearDirect maskTfIf

theorem deliverReal_push {n : Byte} (inTable : s.vectorInTable n) {e : Exc}
    (fault : s.firstFault (s.pushes 3) = some e) (ip : Word) : Raises (s.deliverReal n ip) e := by
  obtain ⟨t, read, deliver⟩ := deliverReal_eq s n ip inTable
  rw [deliver]
  exact (read.pushAll_raises [s.getPS, (s.seg .cs).selector, ip] fault).bind _

/-! ## The host's answer (45 R700) -/

theorem BusBlind.intercepts (l : List InterceptAnswer) :
    BusBlind fun s => { s with host := { s.host with intercepts := l } } := by constructor <;> intros <;> rfl

/-- Asking takes an answer. -/
theorem intercept_eq (s : State) (n : Byte) :
    ∃ l, (s.intercept n).2 = { s with host := { s.host with intercepts := l } } := by
  unfold State.intercept
  split
  · split
    · exact ⟨s.host.intercepts, rfl⟩
    · exact ⟨_, rfl⟩
  · exact ⟨s.host.intercepts, rfl⟩

theorem BusBlind.vector {f : State → State} (blind : BusBlind f) (base : (f s).idtBase = s.idtBase) (n : Byte) :
    (f s).vector n = s.vector n := by
  simp only [State.vector, blind.phys, base, blind.busRead16]

/-- A software interrupt delivers its vector with the next instruction's offset, after the host was asked. -/
theorem softwareInt_deliver {i : Instr} {n : Byte} (h : (i = .intIb n ∧ s.intercept n = (.proceed, v)) ∨
    (i = .int3 ∧ n = 3 ∧ v = s) ∨ (i = .into ∧ n = 4 ∧ s.flags.of = true ∧ v = s)) :
    exec i s = s.finish (v.deliver n true s.ip none) := by
  rcases h with ⟨rfl, asked⟩ | ⟨rfl, rfl, rfl⟩ | ⟨rfl, rfl, overflow, rfl⟩
  · have ip : v.ip = s.ip := by
      obtain ⟨l, took⟩ := intercept_eq s n
      rw [asked] at took
      rw [show v = _ from took]
    have run : s.intInstr n = v.softwareInt n := by rw [State.intInstr, asked]
    exact congrArg s.finish (run.trans (by rw [State.softwareInt, ip]))
  · rfl
  · exact congrArg v.finish (if_pos overflow)

/-- A software interrupt that goes on delivers its vector, whatever answer of the host it took. -/
theorem softwareInt_exec {i : Instr} {n : Byte} (h : (i = .intIb n ∧ (s.intercept n).1 = .proceed) ∨
    (i = .int3 ∧ n = 3) ∨ (i = .into ∧ n = 4 ∧ s.flags.of = true)) :
    ∃ l, exec i s = s.finish
      (({ s with host := { s.host with intercepts := l } } : State).deliver n true s.ip none) := by
  rcases h with ⟨form, proceed⟩ | ⟨form, vector⟩ | ⟨form, vector, overflow⟩
  · obtain ⟨l, asked⟩ := intercept_eq s n
    exact ⟨l, asked ▸ softwareInt_deliver (.inl ⟨form, Prod.ext proceed rfl⟩)⟩
  · exact ⟨s.host.intercepts, softwareInt_deliver (.inr (.inl ⟨form, vector, rfl⟩))⟩
  · exact ⟨s.host.intercepts, softwareInt_deliver (.inr (.inr ⟨form, vector, overflow, rfl⟩))⟩

/-- What a delivery leaves does not show the host's answers. -/
theorem EntersReal.latched {n : Byte} {ip : Word} {l : List InterceptAnswer}
    (h : EntersReal { s with host := { s.host with intercepts := l } } t n ip) :
    s.holdsPushed (s.latchTrap t) [s.getPS, (s.seg .cs).selector, ip] ∧
      (s.latchTrap t).reg .sp = s.reg .sp - 6 ∧ (s.latchTrap t).flags = s.flags ∧ (s.latchTrap t).tf = false ∧
      (s.latchTrap t).ifl = false ∧ (∀ k, k ≠ 8 → k ≠ 9 → (s.latchTrap t).live.getLsbD k = s.live.getLsbD k) ∧
      (s.latchTrap t).intFlags = s.latched ∧
      FarFrame s (s.latchTrap t) (s.vector n).2 (s.vector n).1 [.sp] (s.pushedAddrs 3) := by
  have frame := h.frame
  rw [(BusBlind.intercepts l).vector rfl] at frame
  have tf : (s.latchTrap t).tf = t.tf := congrArg (BitVec.getLsbD · tfBit) (State.latchTrap_live ..)
  have ifl : (s.latchTrap t).ifl = t.ifl := congrArg (BitVec.getLsbD · ifBit) (State.latchTrap_live ..)
  refine ⟨holdsPushed_of_mem h.pushed (State.latchTrap_mem ..), (latchTrap_reg ..).trans h.sp,
    (latchTrap_flags ..).trans h.flags, tf.trans h.tf, ifl.trans h.ifl, fun k h8 h9 => ?_, latchTrap_intFlags h.events,
    (frame.ofHost rfl).latchTrap⟩
  rw [State.latchTrap_live]
  exact h.others k h8 h9

/-! ## IRET in real mode (60 R950) -/

/-- In real mode a write of PS leaves IOPL and NT 0 (10 R39). -/
theorem setPS_live_levels (c286 : s.cls = .c286) (real : s.protectedMode = false) (f : Word) :
    (s.setPS f 0xFFFF).live &&& 0x7000 = 0 := by
  have written {k : Nat} (level : k = 12 ∨ k = 13 ∨ k = 14) : (s.setPS f 0xFFFF).live.getLsbD k = false := by
    rw [setPS_live s f 0xFFFF (.inr (.inr (.inr ⟨c286, level⟩))), real]
    rcases level with rfl | rfl | rfl <;> simp
  have levels : ∀ k < 16, (0x7000 : Word).getLsbD k = true → k = 12 ∨ k = 13 ∨ k = 14 := by decide
  refine and_eq_zero_iff_getLsbD.mpr fun k hk => ?_
  by_contra set
  rw [Bool.not_eq_false] at set
  rw [written (levels k (BitVec.lt_of_getLsbD set) set)] at hk
  exact absurd hk nofun

theorem iretReal_done {f : Word} (real : s.protectedMode = false) (can : s.canPop 3)
    (top : (s.popMany 3).1 = [off, sel, f]) :
    ∃ u, exec .iret s = .next (s.latchTrap ((u.farJumpReal sel off).setPS f 0xFFFF)) ∧ KeepsFlags s u [.sp] [] ∧
      u.reg .sp = s.reg .sp + 6 := by
  obtain ⟨t, pop, popped, sp, can', top'⟩ := pop16_of_canPop can top
  obtain ⟨u, pop', popped', sp', can'', top''⟩ := pop16_of_canPop can' top'
  obtain ⟨w, pop'', popped'', sp'', -⟩ := pop16_of_canPop can'' top''
  refine ⟨w, ?_, ((popped.trans popped').trans popped'').mono (by decide) (List.Subset.refl _), ?_⟩
  · have run : s.interruptReturn = .ok ((w.farJumpReal sel off).setPS f 0xFFFF) := by
      rw [State.interruptReturn, real]
      simp only [Bool.false_eq_true, if_false, State.iretReal, pop, ok_bind, pop', pop'', pure_eq_ok]
    exact congrArg s.finish run
  · rw [sp'', sp', sp]
    bv_omega

/-- Settles O39: the delivery in real mode, its faults, and the words IRET pops. -/
theorem interruptsReal : Obligations.InterruptsReal := by
  refine ⟨⟨fun s i n form real => ?_, fun s clear => ?_⟩, fun s off sel f real can top => ?_⟩
  · obtain ⟨l, run⟩ := softwareInt_exec form
    have body : ({ s with host := { s.host with intercepts := l } } : State).deliver n true s.ip none =
        ({ s with host := { s.host with intercepts := l } } : State).deliverReal n s.ip :=
      if_neg (ne_true_of_eq_false real)
    rw [body] at run
    refine ⟨fun inTable can => ?_, fun beyond => ?_, fun inTable e fault => ?_⟩
    · obtain ⟨t, deliver, enters⟩ :=
        deliverReal_done (s := { s with host := { s.host with intercepts := l } }) inTable can s.ip
      rw [deliver] at run
      exact ⟨_, run, enters.latched⟩
    · exact (deliverReal_beyond (s := { s with host := { s.host with intercepts := l } }) beyond s.ip).traps run
    · exact (deliverReal_push (s := { s with host := { s.host with intercepts := l } }) inTable fault s.ip).traps run
  · refine ⟨_, congrArg s.finish (if_neg (ne_true_of_eq_false clear)), latchTrap_flags .., (Touches.refl s).frame⟩
  · obtain ⟨u, run, popped, sp⟩ := iretReal_done real can top
    have real' : (u.farJumpReal sel off).protectedMode = false := popped.protectedMode.trans real
    have cls : (u.farJumpReal sel off).cls = s.cls := congrArg Config.cpuClass popped.cfg
    have bit {k : Nat} (h : k = 8 ∨ k = 9 ∨ k = 10) :
        (s.latchTrap ((u.farJumpReal sel off).setPS f 0xFFFF)).live.getLsbD k = f.getLsbD k := by
      rw [State.latchTrap_live, setPS_live _ _ _ (by rcases h with h | h | h <;> simp [isDirectBit, h])]
      rcases h with rfl | rfl | rfl <;> simp
    refine ⟨_, run, (latchTrap_reg ..).trans sp, (latchTrap_flags ..).trans (setPS_flags ..), bit (.inl rfl),
      bit (.inr (.inl rfl)), bit (.inr (.inr rfl)), fun c286 => ?_, latchTrap_intFlags popped.intFlags,
      ((FarFrame.of_touches popped.toTouches sel off).setPS f 0xFFFF).latchTrap⟩
    rw [State.latchTrap_live]
    exact setPS_live_levels (cls.trans c286) real' f

end Sys2Proof.Machine
end

section
/-! Far transfers to code segments in protected mode (45_control_transfer.md R671; 20_memory.md R121, R126, R127). -/

namespace Sys2Proof.Machine

variable {s t u v w : State} {dest dest' : List Reg16} {stored stored' : List Nat} {sel off : Word} {d : Desc}

/-! ## What reading leaves alone -/

theorem Touches.isNull (h : Touches s t dest stored) (sel : Word) : t.isNull sel = s.isNull sel := by
  simp only [State.isNull, h.cfg]

theorem Touches.inTable (h : Touches s t dest stored) (sel : Word) : t.inTable sel = s.inTable sel := by
  have table : t.tableOf sel = s.tableOf sel := by simp only [State.tableOf, h.sys]
  rw [State.inTable, State.inTable, table, h.isNull, h.sys]

theorem keepsFlags_readDesc (s : State) (lin : BitVec 32) : KeepsFlags s (s.readDesc lin).2 [] [] := by
  have read : ∀ {t l}, KeepsFlags s t [] [] → KeepsFlags s (t.sysRead8 l).2 [] [] := fun h =>
    h.read ⟨touches_sysRead8 _ _, by simp [State.sysRead8]⟩
  unfold State.readDesc
  generalize State.sysRead8 = r at *
  exact read (read (read (read (read (read (read (read (.refl s))))))))

/-- A descriptor in its table, read. -/
theorem fetchDescOr_read (h : s.inTable sel = true) (e : Exc) :
    ∃ t, s.fetchDescOr sel e = .ok (s.descOf sel, t) ∧ KeepsFlags s t [] [] ∧ (s.plainSel sel → t = s) := by
  refine ⟨(s.readDesc (s.descAddr sel)).2, ?_, keepsFlags_readDesc s _, id⟩
  rw [State.fetchDescOr, raiseIf_bind (by rw [h]; rfl)]
  rfl

/-! ## What a protected-mode transfer leaves alone -/

/-- `t` differs from `s` at most in the registers and bytes named, in CS, SS, CPL and IP, in the queue, and in what the
host and the decoder see. -/
structure Carries (s t : State) (dest : List Reg16) (stored : List Nat) : Prop where
  regs     : ∀ r, r ∉ dest → t.reg r = s.reg r
  memory   : ∀ a, a ∉ stored → Memory.read t.mem a = Memory.read s.mem a
  live     : t.live = s.live
  triple   : t.triple = s.triple
  intFlags : t.intFlags = s.intFlags
  sys      : { t.sys with cpl := s.sys.cpl } = s.sys
  cfg      : t.cfg = s.cfg
  a20      : t.a20 = s.a20
  blocks   : t.blocks = s.blocks
  status   : t.status = s.status
  data     : t.seg .ds = s.seg .ds ∧ t.seg .es = s.seg .es
  nointr   : t.nointr = s.nointr
  rep      : t.rep = s.rep

theorem KeepsFlags.carries (h : KeepsFlags s t dest stored) : Carries s t dest stored where
  regs := h.regs
  memory := h.memory
  live := h.live
  triple := h.triple
  intFlags := h.intFlags
  sys := by rw [h.sys]
  cfg := h.cfg
  a20 := h.a20
  blocks := h.blocks
  status := h.status
  data := ⟨h.seg .ds, h.seg .es⟩
  nointr := h.nointr
  rep := h.rep

namespace Carries

theorem trans (h : Carries s t dest stored) (k : Carries t u dest' stored') :
    Carries s u (dest ++ dest') (stored ++ stored') where
  regs r hr := by
    rw [List.mem_append, not_or] at hr
    rw [k.regs r hr.2, h.regs r hr.1]
  memory a ha := by
    rw [List.mem_append, not_or] at ha
    rw [k.memory a ha.2, h.memory a ha.1]
  live := k.live.trans h.live
  triple := k.triple.trans h.triple
  intFlags := k.intFlags.trans h.intFlags
  sys := (congrArg (fun x : SysRegs => { x with cpl := s.sys.cpl }) k.sys).trans h.sys
  cfg := k.cfg.trans h.cfg
  a20 := k.a20.trans h.a20
  blocks := k.blocks.trans h.blocks
  status := k.status.trans h.status
  data := ⟨k.data.1.trans h.data.1, k.data.2.trans h.data.2⟩
  nointr := k.nointr.trans h.nointr
  rep := k.rep.trans h.rep

theorem mono (h : Carries s t dest stored) (hd : dest ⊆ dest') (ha : stored ⊆ stored') :
    Carries s t dest' stored' :=
  { h with
    regs := fun r hr => h.regs r fun m => hr (hd m)
    memory := fun x hx => h.memory x fun m => hx (ha m) }

variable (h : Carries s t dest stored)
include h

theorem setReg {r : Reg16} (mem : r ∈ dest) (x : Word) : Carries s (t.setReg r x) dest stored :=
  { h with
    regs := fun q hq => ((touches_setReg t r x).regs q fun m => hq (List.mem_singleton.mp m ▸ mem)).trans (h.regs q hq) }

/-- A load of CS or SS. -/
theorem setSeg {r : SegReg} (code : r = .cs ∨ r = .ss) (c : SegCache) : Carries s (t.setSeg r c) dest stored := by
  rcases code with rfl | rfl <;> exact { h with }

theorem setCpl (x : BitVec 2) : Carries s { t with sys := { t.sys with cpl := x } } dest stored := { h with }

theorem flags : t.flags = s.flags := flags_of_triple h.triple

theorem phys (l : BitVec 32) : t.phys l = s.phys l := by
  simp only [State.phys, State.addrMask, State.cls, h.cfg, h.a20]

theorem kindAt (p : Nat) : t.kindAt p = s.kindAt p := by simp only [State.kindAt, h.cfg, h.blocks]

theorem accessAddr (sel : Word) : t.accessAddr sel = s.accessAddr sel := by
  have gdtr := congrArg SysRegs.gdtr h.sys
  have ldtr := congrArg SysRegs.ldtr h.sys
  dsimp only at gdtr ldtr
  simp only [State.accessAddr, State.descAddr, State.tableOf, h.phys, gdtr, ldtr]

/-- The end of a transfer (20 R160). -/
theorem codeFrame (off : Word) : CodeFrame s (t.jump off) off dest stored where
  regs := h.regs
  memory := h.memory
  tables :=
    have same {α : Type} (f : SysRegs → α) : f { t.sys with cpl := s.sys.cpl } = f s.sys := congrArg f h.sys
    ⟨same (·.msw), same (·.gdtr), same (·.idtr), same (·.ldtr), same (·.tr)⟩
  fixed := ⟨h.cfg, h.a20, h.blocks, h.status⟩
  ip := rfl
  queue := restarts_jump t off
  data := h.data
  nointr := h.nointr
  rep := h.rep

end Carries

theorem CodeFrame.latchTrap (h : CodeFrame s t off dest stored) : CodeFrame s (s.latchTrap t) off dest stored := by
  unfold State.latchTrap
  split
  · exact { h with }
  · exact h

/-- `t` is where a transfer from `s` ends, with these caches in CS and SS, at that level. -/
structure Enters (s t : State) (cs ss : SegCache) (level : BitVec 2) (off : Word) (dest : List Reg16)
    (stored : List Nat) : Prop where
  cs     : t.seg .cs = cs
  ss     : t.seg .ss = ss
  cpl    : t.sys.cpl = level
  flags  : t.flags = s.flags
  live   : t.live = s.live
  events : t.intFlags = s.latched
  frame  : CodeFrame s t off dest stored

theorem latchTrap_seg (s t : State) (r : SegReg) : (s.latchTrap t).seg r = t.seg r :=
  congrArg (SegRegs.get · r) (State.latchTrap_segs s t)

theorem Carries.enters (h : Carries s t dest stored) (off : Word) :
    Enters s (s.latchTrap (t.jump off)) (t.seg .cs) (t.seg .ss) t.sys.cpl off dest stored where
  cs := latchTrap_seg ..
  ss := latchTrap_seg ..
  cpl := congrArg SysRegs.cpl (State.latchTrap_sys ..)
  flags := (latchTrap_flags ..).trans h.flags
  live := (State.latchTrap_live ..).trans h.live
  events := latchTrap_intFlags h.intFlags
  frame := (h.codeFrame off).latchTrap

theorem keepsFlags_setAccessed (s : State) (sel : Word) (d : Desc) :
    KeepsFlags s (s.setAccessed sel d) [] [s.accessAddr sel] := by
  refine ⟨touches_setAccessed s sel d, ?_⟩
  unfold State.setAccessed
  split
  · rfl
  · exact State.busWrite8_triple ..

theorem setAccessed_of_accessed (h : accAccessed d.access = true) (s : State) (sel : Word) :
    s.setAccessed sel d = s := if_pos h

/-! ## The load of CS (20 R126, R127) -/

section
variable (s : State) (sel : Word) (level : BitVec 2) (d : Desc)

theorem setCode_cpl : (s.setCode sel level d).sys.cpl = level := rfl

theorem setCode_cs : (s.setCode sel level d).seg .cs = d.cache (errSel sel ||| level.setWidth 16) :=
  seg_setSeg_self (s.setAccessed sel d) .cs _

theorem setCode_ss : (s.setCode sel level d).seg .ss = s.seg .ss :=
  (touches_setAccessed s sel d).seg .ss

theorem setCode_mem : (s.setCode sel level d).mem = (s.setAccessed sel d).mem := rfl

theorem setCode_regs : (s.setCode sel level d).regs = s.regs := by
  rw [show (s.setCode sel level d).regs = (s.setAccessed sel d).regs from rfl, State.setAccessed]
  split
  · rfl
  · exact State.busWrite8_regs ..

end

theorem Carries.setCode (h : Carries s t dest stored) (sel : Word) (level : BitVec 2) (d : Desc) :
    Carries s (t.setCode sel level d) dest (s.accessAddr sel :: stored) := by
  have accessed := h.trans (keepsFlags_setAccessed t sel d).carries
  rw [h.accessAddr] at accessed
  have named : stored ++ [s.accessAddr sel] ⊆ s.accessAddr sel :: stored := by simp
  exact (((accessed.mono (List.append_nil _ ▸ List.Subset.refl _) named).setSeg (.inl rfl) _).setCpl level)

/-- Where the accessed bit is set already, no byte is written. -/
theorem Carries.setCode_accessed (h : Carries s t dest stored) (acc : accAccessed d.access = true) (sel : Word)
    (level : BitVec 2) : Carries s (t.setCode sel level d) dest stored := by
  rw [State.setCode, setAccessed_of_accessed acc]
  exact (h.setSeg (.inl rfl) _).setCpl level

/-- The load sets the accessed bit in memory. -/
theorem Carries.setsAccessed (h : Carries s t dest stored) (sel : Word) (d : Desc)
    (same : u.mem = (t.setAccessed sel d).mem) :
    s.setsAccessed u sel d := by
  have sets := setsAccessed_setAccessed t sel d
  simp only [State.setsAccessed, h.accessAddr, h.kindAt] at sets
  rwa [State.setsAccessed, same]

/-! ## What a selector names (R671) -/

/-- `FarTransfer` in protected mode, once the descriptor is read: by its type. -/
def State.farSelected (s : State) (call : Bool) (sel off : Word) (d : Desc) : Res State :=
  if d.isCode then s.farCode call sel off d
  else if d.isSystem 4 then s.callGate call sel d
  else if d.isSystem 5 then s.taskGate call sel d
  else if d.isSystem 1 then s.taskDirect call sel d
  else raise s (.gp (errSel sel))

theorem isCode_of_isSystem {ty : BitVec 4} (h : d.isSystem ty = true) : d.isCode = false := by
  simp only [Desc.isSystem, Bool.and_eq_true, Bool.not_eq_true'] at h
  rw [Desc.isCode, h.1, Bool.false_and]

/-- A system descriptor has one type. -/
theorem isSystem_ne {ty ty' : BitVec 4} (h : d.isSystem ty = true) (ne : ty ≠ ty') : d.isSystem ty' = false := by
  simp only [Desc.isSystem, Bool.and_eq_true, beq_iff_eq] at h
  rw [Desc.isSystem, h.2, beq_false_of_ne ne, Bool.and_false]

theorem farSelected_code (h : d.isCode = true) (s : State) (call : Bool) (sel off : Word) :
    s.farSelected call sel off d = s.farCode call sel off d := if_pos h

theorem farSelected_callGate (h : d.isSystem 4 = true) (s : State) (call : Bool) (sel off : Word) :
    s.farSelected call sel off d = s.callGate call sel d := by
  rw [State.farSelected, isCode_of_isSystem h, h]
  rfl

theorem farSelected_taskGate (h : d.isSystem 5 = true) (s : State) (call : Bool) (sel off : Word) :
    s.farSelected call sel off d = s.taskGate call sel d := by
  rw [State.farSelected, isCode_of_isSystem h, isSystem_ne h (by decide), h]
  rfl

theorem farSelected_tss (h : d.isSystem 1 = true) (s : State) (call : Bool) (sel off : Word) :
    s.farSelected call sel off d = s.taskDirect call sel d := by
  rw [State.farSelected, isCode_of_isSystem h, isSystem_ne h (by decide), isSystem_ne h (by decide), h]
  rfl

/-- No type that a far transfer may name. -/
theorem farSelected_other (code : d.isCode = false)
    (types : ∀ ty : BitVec 4, ty = 1 ∨ ty = 4 ∨ ty = 5 → d.isSystem ty = false) (s : State) (call : Bool)
    (sel off : Word) : Raises (s.farSelected call sel off d) (.gp (errSel sel)) := by
  rw [State.farSelected, code, types 4 (by simp), types 5 (by simp), types 1 (by simp)]
  exact ⟨s, rfl⟩

section
variable {i : Instr} {call : Bool} (form : s.farForm i = some (call, sel, off)) (pe : s.protectedMode = true)
  (can : s.canReadFar i)
include form pe can

theorem farForm_protected :
    exec i s = s.finish ((s.afterFar i).farProtected call sel off) ∧ KeepsFlags s (s.afterFar i) [] [] := by
  obtain ⟨run, read⟩ := farForm_exec form can
  rw [State.farTransfer, read.protectedMode, pe] at run
  exact ⟨run, read⟩

theorem farForm_null (null : s.isNull sel = true) : Traps i s (.gp 0) := by
  obtain ⟨run, read⟩ := farForm_protected form pe can
  exact (raises_raiseIf ((read.isNull sel).trans null) _ _ _).traps run

theorem farForm_outside (named : s.isNull sel = false) (outside : s.inTable sel = false) :
    Traps i s (.gp (errSel sel)) := by
  obtain ⟨run, read⟩ := farForm_protected form pe can
  rw [State.farProtected, raiseIf_bind ((read.isNull sel).trans named)] at run
  exact ((fetchDescOr_raises ((read.inTable sel).trans outside) _).bind _).traps run

/-- A selector that names an entry of its table: its descriptor is read, and its type decides. -/
theorem farForm_selected (named : s.isNull sel = false) (inside : s.inTable sel = true) :
    ∃ w, exec i s = s.finish (w.farSelected call sel off ((s.afterFar i).descOf sel)) ∧ KeepsFlags s w [] [] ∧
      ((s.afterFar i).plainSel sel → w = s.afterFar i) := by
  obtain ⟨run, read⟩ := farForm_protected form pe can
  obtain ⟨w, fetched, read', plain⟩ :=
    fetchDescOr_read ((read.inTable sel).trans inside) (.gp (errSel sel))
  rw [State.farProtected, raiseIf_bind ((read.isNull sel).trans named), State.fetchDesc, fetched] at run
  exact ⟨w, run, read.read read', plain⟩

end

/-! ## Code segments (R671) -/

/-- The privilege that R671 asks of a far transfer to a code segment. -/
def State.farAllowed (s : State) (sel : Word) (d : Desc) : Prop :=
  d.conforming = true ∧ d.dpl.toNat ≤ s.sys.cpl.toNat ∨
    d.conforming = false ∧ (rpl sel).toNat ≤ s.sys.cpl.toNat ∧ d.dpl = s.sys.cpl

section
variable (call : Bool) (off : Word)

theorem farCode_denied (h : d.conforming = true ∧ s.sys.cpl.toNat < d.dpl.toNat ∨
    d.conforming = false ∧ (s.sys.cpl.toNat < (rpl sel).toNat ∨ d.dpl ≠ s.sys.cpl)) :
    Raises (s.farCode call sel off d) (.gp (errSel sel)) := by
  rcases h with ⟨conforming, low⟩ | ⟨conforming, denied⟩
  · exact raises_raiseIf (by simp [conforming, low]) _ _ _
  · rw [State.farCode, raiseIf_bind (by simp [conforming])]
    exact raises_raiseIf (by simpa [conforming] using denied) _ _ _

variable (allowed : s.farAllowed sel d)
include allowed

/-- Behind the checks of privilege. -/
theorem farCode_allowed : s.farCode call sel off d =
    raiseIf (!d.present) s (.np (errSel sel)) >>= fun _ => raiseIf (decide (d.limit.toNat < off.toNat)) s (.gp 0) >>=
      fun _ => s.pushReturn call >>= fun t => .ok ((t.setCode sel s.sys.cpl d).jump off) := by
  rcases allowed with ⟨conforming, low⟩ | ⟨conforming, rplLow, level⟩
  · rw [State.farCode, raiseIf_bind (by simpa [conforming] using low), raiseIf_bind (by simp [conforming])]
    rfl
  · rw [State.farCode, raiseIf_bind (by simp [conforming]), raiseIf_bind (by simpa [conforming, level] using rplLow)]
    rfl

theorem farCode_absent (absent : d.present = false) : Raises (s.farCode call sel off d) (.np (errSel sel)) := by
  rw [farCode_allowed call off allowed]
  exact raises_raiseIf (by rw [absent]; rfl) _ _ _

variable {off} (present : d.present = true)
include present

theorem farCode_beyond (beyond : d.limit.toNat < off.toNat) : Raises (s.farCode call sel off d) (.gp 0) := by
  rw [farCode_allowed call off allowed, raiseIf_bind (by rw [present]; rfl)]
  exact raises_raiseIf (decide_eq_true beyond) _ _ _

theorem farCode_within (within : off.toNat ≤ d.limit.toNat) : s.farCode call sel off d =
    s.pushReturn call >>= fun t => .ok ((t.setCode sel s.sys.cpl d).jump off) := by
  rw [farCode_allowed call off allowed, raiseIf_bind (by rw [present]; rfl),
    raiseIf_bind (decide_eq_false (Nat.not_lt.mpr within))]

end

/-- The end of a transfer that keeps its level, after its descriptors were read: a call pushes where it returns to, and CS
is loaded. -/
theorem enterCode_done {i : Instr} {call : Bool} (read : KeepsFlags s w [] []) (can : call = true → s.canPush 2)
    (run : exec i s = s.finish (w.pushReturn call >>= fun t => .ok ((t.setCode sel w.sys.cpl d).jump off))) :
    ∃ t, exec i s = .next t ∧ t.seg .cs = d.cache (errSel sel ||| s.sys.cpl.setWidth 16) ∧ t.sys.cpl = s.sys.cpl ∧
      t.seg .ss = s.seg .ss ∧ t.flags = s.flags ∧ t.live = s.live ∧ t.intFlags = s.latched ∧ s.setsAccessed t sel d ∧
      (call = false → CodeFrame s t off [] [s.accessAddr sel]) ∧
      (call = true → t.reg .sp = s.reg .sp - 4 ∧
        (accAccessed d.access = true → s.holdsPushed t [(s.seg .cs).selector, s.ip]) ∧
        CodeFrame s t off [.sp] (s.accessAddr sel :: s.pushedAddrs 2)) := by
  rw [read.sys] at run
  have ends {p : State} {dest : List Reg16} {stored : List Nat} (moved : KeepsFlags s p dest stored) :
      Enters s (s.latchTrap ((p.setCode sel s.sys.cpl d).jump off)) (d.cache (errSel sel ||| s.sys.cpl.setWidth 16))
        (s.seg .ss) s.sys.cpl off dest (s.accessAddr sel :: stored) ∧
      s.setsAccessed (s.latchTrap ((p.setCode sel s.sys.cpl d).jump off)) sel d := by
    have enters := (moved.carries.setCode sel s.sys.cpl d).enters off
    rw [setCode_cs, setCode_ss, moved.seg] at enters
    exact ⟨enters, moved.carries.setsAccessed sel d (State.latchTrap_mem ..)⟩
  cases call with
  | false =>
    obtain ⟨enters, accessed⟩ := ends read
    exact ⟨_, run, enters.cs, enters.cpl, enters.ss, enters.flags, enters.live, enters.events, accessed,
      fun _ => enters.frame, nofun⟩
  | true =>
    obtain ⟨p, push, pushed⟩ := read.pushAll (ws := [(w.seg .cs).selector, w.ip]) (by simp) (can rfl)
    rw [State.pushReturn, if_pos rfl, push] at run
    rw [read.seg, read.ip] at pushed
    obtain ⟨enters, accessed⟩ := ends pushed.toKeepsFlags
    refine ⟨_, run, enters.cs, enters.cpl, enters.ss, enters.flags, enters.live, enters.events, accessed, nofun,
      fun _ => ⟨?_, fun acc => ?_, enters.frame⟩⟩
    · exact (latchTrap_reg ..).trans ((congrArg (Regs.get · .sp) (setCode_regs p sel s.sys.cpl d)).trans
        pushed.sp)
    · have mem : (p.setAccessed sel d).mem = p.mem := by rw [setAccessed_of_accessed acc]
      exact holdsPushed_of_mem pushed.holds ((State.latchTrap_mem ..).trans mem)

theorem pushReturn_raises {call : Bool} (read : KeepsFlags s w [] []) (calls : call = true) {e : Exc}
    (fault : s.firstFault (s.pushes 2) = some e) : Raises (w.pushReturn call) e := by
  rw [State.pushReturn, if_pos calls]
  exact read.pushAll_raises [(w.seg .cs).selector, w.ip] fault

/-- Settles O38: the checks of the selector, those of the code segment in their order, and the transfer. -/
theorem farTransfersProtected : Obligations.FarTransfersProtected := by
  rintro s _ i call sel off d form pe can rfl hd
  refine ⟨farForm_null form pe can, farForm_outside form pe can, fun named inside => ?_⟩
  obtain ⟨w, run, read, -⟩ := farForm_selected form pe can named inside
  rw [← hd] at run
  refine ⟨fun data types => (farSelected_other data types w call sel off).traps run, fun code => ?_⟩
  rw [farSelected_code code] at run
  rw [← read.sys]
  refine ⟨fun denied => (farCode_denied call off denied).traps run, fun allowed => ⟨fun absent => ?_,
    fun present beyond => ?_, fun present within calls e fault => ?_, fun present within push => ?_⟩⟩
  · exact (farCode_absent call off allowed absent).traps run
  · exact (farCode_beyond call allowed present beyond).traps run
  · rw [farCode_within call allowed present within] at run
    exact ((pushReturn_raises read calls fault).bind _).traps run
  · rw [farCode_within call allowed present within] at run
    rw [read.sys]
    exact enterCode_done read push run

end Sys2Proof.Machine
end

section
/-! Software interrupts in protected mode (45_control_transfer.md R700 to R702; 60_exceptions.md R930). -/

namespace Sys2Proof.Machine

variable {s t u v w : State} {i : Instr}

/-- An instruction whose body completes leaves the body's state, but for the trap it latches. -/
theorem exec_keeps {x : Res State} (run : exec i s = s.finish x) (done : x = .ok u) :
    ∃ t, exec i s = .next t ∧ t.regs = u.regs ∧ t.segs = u.segs ∧ t.sys = u.sys ∧ t.ip = u.ip ∧ t.live = u.live ∧
      t.flags = u.flags ∧ t.mem = u.mem := by
  subst done
  exact ⟨_, run, State.latchTrap_regs .., State.latchTrap_segs .., State.latchTrap_sys .., State.latchTrap_ip ..,
    State.latchTrap_live .., latchTrap_flags .., State.latchTrap_mem ..⟩

/-- Settles O44: the instruction is its delivery. -/
theorem softwareInterruptsProtected : Obligations.SoftwareInterruptsProtected := fun _ _ _ _ _ form =>
  ⟨fun _ done => exec_keeps (softwareInt_deliver form) done, fun _ raises => raises.traps (softwareInt_deliver form)⟩

end Sys2Proof.Machine
end

section
/-! Returns in protected mode (45_control_transfer.md R684; 60_exceptions.md R951): their checks, and returns to the same
level. -/

namespace Sys2Proof.Machine

variable {s t u v w : State} {i : Instr} {off sel k above : Word} {d : Desc} {ps : Option Word}

/-! ## The forms of a return -/

/-- What IRET does to PS with the word it popped; RETF pops none. -/
def State.loadPS (s : State) (ps : Option Word) (mask : Word) : State :=
  match ps with
  | none => s
  | some f => s.setPS f mask

/-- A return with its words above the selector: the PS of IRET, and the offset from SP of an outer level's
stack pointer. -/
def State.returns (s : State) (i : Instr) (k above : Word) (ps : Option Word) : Prop :=
  farReturnForm i = some k ∧ above = 4 + k ∧ ps = none ∨
    i = .iret ∧ k = 0 ∧ above = 6 ∧ s.nt = false ∧
      ∃ f, ps = some f ∧ s.segRead16 .ss (s.reg .sp + 4) = .ok (f, s) ∧ f.getLsbD 14 = false

/-- The end of a return to an outer level. -/
def State.leaveLevel (s : State) (nss nsp : Word) (sd : Desc) : State :=
  (((s.setStack nss sd).setReg .sp nsp).dropSeg .ds).dropSeg .es

/-- A return behind the checks of its CS. -/
def State.returnTo (s : State) (sel off k above : Word) (ps : Option Word) (d : Desc) : Res State :=
  if rpl sel = s.sys.cpl then
    .ok ((((s.setCode sel (rpl sel) d).jump off).loadPS ps s.popMask).setReg .sp (s.reg .sp + above))
  else
    s.segRead16 .ss (s.reg .sp + above) >>= fun p => p.2.segRead16 .ss (p.2.reg .sp + (above + 2)) >>= fun q =>
      q.2.checkReturnSs q.1 (rpl sel) >>= fun c =>
        .ok ((((c.2.setCode sel (rpl sel) d).jump off).loadPS ps 0xFFFF).leaveLevel q.1 (p.1 + k) c.1)

theorem return_exec (pe : s.protectedMode = true) (offset : s.segRead16 .ss (s.reg .sp) = .ok (off, s))
    (selector : s.segRead16 .ss (s.reg .sp + 2) = .ok (sel, s)) (form : s.returns i k above ps) :
    exec i s = s.finish (s.checkReturnCs sel off >>= fun p => p.2.returnTo sel off k above ps p.1) := by
  have offset : s.segRead16 .ss s.regs.sp = .ok (off, s) := offset
  have selector : s.segRead16 .ss (s.regs.sp + 2) = .ok (sel, s) := selector
  rcases form with ⟨form, rfl, rfl⟩ | ⟨rfl, rfl, rfl, nt, f, rfl, word, clear⟩
  · rw [farReturnForm_exec form, State.farReturn, if_pos pe, State.farReturnProtected, offset, ok_bind]
    dsimp only
    rw [selector, ok_bind]
    refine congrArg (fun f => s.finish (s.checkReturnCs sel off >>= f)) (funext fun p => ?_)
    have pair (x : Word) : x + (4 + k + 2) = x + 6 + k := by bv_omega
    rw [State.returnTo, State.farReturnOuter, ← BitVec.add_assoc]
    simp only [pair]
    rfl
  · have word : s.segRead16 .ss (s.regs.sp + 4) = .ok (f, s) := word
    have body : s.interruptReturn = s.iretCode off sel f := by
      rw [State.interruptReturn, if_pos pe, State.iretProtected, nt, Bool.and_false, if_neg Bool.false_ne_true, offset,
        ok_bind]
      dsimp only
      rw [selector, ok_bind]
      dsimp only
      rw [word, ok_bind]
      dsimp only
      rw [show f.getLsbD ntBit = false from clear, Bool.and_false, if_neg Bool.false_ne_true]
    refine congrArg s.finish (body.trans (congrArg (s.checkReturnCs sel off >>= ·) (funext fun p => ?_)))
    have zero (x : Word) : x + 0 = x := by bv_omega
    simp only [State.returnTo, State.iretOuter, zero]
    rfl

/-! ## The checks of the CS returned to (R684) -/

/-- The checks of a return CS whose descriptor was read. -/
def State.checkReturnDesc (s : State) (sel off : Word) (d : Desc) : Res (Desc × State) := do
  raiseIf (!d.isCode) s (.gp (errSel sel))
  raiseIf (if d.conforming then decide ((rpl sel).toNat < d.dpl.toNat) else d.dpl != rpl sel) s (.gp (errSel sel))
  raiseIf (!d.present) s (.np (errSel sel))
  raiseIf (decide (d.limit.toNat < off.toNat)) s (.gp 0)
  return (d, s)

section
variable (off)

theorem checkReturnCs_low (low : (rpl sel).toNat < s.sys.cpl.toNat) :
    Raises (s.checkReturnCs sel off) (.gp (errSel sel)) :=
  raises_raiseIf (decide_eq_true low) _ _ _

section
variable (level : s.sys.cpl.toNat ≤ (rpl sel).toNat)
include level

theorem checkReturnCs_null (null : s.isNull sel = true) : Raises (s.checkReturnCs sel off) (.gp 0) := by
  rw [State.checkReturnCs, raiseIf_bind (decide_eq_false (Nat.not_lt.mpr level))]
  exact raises_raiseIf null _ _ _

variable (named : s.isNull sel = false)
include named

theorem checkReturnCs_outside (outside : s.inTable sel = false) :
    Raises (s.checkReturnCs sel off) (.gp (errSel sel)) := by
  rw [State.checkReturnCs, raiseIf_bind (decide_eq_false (Nat.not_lt.mpr level)), raiseIf_bind named]
  exact (fetchDescOr_raises outside _).bind _

theorem checkReturnCs_read (inside : s.inTable sel = true) (plain : s.plainSel sel) :
    s.checkReturnCs sel off = s.checkReturnDesc sel off (s.descOf sel) := by
  obtain ⟨t, fetched, -, same⟩ := fetchDescOr_read inside (.gp (errSel sel))
  obtain rfl := same plain
  rw [State.checkReturnCs, raiseIf_bind (decide_eq_false (Nat.not_lt.mpr level)), raiseIf_bind named, State.fetchDesc,
    fetched]
  rfl

end

theorem checkReturnDesc_bad (bad : d.isCode = false ∨ (d.conforming = false ∧ d.dpl ≠ rpl sel) ∨
    (d.conforming = true ∧ (rpl sel).toNat < d.dpl.toNat)) (s : State) :
    Raises (s.checkReturnDesc sel off d) (.gp (errSel sel)) := by
  cases code : d.isCode with
  | false => exact raises_raiseIf (by rw [code]; rfl) _ _ _
  | true =>
    rw [State.checkReturnDesc, raiseIf_bind (by rw [code]; rfl)]
    refine raises_raiseIf ?_ _ _ _
    rcases bad.resolve_left (by simp [code]) with ⟨conforming, other⟩ | ⟨conforming, low⟩
    · simpa [conforming] using other
    · simpa [conforming] using low

section
variable (code : d.isCode = true)
  (level : if d.conforming then d.dpl.toNat ≤ (rpl sel).toNat else d.dpl = rpl sel)
include code level

theorem checkReturnDesc_fits (s : State) : s.checkReturnDesc sel off d =
    raiseIf (!d.present) s (.np (errSel sel)) >>= fun _ =>
      raiseIf (decide (d.limit.toNat < off.toNat)) s (.gp 0) >>= fun _ => .ok (d, s) := by
  have allowed : (if d.conforming then decide ((rpl sel).toNat < d.dpl.toNat) else d.dpl != rpl sel) = false := by
    cases conforming : d.conforming <;> simpa [conforming] using level
  rw [State.checkReturnDesc, raiseIf_bind (by rw [code]; rfl), raiseIf_bind allowed]
  rfl

theorem checkReturnDesc_absent (absent : d.present = false) (s : State) :
    Raises (s.checkReturnDesc sel off d) (.np (errSel sel)) := by
  rw [checkReturnDesc_fits off code level]
  exact raises_raiseIf (by rw [absent]; rfl) _ _ _

variable {off} (present : d.present = true)
include present

theorem checkReturnDesc_beyond (beyond : d.limit.toNat < off.toNat) (s : State) :
    Raises (s.checkReturnDesc sel off d) (.gp 0) := by
  rw [checkReturnDesc_fits off code level, raiseIf_bind (by rw [present]; rfl)]
  exact raises_raiseIf (decide_eq_true beyond) _ _ _

theorem checkReturnDesc_ok (within : off.toNat ≤ d.limit.toNat) (s : State) :
    s.checkReturnDesc sel off d = .ok (d, s) := by
  rw [checkReturnDesc_fits off code level, raiseIf_bind (by rw [present]; rfl),
    raiseIf_bind (decide_eq_false (Nat.not_lt.mpr within))]

end

end

/-! ## The SS of an outer level (R124, R684) -/

/-- A return to an outer level, behind the checks of CS. -/
theorem returnTo_outer {nsp nss : Word} (outer : s.sys.cpl.toNat < (rpl sel).toNat)
    (pointer : s.segRead16 .ss (s.reg .sp + above) = .ok (nsp, s))
    (stack : s.segRead16 .ss (s.reg .sp + above + 2) = .ok (nss, s)) :
    s.returnTo sel off k above ps d = s.checkReturnSs nss (rpl sel) >>= fun c =>
      .ok ((((c.2.setCode sel (rpl sel) d).jump off).loadPS ps 0xFFFF).leaveLevel nss (nsp + k) c.1) := by
  rw [State.returnTo, if_neg (fun same => by rw [same] at outer; exact Nat.lt_irrefl _ outer), pointer, ok_bind]
  dsimp only
  rw [← BitVec.add_assoc, stack]
  rfl

theorem returns_of_returnsTo (form : returnForm i = some (k, above)) (h : s.returnsTo i off sel) :
    ∃ ps, s.returns i k above ps := by
  by_cases ret : i = .iret
  · subst ret
    cases form
    obtain ⟨nt, f, word, clear⟩ := h.noTask rfl
    exact ⟨some f, .inr ⟨rfl, rfl, rfl, nt, f, rfl, word, clear⟩⟩
  · rw [returnForm.eq_2 i ret] at form
    obtain ⟨l, far, pair⟩ := Option.map_eq_some_iff.mp form
    cases pair
    exact ⟨none, .inl ⟨far, rfl, rfl⟩⟩

/-- Settles O47: the checks of CS in their order, then those of the SS of an outer level. -/
theorem returnFaults : Obligations.ReturnFaults := by
  intro s i k above off sel d form h hd plain
  obtain ⟨ps, form⟩ := returns_of_returnsTo form h
  have run := return_exec h.mode h.offset h.selector form
  refine ⟨fun low => ((checkReturnCs_low off low).bind _).traps run, fun level =>
    ⟨fun null => ((checkReturnCs_null off level null).bind _).traps run, fun named outside =>
      ((checkReturnCs_outside off level named outside).bind _).traps run, fun named inside => ?_⟩⟩
  rw [checkReturnCs_read off level named inside plain, ← hd] at run
  refine ⟨fun bad => ((checkReturnDesc_bad off bad s).bind _).traps run, fun code privilege =>
    ⟨fun absent => ((checkReturnDesc_absent off code privilege absent s).bind _).traps run, fun present beyond =>
      ((checkReturnDesc_beyond code privilege present beyond s).bind _).traps run,
      fun present within outer nsp nss sd pointer stack hsd => ?_⟩⟩
  rw [checkReturnDesc_ok code privilege present within, ok_bind, returnTo_outer outer pointer stack,
    State.checkReturnSs] at run
  refine ⟨fun null => ((raises_raiseIf null _ _ _).bind _).traps run, fun named outside => ?_, fun named inside => ?_⟩
  · rw [State.checkStack, raiseIf_bind named] at run
    exact (((fetchDescOr_raises outside _).bind _).bind _).traps run
  · obtain ⟨t, -, checks⟩ := checkStack_eq named inside (rpl sel) (.np 0) (.gp (errSel nss)) (.gp (errSel nss))
    rw [checks, ← hsd] at run
    refine ⟨fun bad => ((checked_bad _ _ t sd ?_).bind _).traps run, fun writable level dpl absent =>
      ((checked_absent _ _ t ?_ ?_ absent).bind _).traps run⟩
    · exact bad.imp (by simp [·]) (by simp)
    · rw [writable]; rfl
    · rw [level, dpl]; simp

/-! ## Returns to the same level (R684, R951) -/

theorem Carries.protectedMode {dest : List Reg16} {stored : List Nat} (h : Carries s t dest stored) :
    t.protectedMode = s.protectedMode := by
  have msw := congrArg SysRegs.msw h.sys
  dsimp only at msw
  simp only [State.protectedMode, State.cls, h.cfg, msw]

theorem State.setsAccessed.of_mem (h : s.setsAccessed t sel d) (mem : u.mem = t.mem) : s.setsAccessed u sel d := by
  rwa [State.setsAccessed, mem]

theorem loadPS_mem (s : State) (ps : Option Word) (mask : Word) : (s.loadPS ps mask).mem = s.mem := by
  cases ps <;> rfl

/-- A selector is its index and table with its RPL. -/
theorem errSel_rpl (sel : Word) : errSel sel ||| (rpl sel).setWidth 16 = sel := by
  refine BitVec.eq_of_getLsbD_eq fun k hk => ?_
  have index : ∀ k < 16, (0xFFFC : Word).getLsbD k = !decide (k < 2) := by decide
  rw [errSel, rpl, BitVec.getLsbD_or, BitVec.getLsbD_and, index k hk, BitVec.getLsbD_setWidth,
    BitVec.getLsbD_extractLsb', Nat.zero_add]
  cases decide (k < 2) <;> simp [hk]

theorem CodeFrame.loadPS {dest : List Reg16} {stored : List Nat} (h : CodeFrame s t off dest stored)
    (ps : Option Word) (mask : Word) : CodeFrame s (t.loadPS ps mask) off dest stored := by
  cases ps <;> exact { h with }

/-- The end of a return to the same level: CS is loaded, SP taken past the words popped, and PS as IRET writes it. -/
theorem returnTo_same (same : rpl sel = s.sys.cpl) :
    ∃ u, s.returnTo sel off k above ps d = .ok ((u.jump off).loadPS ps s.popMask) ∧
      Carries s u [.sp] [s.accessAddr sel] ∧ s.setsAccessed u sel d ∧ u.reg .sp = s.reg .sp + above ∧
      u.seg .cs = d.cache sel ∧ u.sys.cpl = s.sys.cpl ∧ u.seg .ss = s.seg .ss := by
  have loaded := (KeepsFlags.refl s).carries.setCode sel (rpl sel) d
  have named := loaded.mono (dest' := [.sp]) (List.nil_subset _) (List.Subset.refl _)
  have cs := setCode_cs s sel (rpl sel) d
  rw [errSel_rpl] at cs
  refine ⟨(s.setCode sel (rpl sel) d).setReg .sp (s.reg .sp + above), ?_, named.setReg (List.mem_singleton_self _) _,
    (KeepsFlags.refl s).carries.setsAccessed sel d rfl, reg_setReg_same _ _ _, cs, same, setCode_ss s sel _ d⟩
  rw [State.returnTo, if_pos same]
  cases ps <;> rfl

/-! ## PS in protected mode (10 R39) -/

section
variable (pe : s.protectedMode = true) (f m : Word)
include pe

/-- A write of PS takes every direct bit of its mask. -/
theorem setPS_live_protected {k : Nat} (direct : k = 8 ∨ k = 9 ∨ k = 10 ∨ k = 12 ∨ k = 13 ∨ k = 14) :
    (s.setPS f m).live.getLsbD k = if m.getLsbD k then f.getLsbD k else s.live.getLsbD k := by
  rw [setPS_live s f m (by simpa [isDirectBit, (protectedMode_iff.mp pe).1] using direct), pe, Bool.or_true,
    Bool.and_true]

theorem setPS_iopl_protected {b : Bool} (low : m.getLsbD 12 = b) (high : m.getLsbD 13 = b) :
    (s.setPS f m).iopl = if b then f.extractLsb' 12 2 else s.iopl := by
  have b12 := setPS_live_protected pe f m (k := 12) (by simp)
  have b13 := setPS_live_protected pe f m (k := 13) (by simp)
  rw [low] at b12
  rw [high] at b13
  refine BitVec.eq_of_getLsbD_eq fun k hk => ?_
  obtain rfl | rfl : k = 0 ∨ k = 1 := by omega
  · cases b <;> simpa [State.iopl] using b12
  · cases b <;> simpa [State.iopl] using b13

omit m f in
/-- The bits of the mask of POPF and of IRET to the same level. -/
theorem popMask_getLsbD : s.popMask.getLsbD 8 = true ∧ s.popMask.getLsbD 9 = !decide (s.iopl.toNat < s.sys.cpl.toNat) ∧
    s.popMask.getLsbD 10 = true ∧ s.popMask.getLsbD 12 = decide (s.sys.cpl = 0) ∧
    s.popMask.getLsbD 13 = decide (s.sys.cpl = 0) ∧ s.popMask.getLsbD 14 = true := by
  have bits : ∀ low inner : Bool, ∀ k ∈ [8, 9, 10, 12, 13, 14],
      ((if low then 0xFDFF else 0xFFFF) &&& (if inner then 0xFFFF else 0xCFFF) : Word).getLsbD k =
        if k = 9 then !low else if k = 12 ∨ k = 13 then inner else true := by decide
  have mask : s.popMask = (if decide (s.iopl.toNat < s.sys.cpl.toNat) then 0xFDFF else 0xFFFF) &&&
      (if decide (s.sys.cpl = 0) then 0xFFFF else 0xCFFF) := by simp [State.popMask, pe]
  rw [mask]
  exact ⟨bits _ _ 8 (by simp), bits _ _ 9 (by simp), bits _ _ 10 (by simp), bits _ _ 12 (by simp), bits _ _ 13 (by simp),
    bits _ _ 14 (by simp)⟩

end

/-- Settles O45: the return to the same level, and the PS that IRET writes there. -/
theorem returnsSameLevel : Obligations.ReturnsSameLevel := by
  intro s off sel d pe offset selector hd plain same named inside code privilege present within
  have checks : s.checkReturnCs sel off = .ok (d, s) := by
    rw [checkReturnCs_read off (Nat.le_of_eq (congrArg BitVec.toNat same.symm)) named inside plain, ← hd]
    exact checkReturnDesc_ok code privilege present within s
  have ends {i : Instr} {k above : Word} {ps : Option Word} (form : s.returns i k above ps) :
      ∃ u, exec i s = .next (s.latchTrap ((u.jump off).loadPS ps s.popMask)) ∧
        Carries s u [.sp] [s.accessAddr sel] ∧ s.setsAccessed u sel d ∧ u.reg .sp = s.reg .sp + above ∧
        u.seg .cs = d.cache sel ∧ u.sys.cpl = s.sys.cpl ∧ u.seg .ss = s.seg .ss := by
    obtain ⟨u, body, spec⟩ := returnTo_same (off := off) (k := k) (above := above) (ps := ps) (d := d) same
    refine ⟨u, ?_, spec⟩
    rw [return_exec pe offset selector form, checks, ok_bind, body]
    rfl
  refine ⟨fun i k form => ?_, fun f word clear nt => ?_⟩
  · obtain ⟨u, run, carries, accessed, sp, cs, cpl, ss⟩ := ends (.inl ⟨form, rfl, rfl⟩)
    have enters := carries.enters off
    refine ⟨_, run, ?_, ?_, enters.cs.trans cs, enters.cpl.trans cpl, enters.ss.trans ss, enters.flags, enters.live,
      enters.events, enters.frame⟩
    · exact accessed.of_mem (State.latchTrap_mem ..)
    · rw [latchTrap_reg, BitVec.add_assoc]
      exact sp
  · obtain ⟨u, run, carries, accessed, sp, cs, cpl, ss⟩ := ends (.inr ⟨rfl, rfl, rfl, nt, f, rfl, word, clear⟩)
    have pe' : (u.jump off).protectedMode = true := carries.protectedMode.trans pe
    have iopl : (u.jump off).iopl = s.iopl := congrArg (BitVec.extractLsb' 12 2) carries.live
    obtain ⟨m8, m9, m10, m12, m13, m14⟩ := popMask_getLsbD pe
    have bit {k : Nat} (direct : k = 8 ∨ k = 9 ∨ k = 10 ∨ k = 12 ∨ k = 13 ∨ k = 14) :
        (s.latchTrap ((u.jump off).setPS f s.popMask)).live.getLsbD k =
          if s.popMask.getLsbD k then f.getLsbD k else s.live.getLsbD k := by
      rw [State.latchTrap_live, setPS_live_protected pe' f s.popMask direct]
      exact congrArg (fun l : Word => if s.popMask.getLsbD k then f.getLsbD k else l.getLsbD k) carries.live
    refine ⟨_, run, ?_, ?_, (latchTrap_seg ..).trans cs, ?_, (latchTrap_seg ..).trans ss,
      (latchTrap_flags ..).trans (setPS_flags ..), (bit (k := 8) (by simp)).trans (if_pos m8),
      (bit (k := 10) (by simp)).trans (if_pos m10), (bit (k := 14) (by simp)).trans ((if_pos m14).trans clear), ?_, ?_,
      latchTrap_intFlags carries.intFlags,
      ((carries.codeFrame off).loadPS (some f) _).latchTrap⟩
    · exact accessed.of_mem (State.latchTrap_mem ..)
    · exact (latchTrap_reg ..).trans sp
    · rw [State.latchTrap_sys]
      exact cpl
    · refine (bit (k := 9) (by simp)).trans ?_
      rw [m9]
      by_cases low : s.iopl.toNat < s.sys.cpl.toNat <;> simp [low, State.ifl, ifBit]
    · rw [State.iopl, State.latchTrap_live]
      refine (setPS_iopl_protected pe' f s.popMask m12 m13).trans ?_
      rw [iopl]
      by_cases inner : s.sys.cpl = 0 <;> simp [inner]

end Sys2Proof.Machine
end

section
/-! Returns to an outer level (45_control_transfer.md R684; 60_exceptions.md R951). -/

namespace Sys2Proof.Machine

variable {s t u v w : State} {i : Instr} {off sel nss nsp k above : Word} {d sd : Desc} {ps : Option Word}
  {dest : List Reg16} {stored : List Nat}

/-! ## The access byte of a descriptor (20 R121, R127) -/

theorem descOf_access (sel : Word) (ram : s.kindAt (s.accessAddr sel) = .ram) :
    (s.descOf sel).access = Memory.read s.mem (s.accessAddr sel) := by
  have byte {t : State} (h : Touches s t [] []) :
      (t.sysRead8 (s.descAddr sel + 5)).1 = Memory.read s.mem (s.accessAddr sel) := by
    have kind : t.kindAt (t.phys (s.descAddr sel + 5)) = .ram := by
      rw [h.phys, h.kindAt]
      exact ram
    rw [State.sysRead8, busRead8_plain (.inl kind), h.phys]
    exact h.memory _ List.not_mem_nil
  have read {t : State} {l : BitVec 32} (h : Touches s t [] []) : Touches s (t.sysRead8 l).2 [] [] := by
    simpa only [List.append_nil] using h.trans (touches_sysRead8 t l)
  exact byte (read (read (read (read (read (.refl s))))))

/-- A code segment and a writable data segment have different access bytes. -/
theorem access_ne_of_isCode (code : d.isCode = true) (data : sd.writable = true) : d.access ≠ sd.access := by
  intro same
  simp only [Desc.writable, Desc.isData, Desc.isCode, Bool.and_eq_true, Bool.not_eq_true'] at code data
  rw [same, data.1.2] at code
  exact absurd code.2 nofun

/-! ## DS and ES of the level returned to (R684) -/

/-- A data segment register at a return to a level: nulled where the level may not use its segment. -/
def SegCache.dropped (c : SegCache) (level : BitVec 2) : SegCache :=
  if !c.nullLoaded && !(accExec c.access && accBit2 c.access) && decide ((accDpl c.access).toNat < level.toNat)
  then c.nulled 0 else c

theorem dropSeg_eq (s : State) {r : SegReg} (data : r = .ds ∨ r = .es) :
    s.dropSeg r = s.setSeg r ((s.seg r).dropped s.sys.cpl) := by
  rw [State.dropSeg, SegCache.dropped]
  split
  · rfl
  · rcases data with rfl | rfl <;> rfl

theorem dropped_spec (c : SegCache) (level : BitVec 2) :
    if accExec c.access = true ∧ accBit2 c.access = true ∨ level.toNat ≤ (accDpl c.access).toNat
    then c.dropped level = c else (c.dropped level).nullLoaded = true := by
  by_cases may : accExec c.access = true ∧ accBit2 c.access = true ∨ level.toNat ≤ (accDpl c.access).toNat
  · rw [if_pos may]
    refine if_neg fun drops => ?_
    simp only [Bool.and_eq_true, Bool.not_eq_true', Bool.and_eq_false_iff, decide_eq_true_eq] at drops
    rcases may with ⟨exec, conforming⟩ | high
    · simp [exec, conforming] at drops
    · omega
  · rw [if_neg may, SegCache.dropped]
    split
    · rfl
    · rename_i keeps
      simp only [Bool.and_eq_true, Bool.not_eq_true', Bool.and_eq_false_iff, decide_eq_true_eq, not_and, not_or,
        not_le] at keeps may
      by_contra named
      rw [Bool.not_eq_true] at named
      refine keeps ⟨named, ?_⟩ may.2
      cases exec : accExec c.access with
      | false => exact .inl rfl
      | true => exact .inr (Bool.not_eq_true _ ▸ may.1 exec)

/-- DS and ES at a return to an outer level. -/
def State.dropData (s : State) : State :=
  (s.setSeg .ds ((s.seg .ds).dropped s.sys.cpl)).setSeg .es ((s.seg .es).dropped s.sys.cpl)

theorem leaveLevel_eq (s : State) (nss nsp : Word) (sd : Desc) :
    s.leaveLevel nss nsp sd = ((s.setStack nss sd).setReg .sp nsp).dropData := by
  rw [State.leaveLevel, dropSeg_eq _ (.inl rfl), dropSeg_eq _ (.inr rfl)]
  rfl

theorem Carries.setStack (h : Carries s t dest stored) (nss : Word) (sd : Desc) :
    Carries s (t.setStack nss sd) dest (s.accessAddr nss :: stored) := by
  have accessed := h.trans (keepsFlags_setAccessed t nss sd).carries
  rw [h.accessAddr] at accessed
  have named : stored ++ [s.accessAddr nss] ⊆ s.accessAddr nss :: stored := by simp
  exact (accessed.mono (List.append_nil _ ▸ List.Subset.refl _) named).setSeg (.inr rfl) _

theorem BusBlind.setAccessed {f : State → State} (blind : BusBlind f) (sys : (f s).sys = s.sys) (sel : Word) (d : Desc) :
    (f s).setAccessed sel d = f (s.setAccessed sel d) := by
  have addr : (f s).descAddr sel = s.descAddr sel := by simp only [State.descAddr, State.tableOf, sys]
  rw [State.setAccessed, State.setAccessed, State.putAccess, State.putAccess, State.sysWrite8, State.sysWrite8, addr,
    blind.phys, blind.busWrite8]
  split <;> rfl

/-- The load of SS does not see the jump and PS. -/
theorem setStack_loadPS (s : State) (off : Word) (ps : Option Word) (nss : Word) (sd : Desc) :
    ((s.jump off).loadPS ps 0xFFFF).setStack nss sd = ((s.setStack nss sd).jump off).loadPS ps 0xFFFF := by
  have blind : BusBlind fun s => (s.jump off).loadPS ps 0xFFFF := by
    cases ps <;> constructor <;> intros <;> rfl
  rw [State.setStack, blind.setAccessed (by cases ps <;> rfl)]
  cases ps <;> rfl

theorem setReg_loadPS (s : State) (off : Word) (ps : Option Word) (r : Reg16) (x : Word) :
    ((s.jump off).loadPS ps 0xFFFF).setReg r x = ((s.setReg r x).jump off).loadPS ps 0xFFFF := by
  cases ps <;> rfl

/-- The loads of CS, SS and SP of a return to an outer level. -/
def State.outerEnd (s : State) (sel nss nsp : Word) (d sd : Desc) : State :=
  ((s.setCode sel (rpl sel) d).setStack nss sd).setReg .sp nsp

/-- Behind them: the jump, the PS of IRET, DS and ES. -/
def State.returnAt (s : State) (off : Word) (ps : Option Word) : State := ((s.jump off).loadPS ps 0xFFFF).dropData

section
variable (s off ps)

theorem returnAt_ip : (s.returnAt off ps).ip = off := by cases ps <;> rfl
theorem returnAt_regs : (s.returnAt off ps).regs = s.regs := by cases ps <;> rfl
theorem returnAt_mem : (s.returnAt off ps).mem = s.mem := by cases ps <;> rfl
theorem returnAt_sys : (s.returnAt off ps).sys = s.sys := by cases ps <;> rfl
theorem returnAt_intFlags : (s.returnAt off ps).intFlags = s.intFlags := by cases ps <;> rfl
theorem returnAt_cs : (s.returnAt off ps).seg .cs = s.seg .cs := by cases ps <;> rfl
theorem returnAt_ss : (s.returnAt off ps).seg .ss = s.seg .ss := by cases ps <;> rfl

theorem returnAt_data {r : SegReg} (data : r = .ds ∨ r = .es) :
    (s.returnAt off ps).seg r = (s.seg r).dropped s.sys.cpl := by
  rcases data with rfl | rfl <;> cases ps <;> rfl

end

/-- `t` is `s` with CS, SS and SP loaded for an outer level. -/
structure Leaves (s t : State) (sel nss nsp : Word) (d sd : Desc) : Prop extends
    Carries s t [.sp] [s.accessAddr nss, s.accessAddr sel] where
  code  : s.setsAccessed t sel d
  stack : s.setsAccessed t nss sd
  cs    : t.seg .cs = d.cache sel
  ss    : t.seg .ss = sd.cache nss
  level : t.sys.cpl = rpl sel
  sp    : t.reg .sp = nsp

theorem setStack_cs (s : State) (nss : Word) (sd : Desc) : (s.setStack nss sd).seg .cs = s.seg .cs :=
  (touches_setAccessed s nss sd).seg .cs

theorem setStack_sys (s : State) (nss : Word) (sd : Desc) : (s.setStack nss sd).sys = s.sys :=
  (touches_setAccessed s nss sd).sys

theorem setStack_ss (s : State) (nss : Word) (sd : Desc) : (s.setStack nss sd).seg .ss = sd.cache nss :=
  seg_setSeg_self (s.setAccessed nss sd) .ss _

/-- The two accessed bits are of different bytes, as a code segment is no writable data segment. -/
theorem leaves_outerEnd (code : (s.descOf sel).isCode = true) (data : (s.descOf nss).writable = true) (nsp : Word) :
    Leaves s (s.outerEnd sel nss nsp (s.descOf sel) (s.descOf nss)) sel nss nsp (s.descOf sel) (s.descOf nss) := by
  have cs := (KeepsFlags.refl s).carries.setCode sel (rpl sel) (s.descOf sel)
  have ss := (cs.setStack nss (s.descOf nss)).mono (dest' := [.sp]) (List.nil_subset _) (List.Subset.refl _)
  have set := (KeepsFlags.refl s).carries.setsAccessed sel (s.descOf sel)
    (u := s.setCode sel (rpl sel) (s.descOf sel)) rfl
  refine ⟨ss.setReg (List.mem_singleton_self _) nsp, fun ram clear => Eq.trans ?_ (set ram clear),
    cs.setsAccessed nss _ rfl, ?_, setStack_ss _ nss _, ?_, reg_setReg_same _ _ _⟩
  · have stored := (keepsFlags_setAccessed (s.setCode sel (rpl sel) (s.descOf sel)) nss (s.descOf nss)).memory
      (s.accessAddr sel)
    rw [cs.accessAddr] at stored
    refine stored fun same => access_ne_of_isCode code data ?_
    rw [List.mem_singleton] at same
    rw [descOf_access sel ram, descOf_access nss (same ▸ ram), same]
  · refine (setStack_cs _ nss (s.descOf nss)).trans ((setCode_cs s sel (rpl sel) (s.descOf sel)).trans ?_)
    rw [errSel_rpl]
  · exact congrArg SysRegs.cpl (setStack_sys _ nss (s.descOf nss))

/-! ## The return -/

theorem checkStack_done {level : BitVec 2} (named : s.isNull nss = false) (inside : s.inTable nss = true)
    (read : sd = s.descOf nss) (writable : sd.writable = true) (privilege : rpl nss = level) (dpl : sd.dpl = level)
    (present : sd.present = true) (null outside bad : Exc) :
    ∃ t, s.checkStack nss level null outside bad = .ok (sd, t) ∧ KeepsFlags s t [] [] ∧ (s.plainSel nss → t = s) := by
  subst read
  obtain ⟨t, fetched, keeps, same⟩ := fetchDescOr_read inside outside
  refine ⟨t, ?_, keeps, same⟩
  rw [State.checkStack, raiseIf_bind named, fetched, ok_bind]
  exact checked_ok bad (.ss (errSel nss)) _ (by rw [writable]; rfl) (by rw [privilege, dpl]; simp) present

/-- A return to an outer level whose checks pass. -/
theorem returnTo_outer_done (outer : s.sys.cpl.toNat < (rpl sel).toNat)
    (pointer : s.segRead16 .ss (s.reg .sp + above) = .ok (nsp, s))
    (stack : s.segRead16 .ss (s.reg .sp + above + 2) = .ok (nss, s))
    (checks : s.checkReturnSs nss (rpl sel) = .ok (sd, s)) (ps : Option Word) :
    s.returnTo sel off k above ps d = .ok ((s.outerEnd sel nss (nsp + k) d sd).returnAt off ps) := by
  rw [returnTo_outer outer pointer stack, checks, ok_bind, leaveLevel_eq, setStack_loadPS, setReg_loadPS]
  rfl

/-- PS as IRET writes it at an outer level: all of it. -/
theorem returnAt_some (pe : t.protectedMode = true) (f : Word) :
    (t.returnAt off (some f)).flags = Flags.ofWord f ∧
      (∀ k, k = 8 ∨ k = 9 ∨ k = 10 ∨ k = 12 ∨ k = 13 ∨ k = 14 →
        (t.returnAt off (some f)).live.getLsbD k = f.getLsbD k) ∧
      (t.returnAt off (some f)).iopl = f.extractLsb' 12 2 := by
  have pe : (t.jump off).protectedMode = true := pe
  refine ⟨setPS_flags (t.jump off) f 0xFFFF, fun k direct => (setPS_live_protected pe f 0xFFFF direct).trans (if_pos ?_),
    setPS_iopl_protected pe f 0xFFFF (b := true) (by decide) (by decide)⟩
  rcases direct with rfl | rfl | rfl | rfl | rfl | rfl <;> decide

/-- Settles O46: the loads of CS and SS, then PS and the data segments. -/
theorem returnsOuterLevel : Obligations.ReturnsOuterLevel := by
  rintro s off sel f nsp nss k _ _ i pe outer offset selector rfl plain named inside code privilege present within form
    named' inside' rfl plain' writable level dpl present'
  have checks : s.checkReturnCs sel off = .ok (s.descOf sel, s) := by
    rw [checkReturnCs_read off (Nat.le_of_lt outer) named inside plain]
    exact checkReturnDesc_ok code privilege present within s
  obtain ⟨above, ps, form, pointer, stack, kind⟩ : ∃ above ps, s.returns i k above ps ∧
      s.segRead16 .ss (s.reg .sp + above) = .ok (nsp, s) ∧ s.segRead16 .ss (s.reg .sp + above + 2) = .ok (nss, s) ∧
      (ps = none ∧ i ≠ .iret ∨ ps = some f ∧ i = .iret ∧ f.getLsbD 14 = false) := by
    rcases form with ⟨form, pointer, stack⟩ | ⟨rfl, rfl, nt, pointer, stack, word, clear⟩
    · refine ⟨_, _, .inl ⟨form, rfl, rfl⟩, ?_, ?_, .inl ⟨rfl, fun ret => ?_⟩⟩
      · rwa [← BitVec.add_assoc]
      · rwa [show s.reg .sp + (4 + k) + 2 = s.reg .sp + 6 + k by bv_omega]
      · rw [ret] at form
        cases form
    · refine ⟨_, _, .inr ⟨rfl, rfl, rfl, nt, f, rfl, word, clear⟩, pointer, ?_, .inr ⟨rfl, rfl, clear⟩⟩
      rwa [BitVec.add_assoc]
  have run := return_exec pe offset selector form
  obtain ⟨t, stackChecks, -, same⟩ := checkStack_done named' inside' rfl writable level dpl present' (.np 0)
    (.gp (errSel nss)) (.gp (errSel nss))
  rw [same plain'] at stackChecks
  rw [checks, ok_bind, returnTo_outer_done outer pointer stack stackChecks] at run
  have leaves := leaves_outerEnd code writable (nsp + k)
  generalize s.outerEnd sel nss (nsp + k) (s.descOf sel) (s.descOf nss) = y at run leaves
  have mem : (s.latchTrap (y.returnAt off ps)).mem = y.mem := (State.latchTrap_mem ..).trans (returnAt_mem ..)
  have reg (r : Reg16) : (s.latchTrap (y.returnAt off ps)).reg r = y.reg r :=
    (latchTrap_reg ..).trans (congrArg (Regs.get · r) (returnAt_regs y off ps))
  refine ⟨_, run, (State.latchTrap_ip ..).trans (returnAt_ip ..),
    (latchTrap_seg ..).trans ((returnAt_cs ..).trans leaves.cs),
    (latchTrap_seg ..).trans ((returnAt_ss ..).trans leaves.ss),
    (State.latchTrap_sys ..).trans ((returnAt_sys ..).trans ?_),
    latchTrap_intFlags ((returnAt_intFlags ..).trans leaves.intFlags), ?_, ?_, (reg _).trans leaves.sp,
    fun r other => ?_,
    fun r data => ?_, leaves.code.of_mem mem, leaves.stack.of_mem mem, fun a code stack => ?_⟩
  · have sys := congrArg (fun x : SysRegs => { x with cpl := y.sys.cpl }) leaves.sys
    rw [leaves.level] at sys
    rw [← sys, ← leaves.level]
  · intro far
    obtain ⟨rfl, -⟩ | ⟨-, ret, -⟩ := kind
    · exact ⟨(latchTrap_flags ..).trans leaves.flags, (State.latchTrap_live ..).trans leaves.live⟩
    · exact absurd ret far
  · intro ret
    obtain ⟨-, far⟩ | ⟨rfl, -, clear⟩ := kind
    · exact absurd ret far
    · obtain ⟨flags, bits, iopl⟩ := returnAt_some (off := off) (leaves.protectedMode.trans pe) f
      have bit (k : Nat) (direct : k = 8 ∨ k = 9 ∨ k = 10 ∨ k = 12 ∨ k = 13 ∨ k = 14) :
          (s.latchTrap (y.returnAt off (some f))).live.getLsbD k = f.getLsbD k := by
        rw [State.latchTrap_live, bits k direct]
      refine ⟨(latchTrap_flags ..).trans flags, bit 8 (by simp), bit 9 (by simp), bit 10 (by simp), ?_,
        (bit 14 (by simp)).trans clear⟩
      rw [State.iopl, State.latchTrap_live]
      exact iopl
  · exact (reg r).trans (leaves.regs r (by simpa using other))
  · have spec := dropped_spec (y.seg r) y.sys.cpl
    have kept : y.seg r = s.seg r := by rcases data with rfl | rfl; exacts [leaves.data.1, leaves.data.2]
    rw [kept, leaves.level] at spec
    rwa [latchTrap_seg, returnAt_data y off ps data, kept, leaves.level]
  · rw [mem]
    exact leaves.memory a (by simp [code, stack])

end Sys2Proof.Machine
end

section
/-! What a call or a jump through a call gate raises (45_control_transfer.md R677; 60_exceptions.md R942). -/

namespace Sys2Proof.Machine

variable {s t u v w : State} {i : Instr} {call : Bool} {sel nss nsp : Word} {g d sd : Desc}

/-! ## The code segment a gate names (60 R941) -/

/-- The checks of a gate's target whose descriptor was read. -/
def State.checkTarget (s : State) (g d : Desc) : Res (Desc × State) := do
  raiseIf (!d.isCode || decide (s.sys.cpl.toNat < d.dpl.toNat)) s (.gp (errSel g.mid))
  raiseIf (!d.present) s (.np (errSel g.mid))
  raiseIf (decide (d.limit.toNat < g.lo.toNat)) s (.gp 0)
  return (d, s)

theorem gateTarget_null (null : s.isNull g.mid = true) : Raises (s.gateTarget g) (.gp 0) :=
  raises_raiseIf null _ _ _

section
variable (named : s.isNull g.mid = false)
include named

theorem gateTarget_outside (outside : s.inTable g.mid = false) : Raises (s.gateTarget g) (.gp (errSel g.mid)) := by
  rw [State.gateTarget, raiseIf_bind named]
  exact (fetchDescOr_raises outside _).bind _

theorem gateTarget_read (inside : s.inTable g.mid = true) :
    ∃ t, s.gateTarget g = t.checkTarget g (s.descOf g.mid) ∧ KeepsFlags s t [] [] ∧ (s.plainSel g.mid → t = s) := by
  obtain ⟨t, fetched, read, same⟩ := fetchDescOr_read inside (.gp (errSel g.mid))
  refine ⟨t, ?_, read, same⟩
  rw [State.gateTarget, raiseIf_bind named, State.fetchDesc, fetched]
  rfl

end

theorem checkTarget_bad (bad : d.isCode = false ∨ s.sys.cpl.toNat < d.dpl.toNat) :
    Raises (s.checkTarget g d) (.gp (errSel g.mid)) :=
  raises_raiseIf (by simpa using bad) _ _ _

section
variable (code : d.isCode = true) (privilege : d.dpl.toNat ≤ s.sys.cpl.toNat)
include code privilege

theorem checkTarget_allowed : s.checkTarget g d =
    raiseIf (!d.present) s (.np (errSel g.mid)) >>= fun _ =>
      raiseIf (decide (d.limit.toNat < g.lo.toNat)) s (.gp 0) >>= fun _ => .ok (d, s) := by
  rw [State.checkTarget, raiseIf_bind (by simpa [code] using privilege)]
  rfl

theorem checkTarget_absent (absent : d.present = false) : Raises (s.checkTarget g d) (.np (errSel g.mid)) := by
  rw [checkTarget_allowed code privilege]
  exact raises_raiseIf (by rw [absent]; rfl) _ _ _

variable (present : d.present = true)
include present

theorem checkTarget_beyond (beyond : d.limit.toNat < g.lo.toNat) : Raises (s.checkTarget g d) (.gp 0) := by
  rw [checkTarget_allowed code privilege, raiseIf_bind (by rw [present]; rfl)]
  exact raises_raiseIf (decide_eq_true beyond) _ _ _

theorem checkTarget_ok (within : g.lo.toNat ≤ d.limit.toNat) : s.checkTarget g d = .ok (d, s) := by
  rw [checkTarget_allowed code privilege, raiseIf_bind (by rw [present]; rfl),
    raiseIf_bind (decide_eq_false (Nat.not_lt.mpr within))]

end

/-! ## The gate (R677) -/

/-- A transfer through a call gate, behind the checks of its target. -/
def State.throughGate (s : State) (call : Bool) (g d : Desc) : Res State := do
  raiseIf (!call && !d.conforming && d.dpl != s.sys.cpl) s (.gp (errSel g.mid))
  if call && !d.conforming && decide (d.dpl.toNat < s.sys.cpl.toNat) then s.gateInner g d
  else do
    let u ← s.pushReturn call
    return (u.setCode g.mid s.sys.cpl d).jump g.lo

theorem farForm_callGate {off : Word} (form : s.farForm i = some (call, sel, off)) (pe : s.protectedMode = true)
    (can : s.canReadFar i) (named : s.isNull sel = false) (inside : s.inTable sel = true)
    (read : g = (s.afterFar i).descOf sel) (plain : (s.afterFar i).plainSel sel) (gate : g.isSystem 4 = true) :
    exec i s = s.finish ((s.afterFar i).callGate call sel g) ∧ KeepsFlags s (s.afterFar i) [] [] := by
  obtain ⟨w, run, -, same⟩ := farForm_selected form pe can named inside
  rw [same plain, ← read, farSelected_callGate gate] at run
  exact ⟨run, (farForm_protected form pe can).2⟩

theorem callGate_low (low : g.dpl.toNat < s.effPl sel) : Raises (s.callGate call sel g) (.gp (errSel sel)) :=
  raises_raiseIf (decide_eq_true low) _ _ _

section
variable (level : s.effPl sel ≤ g.dpl.toNat)
include level

theorem callGate_absent (absent : g.present = false) : Raises (s.callGate call sel g) (.np (errSel sel)) := by
  rw [State.callGate, raiseIf_bind (decide_eq_false (Nat.not_lt.mpr level))]
  exact raises_raiseIf (by rw [absent]; rfl) _ _ _

theorem callGate_present (present : g.present = true) : s.callGate call sel g =
    s.gateTarget g >>= fun p => p.2.throughGate call g p.1 := by
  rw [State.callGate, raiseIf_bind (decide_eq_false (Nat.not_lt.mpr level)), raiseIf_bind (by rw [present]; rfl)]
  rfl

end

theorem throughGate_sameLevel (same : s.sameLevel d) (call : Bool) (g : Desc) :
    s.throughGate call g d = s.pushReturn call >>= fun u => .ok ((u.setCode g.mid s.sys.cpl d).jump g.lo) := by
  have keeps : (!d.conforming && d.dpl != s.sys.cpl) = false := by
    simpa [State.sameLevel, or_iff_not_imp_left] using same
  have outer : (!d.conforming && decide (d.dpl.toNat < s.sys.cpl.toNat)) = false := by
    rcases same with conforming | level
    · rw [conforming]; rfl
    · rw [level]; simp
  rw [State.throughGate, raiseIf_bind (by rw [Bool.and_assoc, keeps, Bool.and_false]), if_neg]
  · rfl
  · rw [Bool.and_assoc, outer, Bool.and_false]
    exact Bool.false_ne_true

section
variable (code : d.conforming = false) (inner : d.dpl.toNat < s.sys.cpl.toNat)
include code inner

theorem throughGate_jump (g : Desc) : Raises (s.throughGate false g d) (.gp (errSel g.mid)) := by
  refine raises_raiseIf ?_ _ _ _
  have level : d.dpl ≠ s.sys.cpl := fun e => Nat.lt_irrefl _ (e ▸ inner)
  simp [code, level]

theorem throughGate_inner (g : Desc) : s.throughGate true g d = s.gateInner g d := by
  rw [State.throughGate, raiseIf_bind (by rfl), if_pos (by simpa [code] using inner)]

end

/-! ## The stack of an inner level (60 R942) -/

theorem gateInner_short (short : s.sys.tr.limit.toNat < 4 * d.dpl.toNat + 5) (g : Desc) :
    Raises (s.gateInner g d) (.ts (errSel s.sys.tr.selector)) :=
  (((raises_raiseIf (decide_eq_true short) _ _ _).bind _).bind _)

section
variable (long : 4 * d.dpl.toNat + 5 ≤ s.sys.tr.limit.toNat)
  (pointer : s.sysRead16 (s.sys.tr.base.setWidth 32 + BitVec.ofNat 32 (2 + 4 * d.dpl.toNat)) = (nsp, s))
  (stack : s.sysRead16 (s.sys.tr.base.setWidth 32 + BitVec.ofNat 32 (4 + 4 * d.dpl.toNat)) = (nss, s))
include long pointer stack

theorem innerCheck_eq : s.innerCheck d.dpl =
    s.checkStack nss d.dpl (.ts (errSel nss)) (.ts (errSel nss)) (.ts (errSel nss)) >>= fun p =>
      .ok ((nss, nsp, p.1), p.2) := by
  rw [State.innerCheck, State.tssStack, raiseIf_bind (decide_eq_false (Nat.not_lt.mpr long)), pointer]
  dsimp only
  rw [stack]
  rfl

end

theorem checkStack_raises {e : Exc} (unnamed : s.isNull nss = true ∨ s.inTable nss = false)
    (bad : Exc) (level : BitVec 2) : Raises (s.checkStack nss level e e bad) e := by
  cases null : s.isNull nss with
  | true => exact raises_raiseIf null _ _ _
  | false =>
    rw [State.checkStack, raiseIf_bind null]
    exact (fetchDescOr_raises (unnamed.resolve_left (by simp [null])) _).bind _

/-- A read, a store or a load of another segment does not change what SS allows. -/
theorem accessFault_congr {r : SegReg} (cfg : t.cfg = s.cfg) (sys : t.sys.msw = s.sys.msw) (seg : t.seg r = s.seg r)
    (off : Word) (n : Nat) (write : Bool) : t.accessFault r off n write = s.accessFault r off n write := by
  have cls : t.cls = s.cls := congrArg Config.cpuClass cfg
  have mode : t.protectedMode = s.protectedMode := by simp only [State.protectedMode, cls, sys]
  simp only [State.accessFault, cls, mode, seg]

/-- The stack of the inner level is the one whose SS is loaded so. -/
theorem enterStack_accessFault (h : KeepsFlags s t [] []) (level : BitVec 2) (off : Word) (n : Nat) (write : Bool) :
    (t.enterStack nss nsp sd level).accessFault .ss off n write =
      (s.onStack nss nsp sd).accessFault .ss off n write := by
  have stored := (keepsFlags_setAccessed t nss sd).toTouches
  have msw : (t.setAccessed nss sd).sys.msw = s.sys.msw := congrArg SysRegs.msw (stored.sys.trans h.sys)
  exact accessFault_congr (t := t.enterStack nss nsp sd level) (s := s.onStack nss nsp sd) (stored.cfg.trans h.cfg) msw
    ((setStack_ss t nss sd).trans (seg_setSeg_self s .ss _).symm) off n write

theorem onNewStack_raises {α : Type} {x : Res α} {e : Exc} (h : Raises x e) (nss : Word) :
    Raises (onNewStack nss x) (.ss (errSel nss)) := by
  obtain ⟨u, rfl⟩ := h
  exact ⟨u, rfl⟩

theorem pushAll_raises_first {ws : List Word} {x : Word} {e : Exc}
    (fault : s.accessFault .ss (s.reg .sp - 2) 1 true = some e) : Raises (State.pushAll (x :: ws) s) e := by
  obtain ⟨u, raised, -⟩ := (follows_pushAll (x :: ws) s).atOnce (.ss, s.reg .sp - 2, 1, true) e
    (by rw [List.length_cons, pushes_succ]; rfl) fault
  exact ⟨u, raised⟩

/-- A stack of the inner level that does not take the first word. -/
theorem enterStack_full (h : KeepsFlags s t [] []) {e : Exc} {x : Word}
    (full : (s.onStack nss nsp sd).accessFault .ss (nsp - 2) 1 true = some e) (level : BitVec 2) (ws : List Word) :
    Raises (State.pushAll (x :: ws) (t.enterStack nss nsp sd level)) e := by
  refine pushAll_raises_first ?_
  have sp : (t.enterStack nss nsp sd level).reg .sp = nsp := reg_setReg_same (t.setStack nss sd) .sp nsp
  rw [sp, enterStack_accessFault h, full]

/-- The pushes of a call to an inner level from `s`, on the new stack of `u`, and the load of CS. -/
def State.innerPush (s u : State) (g d : Desc) (nss : Word) : Res State := do
  let v ← onNewStack nss (State.pushAll [(s.seg .ss).selector, s.reg .sp] u)
  let v ← State.gateParams (s.seg .ss) (s.reg .sp) nss g.count v
  let v ← onNewStack nss (State.pushAll [(s.seg .cs).selector, s.ip] v)
  return (v.setCode g.mid d.dpl d).jump g.lo

theorem gateInner_eq (checks : s.innerCheck d.dpl = .ok ((nss, nsp, sd), u)) (g : Desc) :
    s.gateInner g d = s.innerPush (u.enterStack nss nsp sd d.dpl) g d nss := by
  rw [State.gateInner, checks]
  rfl

theorem innerPush_full {e : Exc} (full : Raises (State.pushAll [(s.seg .ss).selector, s.reg .sp] u) e) :
    Raises (s.innerPush u g d nss) (.ss (errSel nss)) :=
  (onNewStack_raises full nss).bind _

/-- Settles O49: the checks of the gate, of its target and of the stack of an inner level in their order, then the
pushes. -/
theorem callGateFaults : Obligations.CallGateFaults := by
  rintro s _ i call off sel g d form pe can rfl named inside hg plain gate
  obtain ⟨run, read⟩ := farForm_callGate form pe can named inside hg plain gate
  have effPl : (s.afterFar i).effPl sel = max s.sys.cpl.toNat (rpl sel).toNat := read.effPl sel
  rw [← effPl]
  refine ⟨fun low => (callGate_low low).traps run, fun level => ⟨fun absent => (callGate_absent level absent).traps run,
    fun present => ?_⟩⟩
  rw [callGate_present level present] at run
  refine ⟨fun null => ((gateTarget_null ((read.isNull _).trans null)).bind _).traps run, fun named outside =>
    ((gateTarget_outside ((read.isNull _).trans named) ((read.inTable _).trans outside)).bind _).traps run,
    fun named inside hd plain => ?_⟩
  obtain ⟨t, target, -, same⟩ := gateTarget_read ((read.isNull _).trans named) ((read.inTable _).trans inside)
  rw [target, same plain, ← hd] at run
  rw [← read.sys]
  refine ⟨fun bad => ((checkTarget_bad bad).bind _).traps run, fun code privilege =>
    ⟨fun absent => ((checkTarget_absent code privilege absent).bind _).traps run, fun present beyond =>
      ((checkTarget_beyond code privilege present beyond).bind _).traps run,
      fun present within level calls e fault => ?_, fun present within conforming inner => ?_⟩⟩
  · have level : (s.afterFar i).sameLevel d := by rwa [State.sameLevel, read.sys]
    rw [checkTarget_ok code privilege present within, ok_bind, throughGate_sameLevel level] at run
    exact ((pushReturn_raises read calls fault).bind _).traps run
  · rw [checkTarget_ok code privilege present within, ok_bind] at run
    refine ⟨fun jumps => ?_, fun calls => ?_⟩
    · subst jumps
      exact (throughGate_jump conforming inner g).traps run
    subst calls
    rw [throughGate_inner conforming inner] at run
    refine ⟨fun short => (gateInner_short short g).traps run, fun nsp nss long pointer stack => ?_⟩
    have check {e : Exc} (raises : Raises ((s.afterFar i).checkStack nss d.dpl (.ts (errSel nss)) (.ts (errSel nss))
        (.ts (errSel nss))) e) : Traps i s e := by
      rw [State.gateInner, innerCheck_eq long pointer stack] at run
      exact ((raises.bind _).bind _).traps run
    refine ⟨fun unnamed => check (checkStack_raises ?_ _ _), fun sd named inside hsd => ?_⟩
    · exact unnamed.imp (read.isNull nss).trans (read.inTable nss).trans
    · have named := (read.isNull nss).trans named
      have inside := (read.inTable nss).trans inside
      obtain ⟨u, -, checks⟩ := checkStack_eq named inside d.dpl (.ts (errSel nss)) (.ts (errSel nss)) (.ts (errSel nss))
      rw [← hsd] at checks
      refine ⟨fun bad => ?_, fun writable privilege dpl => ⟨fun absent => ?_, fun present full => ?_⟩⟩
      · exact check (checks ▸ checked_bad _ _ u sd (bad.imp (by simp [·]) (by simp)))
      · exact check (checks ▸ checked_absent _ _ u (by rw [writable]; rfl) (by rw [privilege, dpl]; simp) absent)
      · obtain ⟨e, fault⟩ := Option.ne_none_iff_exists'.mp full
        obtain ⟨u, checks, kept, -⟩ := checkStack_done named inside hsd writable privilege dpl present (.ts (errSel nss))
          (.ts (errSel nss)) (.ts (errSel nss))
        have entered := (innerCheck_eq long pointer stack).trans (by rw [checks, ok_bind])
        rw [gateInner_eq entered] at run
        dsimp only at run
        exact (innerPush_full (g := g) (nss := nss) (enterStack_full kept fault d.dpl _)).traps run

end Sys2Proof.Machine
end

section
/-! Calls through a call gate (45_control_transfer.md R677): at the same level, and to an inner level. -/

namespace Sys2Proof.Machine

variable {s t u v w : State} {i : Instr} {call : Bool} {sel nss nsp : Word} {g d sd : Desc}

/-! ## A change of CPL alone (45 R677) -/

/-- The state at another level. -/
def State.atLevel (s : State) (level : BitVec 2) : State := { s with sys := { s.sys with cpl := level } }

theorem BusBlind.atLevel (level : BitVec 2) : BusBlind (State.atLevel · level) := by constructor <;> intros <;> rfl

section
variable (level : BitVec 2)

theorem accessFault_atLevel (s : State) (r : SegReg) (off : Word) (n : Nat) (write : Bool) :
    (s.atLevel level).accessFault r off n write = s.accessFault r off n write :=
  accessFault_congr (t := s.atLevel level) (s := s) rfl rfl rfl off n write

/-- A read that completes does so at any level. -/
theorem segRead16_atLevel {r : SegReg} {off x : Word} (h : s.segRead16 r off = .ok (x, t)) :
    (s.atLevel level).segRead16 r off = .ok (x, t.atLevel level) := by
  obtain ⟨_, check, read⟩ := bind_eq_ok.mp h
  have allowed := (accessFault_atLevel level s r off 1 false).trans (checkAccess_eq_ok.mp check)
  rw [segRead16_of_access allowed, (BusBlind.atLevel level).segGet16 s r off, Except.ok.inj read]

theorem push16_atLevel {x : Word} (h : s.push16 x = .ok t) : (s.atLevel level).push16 x = .ok (t.atLevel level) := by
  obtain ⟨u, write, rest⟩ := bind_eq_ok.mp h
  obtain ⟨_, check, put⟩ := bind_eq_ok.mp write
  cases Except.ok.inj put
  cases Except.ok.inj rest
  have allowed := (accessFault_atLevel level s .ss (s.regs.sp - 2) 1 true).trans (checkAccess_eq_ok.mp check)
  have write : (s.atLevel level).segWrite16 .ss (s.regs.sp - 2) x =
      .ok ((s.segPut16 .ss (s.regs.sp - 2) x).atLevel level) := by
    rw [segWrite16_of_access allowed, (BusBlind.atLevel level).segPut16]
  exact congrArg (· >>= fun t => .ok (t.setReg .sp (s.regs.sp - 2))) write

theorem pushAll_atLevel {ws : List Word} (h : State.pushAll ws s = .ok t) :
    State.pushAll ws (s.atLevel level) = .ok (t.atLevel level) := by
  induction ws generalizing s with
  | nil =>
    cases h
    rfl
  | cons x ws ih =>
    obtain ⟨u, push, rest⟩ := bind_eq_ok.mp h
    rw [State.pushAll, push16_atLevel level push, ok_bind, ih rest]

end

/-! ## The words copied (45 R677) -/

theorem onNewStack_ok {α : Type} (nss : Word) (x : α) : onNewStack nss (.ok x) = .ok x := rfl

/-- A word of the old stack, read at the inner level, which keeps the new one. -/
theorem readOldStack_atLevel {old : SegCache} {off x : Word} (level : BitVec 2)
    (h : (w.setSeg .ss old).segRead16 .ss off = .ok (x, w.setSeg .ss old)) :
    (w.atLevel level).readOldStack old off = .ok (x, w.atLevel level) := by
  have read := segRead16_atLevel level h
  have read : ((w.atLevel level).setSeg .ss old).segRead16 .ss off = .ok (x, (w.atLevel level).setSeg .ss old) := read
  rw [State.readOldStack, read]
  rfl

/-- The words of the old stack pushed at the inner level: as many as are left, behind those pushed before. -/
theorem gateParams_atLevel {old : SegCache} {osp : Word} {done pre params rest : List Word} (level : BitVec 2)
    (can : s.canPush (pre.length + params.length)) (len : pre.length + params.length < 0x8000)
    (words : ∀ k, (h : k < params.length) → ∀ w, State.pushAll (pre ++ params.take k) s = .ok w →
      (w.setSeg .ss old).segRead16 .ss (osp + BitVec.ofNat 16 (2 * (params.length - 1 - k))) =
        .ok (params[k], w.setSeg .ss old))
    (split : params = done ++ rest) (pushed : State.pushAll (pre ++ done) s = .ok w) :
    ∃ u, State.pushAll (pre ++ params) s = .ok u ∧
      State.gateParams old osp nss rest.length (w.atLevel level) = .ok (u.atLevel level) := by
  induction rest generalizing done w with
  | nil =>
    rw [List.append_nil] at split
    subst split
    exact ⟨w, pushed, rfl⟩
  | cons x rest ih =>
    have length : params.length = done.length + (rest.length + 1) := by rw [split, List.length_append, List.length_cons]
    have word : (w.setSeg .ss old).segRead16 .ss (osp + BitVec.ofNat 16 (2 * rest.length)) =
        .ok (x, w.setSeg .ss old) := by
      have word := words done.length (by omega) w (by rwa [split, List.take_left])
      have left : params.length - 1 - done.length = rest.length := by omega
      have this : params[done.length] = x := by simp [split]
      rwa [left, this] at word
    obtain ⟨w', all, -⟩ := (KeepsFlags.refl s).pushAll (ws := pre ++ done ++ [x])
      (by simp only [List.length_append, List.length_singleton]; omega)
      fun k hk => can k (by simp only [List.length_append, List.length_singleton] at hk; omega)
    have push : w.push16 x = .ok w' := by
      rw [pushAll_append, pushed, ok_bind] at all
      obtain ⟨_, push, same⟩ := bind_eq_ok.mp all
      cases Except.ok.inj same
      exact push
    obtain ⟨u, whole, params⟩ := ih (done := done ++ [x]) (by rw [split, List.append_assoc]; rfl)
      (by rwa [← List.append_assoc])
    refine ⟨u, whole, ?_⟩
    rw [List.length_cons, State.gateParams, readOldStack_atLevel level word, ok_bind]
    dsimp only
    rw [push16_atLevel level push, onNewStack_ok, ok_bind, params]

/-! ## A call to an inner level (45 R677, 60 R942) -/

theorem enterStack_accessed (acc : accAccessed sd.access = true) (s : State) (nss nsp : Word) (level : BitVec 2) :
    s.enterStack nss nsp sd level = (s.onStack nss nsp sd).atLevel level := by
  rw [State.enterStack, State.setStack, setAccessed_of_accessed acc]
  rfl

theorem count_lt (g : Desc) : g.count < 32 := (g.b4.extractLsb' 0 5).isLt

theorem innerCheck_done (h : s.innerStack d nss nsp sd) : s.innerCheck d.dpl = .ok ((nss, nsp, sd), s) := by
  obtain ⟨t, checks, -, same⟩ := checkStack_done h.named h.inTable h.segment h.writable h.rpl h.dpl h.present
    (.ts (errSel nss)) (.ts (errSel nss)) (.ts (errSel nss))
  rw [same h.plain] at checks
  rw [innerCheck_eq h.tss h.pointer h.selector, checks]
  rfl

/-- The pushes of a call to an inner level, in the order of R677. -/
theorem innerPush_done {params : List Word} (count : params.length = g.count) (can : u.canPush (4 + g.count))
    (words : ∀ k, (h : k < params.length) → ∀ w,
      State.pushAll ([(s.seg .ss).selector, s.reg .sp] ++ params.take k) u = .ok w →
      (w.setSeg .ss (s.seg .ss)).segRead16 .ss (s.reg .sp + BitVec.ofNat 16 (2 * (params.length - 1 - k))) =
        .ok (params[k], w.setSeg .ss (s.seg .ss))) :
    ∃ w, s.innerPush (u.atLevel d.dpl) g d nss = .ok (((w.atLevel d.dpl).setCode g.mid d.dpl d).jump g.lo) ∧
      Pushed u w [.sp] ([(s.seg .ss).selector, s.reg .sp] ++ params ++ [(s.seg .cs).selector, s.ip]) := by
  have few := count_lt g
  have some {ws : List Word} (h : ws.length ≤ 4 + g.count) : ∃ w, State.pushAll ws u = .ok w ∧ Pushed u w [.sp] ws :=
    (KeepsFlags.refl u).pushAll (by omega) fun k hk => can k (by omega)
  obtain ⟨w, old, -⟩ := some (ws := [(s.seg .ss).selector, s.reg .sp]) (by simp; omega)
  obtain ⟨x, copied, copies⟩ := gateParams_atLevel (nss := nss) (done := []) d.dpl
    (fun k hk => can k (by simp only [List.length_cons, List.length_nil] at hk; omega))
    (by simp only [List.length_cons, List.length_nil]; omega) words rfl old
  obtain ⟨y, all, pushed⟩ := some (ws := [(s.seg .ss).selector, s.reg .sp] ++ params ++ [(s.seg .cs).selector, s.ip])
    (by simp [count]; omega)
  rw [pushAll_append, copied, ok_bind] at all
  refine ⟨y, ?_, pushed⟩
  rw [State.innerPush, pushAll_atLevel d.dpl old, onNewStack_ok, ok_bind, ← count, copies, ok_bind,
    pushAll_atLevel d.dpl all, onNewStack_ok, ok_bind]
  rfl

/-- The new stack, and the words pushed on it. -/
theorem Pushed.carries_onStack {ws : List Word} (h : Pushed (v.onStack nss nsp sd) w [.sp] ws)
    (read : KeepsFlags s v [] []) :
    Carries s w [.sp] ((v.onStack nss nsp sd).pushedAddrs ws.length) := by
  have stack : Carries s (v.onStack nss nsp sd) [.sp] [] :=
    ((read.carries.mono (List.nil_subset _) (List.Subset.refl _)).setSeg (.inr rfl) _).setReg
      (List.mem_singleton_self _) _
  exact (stack.trans h.carries).mono (by decide) (List.Subset.refl _)

/-- Settles O48: the pushes on the stack of the inner level, and a transfer at the same level. -/
theorem callGates : Obligations.CallGates := by
  constructor
  · rintro s _ _ i off sel nsp nss g d sd params form pe can rfl named inside hg plain gate level present named' inside' hd
      plain' code present' within acc inner rfl count push words
    obtain ⟨run, read⟩ := farForm_callGate form pe can named inside hg plain gate
    obtain ⟨t, target, -, state⟩ := gateTarget_read ((read.isNull _).trans named') ((read.inTable _).trans inside')
    obtain rfl := state plain'
    obtain ⟨w, pushes, pushed⟩ := innerPush_done (s := s.afterFar i) (nss := nss) (d := d) count push
      (by rw [read.seg, read.reg]; exact words)
    rw [callGate_present ((read.effPl sel).trans_le level) present, target, ← hd,
      checkTarget_ok code (by exact Nat.le_of_lt inner.inner) present' within, ok_bind,
      throughGate_inner inner.code inner.inner, gateInner_eq (innerCheck_done inner), enterStack_accessed inner.accessed,
      pushes] at run
    rw [read.seg, read.seg, read.reg, read.ip] at pushed
    have enters := (((pushed.carries_onStack read).setCpl d.dpl).setCode_accessed acc g.mid d.dpl).enters g.lo
    have length : ([(s.seg .ss).selector, s.reg .sp] ++ params ++ [(s.seg .cs).selector, s.ip]).length =
        4 + g.count := by
      simp [count]; omega
    refine ⟨_, run, ?_, ?_, enters.ss.trans ?_, enters.cs.trans (setCode_cs (w.atLevel d.dpl) g.mid d.dpl d), enters.cpl,
      enters.flags, enters.live, enters.events, length ▸ enters.frame⟩
    · have mem : ((w.atLevel d.dpl).setAccessed g.mid d).mem = w.mem := by rw [setAccessed_of_accessed acc]; rfl
      exact holdsPushed_of_mem pushed.holds ((State.latchTrap_mem ..).trans mem)
    · have sp := pushed.sp
      rw [length, show 2 * (4 + g.count) = 8 + 2 * g.count by omega] at sp
      have regs := setCode_regs (w.atLevel d.dpl) g.mid d.dpl d
      exact (latchTrap_reg ..).trans ((congrArg (Regs.get · .sp) regs).trans sp)
    · have loaded : ((s.afterFar i).onStack nss nsp sd).seg .ss = sd.cache nss := seg_setSeg_self (s.afterFar i) .ss _
      exact (setCode_ss (w.atLevel d.dpl) g.mid d.dpl d).trans ((pushed.seg .ss).trans loaded)
  · rintro s _ i call off sel g d form pe can rfl named inside hg plain gate level present named' inside' hd code privilege
      same present' within push
    obtain ⟨run, read⟩ := farForm_callGate form pe can named inside hg plain gate
    obtain ⟨t, target, kept, -⟩ := gateTarget_read ((read.isNull _).trans named') ((read.inTable _).trans inside')
    have read' := read.read kept
    rw [callGate_present ((read.effPl sel).trans_le level) present, target, ← hd,
      checkTarget_ok code (by rw [read'.sys]; exact privilege) present' within, ok_bind,
      throughGate_sameLevel (by rwa [State.sameLevel, read'.sys])] at run
    exact enterCode_done read' push run

end Sys2Proof.Machine
end

section
/-! Transfers that switch tasks (45_control_transfer.md R678; 60_exceptions.md R960, R962). -/

namespace Sys2Proof.Machine

variable {s t u v w : State} {i : Instr} {call : Bool} {sel link : Word} {g d : Desc}

/-- An instruction ends as its body does. -/
theorem exec_ends {x : Res State} (run : exec i s = s.finish x) :
    (∀ u, x = .ok u → ∃ t, exec i s = .next t ∧ t.regs = u.regs ∧ t.segs = u.segs ∧ t.sys = u.sys ∧ t.ip = u.ip ∧
      t.live = u.live ∧ t.flags = u.flags ∧ t.mem = u.mem) ∧
    (∀ r, x = .error r → exec i s = .next (s.deliverRaise r)) :=
  ⟨fun _ done => exec_keeps run done, fun _ raised => by rw [run, raised]; rfl⟩

/-- A selector of a TSS that names no entry of the GDT. -/
theorem gdtEntry_raises {α : Type} (bad : s.isNull sel = true ∨ sel.getLsbD 2 = true ∨ s.inTable sel = false) (e : Exc)
    (f : Desc × State → Res α) :
    Raises (raiseIf (s.isNull sel || sel.getLsbD 2) s e >>= fun _ => s.fetchDescOr sel e >>= f) e := by
  by_cases unnamed : (s.isNull sel || sel.getLsbD 2) = true
  · exact raises_raiseIf unnamed _ _ _
  · rw [Bool.not_eq_true] at unnamed
    rw [raiseIf_bind unnamed]
    rw [Bool.or_eq_false_iff] at unnamed
    exact (fetchDescOr_raises ((bad.resolve_left (ne_true_of_eq_false unnamed.1)).resolve_left
      (ne_true_of_eq_false unnamed.2)) _).bind _

/-! ## A TSS (R678) -/

theorem taskDirect_bad (bad : d.dpl.toNat < s.effPl sel ∨ sel.getLsbD 2 = true) :
    Raises (s.taskDirect call sel d) (.gp (errSel sel)) :=
  raises_raiseIf (by simpa using bad) _ _ _

section
variable (level : s.effPl sel ≤ d.dpl.toNat) (table : sel.getLsbD 2 = false)
include level table

theorem taskDirect_allowed : s.taskDirect call sel d =
    raiseIf (!d.present) s (.np (errSel sel)) >>= fun _ => s.taskSwitch sel d (switchKind call) := by
  rw [State.taskDirect, raiseIf_bind (by rw [table, Bool.or_false]; exact decide_eq_false (Nat.not_lt.mpr level))]

theorem taskDirect_absent (absent : d.present = false) : Raises (s.taskDirect call sel d) (.np (errSel sel)) := by
  rw [taskDirect_allowed level table]
  exact raises_raiseIf (by rw [absent]; rfl) _ _ _

theorem taskDirect_present (present : d.present = true) :
    s.taskDirect call sel d = s.taskSwitch sel d (switchKind call) := by
  rw [taskDirect_allowed level table, raiseIf_bind (by rw [present]; rfl)]

end

/-! ## A task gate (R678) -/

theorem taskGate_low (low : g.dpl.toNat < s.effPl sel) : Raises (s.taskGate call sel g) (.gp (errSel sel)) :=
  raises_raiseIf (decide_eq_true low) _ _ _

/-- The TSS of a task gate, checked and switched to. -/
def State.throughTaskGate (s : State) (call : Bool) (g d : Desc) : Res State := do
  raiseIf (!d.isSystem 1) s (.gp (errSel g.mid))
  raiseIf (!d.present) s (.np (errSel g.mid))
  s.taskSwitch g.mid d (switchKind call)

section
variable (level : s.effPl sel ≤ g.dpl.toNat)
include level

theorem taskGate_absent (absent : g.present = false) : Raises (s.taskGate call sel g) (.np (errSel sel)) := by
  rw [State.taskGate, raiseIf_bind (decide_eq_false (Nat.not_lt.mpr level))]
  exact raises_raiseIf (by rw [absent]; rfl) _ _ _

variable (present : g.present = true)
include present

theorem taskGate_unnamed (bad : s.isNull g.mid = true ∨ g.mid.getLsbD 2 = true ∨ s.inTable g.mid = false) :
    Raises (s.taskGate call sel g) (.gp (errSel g.mid)) := by
  rw [State.taskGate, raiseIf_bind (decide_eq_false (Nat.not_lt.mpr level)), raiseIf_bind (by rw [present]; rfl)]
  exact gdtEntry_raises bad _ _

theorem taskGate_named (named : s.isNull g.mid = false) (table : g.mid.getLsbD 2 = false)
    (inside : s.inTable g.mid = true) :
    ∃ t, s.taskGate call sel g = t.throughTaskGate call g (s.descOf g.mid) ∧ (s.plainSel g.mid → t = s) := by
  obtain ⟨t, fetched, -, same⟩ := fetchDescOr_read inside (.gp (errSel g.mid))
  refine ⟨t, ?_, same⟩
  rw [State.taskGate, raiseIf_bind (decide_eq_false (Nat.not_lt.mpr level)), raiseIf_bind (by rw [present]; rfl),
    raiseIf_bind (by rw [named, table]; rfl), State.fetchDesc, fetched]
  rfl

end

theorem throughTaskGate_other (other : d.isSystem 1 = false) : Raises (s.throughTaskGate call g d) (.gp (errSel g.mid)) :=
  raises_raiseIf (by rw [other]; rfl) _ _ _

theorem throughTaskGate_absent (tss : d.isSystem 1 = true) (absent : d.present = false) :
    Raises (s.throughTaskGate call g d) (.np (errSel g.mid)) := by
  rw [State.throughTaskGate, raiseIf_bind (by rw [tss]; rfl)]
  exact raises_raiseIf (by rw [absent]; rfl) _ _ _

theorem throughTaskGate_present (tss : d.isSystem 1 = true) (present : d.present = true) :
    s.throughTaskGate call g d = s.taskSwitch g.mid d (switchKind call) := by
  rw [State.throughTaskGate, raiseIf_bind (by rw [tss]; rfl), raiseIf_bind (by rw [present]; rfl)]

/-! ## The task of the back link (R962) -/

theorem iret_taskReturn (pe : s.protectedMode = true) (h : s.cfg.iretNt = .current ∧ s.nt = true ∧ v = s ∨
      s.cfg.iretNt = .popped ∧ v = s.setReg .sp (s.reg .sp + 6) ∧ ∃ off sel f,
        s.segRead16 .ss (s.reg .sp) = .ok (off, s) ∧ s.segRead16 .ss (s.reg .sp + 2) = .ok (sel, s) ∧
        s.segRead16 .ss (s.reg .sp + 4) = .ok (f, s) ∧ f.getLsbD 14 = true) :
    exec .iret s = s.finish v.taskReturn ∧ KeepsFlags s v [.sp] [] := by
  have start : KeepsFlags s s [.sp] [] := (KeepsFlags.refl s).mono (List.nil_subset _) (List.Subset.refl _)
  rcases h with ⟨source, nt, rfl⟩ | ⟨source, rfl, off, sel, f, offset, selector, word, set⟩
  · refine ⟨congrArg v.finish ?_, start⟩
    rw [State.interruptReturn, if_pos pe, State.iretProtected, source, nt]
    rfl
  · refine ⟨congrArg s.finish ?_, start.setReg (List.mem_singleton_self _) _⟩
    have offset : s.segRead16 .ss s.regs.sp = .ok (off, s) := offset
    have selector : s.segRead16 .ss (s.regs.sp + 2) = .ok (sel, s) := selector
    have word : s.segRead16 .ss (s.regs.sp + 4) = .ok (f, s) := word
    rw [State.interruptReturn, if_pos pe, State.iretProtected, source, if_neg (by simp), offset, ok_bind]
    dsimp only
    rw [selector, ok_bind]
    dsimp only
    rw [word, ok_bind]
    dsimp only
    rw [source, show f.getLsbD ntBit = true from set]
    rfl

/-- The task of the back link, checked and switched to. -/
def State.returnToTask (s : State) (link : Word) (d : Desc) : Res State := do
  raiseIf (!d.isSystem 3) s (.ts (errSel link))
  raiseIf (!d.present) s (.np (errSel link))
  s.taskSwitch link d .iret

section
variable (back : s.sysRead16 (s.sys.tr.base.setWidth 32) = (link, s))
include back

theorem taskReturn_unnamed (bad : s.isNull link = true ∨ link.getLsbD 2 = true ∨ s.inTable link = false) :
    Raises s.taskReturn (.ts (errSel link)) := by
  rw [State.taskReturn, back]
  exact gdtEntry_raises bad _ _

theorem taskReturn_named (named : s.isNull link = false) (table : link.getLsbD 2 = false)
    (inside : s.inTable link = true) (plain : s.plainSel link) :
    s.taskReturn = s.returnToTask link (s.descOf link) := by
  obtain ⟨t, fetched, -, same⟩ := fetchDescOr_read inside (.ts (errSel link))
  rw [same plain] at fetched
  rw [State.taskReturn, back]
  dsimp only
  rw [raiseIf_bind (by rw [named, table]; rfl), fetched]
  rfl

end

theorem returnToTask_other (other : d.isSystem 3 = false) : Raises (s.returnToTask link d) (.ts (errSel link)) :=
  raises_raiseIf (by rw [other]; rfl) _ _ _

theorem returnToTask_absent (busy : d.isSystem 3 = true) (absent : d.present = false) :
    Raises (s.returnToTask link d) (.np (errSel link)) := by
  rw [State.returnToTask, raiseIf_bind (by rw [busy]; rfl)]
  exact raises_raiseIf (by rw [absent]; rfl) _ _ _

theorem returnToTask_present (busy : d.isSystem 3 = true) (present : d.present = true) :
    s.returnToTask link d = s.taskSwitch link d .iret := by
  rw [State.returnToTask, raiseIf_bind (by rw [busy]; rfl), raiseIf_bind (by rw [present]; rfl)]

/-- Settles O52: the checks of a TSS, of a task gate and of the back link in their order, and the switches. -/
theorem taskTransfers : Obligations.TaskTransfers := by
  refine ⟨?_, ?_, ?_, ?_⟩
  · rintro s _ i call off sel d form pe can rfl named inside hd plain table tss level present
    obtain ⟨w, run, read, same⟩ := farForm_selected form pe can named inside
    obtain rfl := same plain
    rw [← hd, farSelected_tss tss, taskDirect_present ((read.effPl sel).trans_le level) table present] at run
    exact exec_ends run
  · rintro s _ i call off sel g d form pe can rfl named inside hg plain gate level present named' table inside' hd plain'
      tss present'
    obtain ⟨w, run, read, same⟩ := farForm_selected form pe can named inside
    obtain rfl := same plain
    obtain ⟨t, through, same⟩ := taskGate_named (call := call) ((read.effPl sel).trans_le level) present
      ((read.isNull _).trans named') table ((read.inTable _).trans inside')
    rw [← hg, farSelected_taskGate gate, through, same plain', ← hd, throughTaskGate_present tss present'] at run
    exact exec_ends run
  · rintro s _ i call off sel g d form pe can rfl named inside hg
    obtain ⟨w, run, read, same⟩ := farForm_selected form pe can named inside
    rw [← hg] at run
    have effPl : w.effPl sel = max s.sys.cpl.toNat (rpl sel).toNat := read.effPl sel
    rw [← effPl]
    have direct {e : Exc} (tss : g.isSystem 1 = true) (raises : Raises (w.taskDirect call sel g) e) : Traps i s e := by
      rw [farSelected_tss tss] at run
      exact raises.traps run
    have through {e : Exc} (gate : g.isSystem 5 = true) (raises : Raises (w.taskGate call sel g) e) : Traps i s e := by
      rw [farSelected_taskGate gate] at run
      exact raises.traps run
    refine ⟨fun types low => types.elim (fun tss => direct tss (taskDirect_bad (.inl low)))
      fun gate => through gate (taskGate_low low), fun tss table => direct tss (taskDirect_bad (.inr table)), fun level =>
      ⟨fun tss table absent => direct tss (taskDirect_absent level table absent), fun gate =>
        ⟨fun absent => through gate (taskGate_absent level absent), fun present => ⟨fun bad => ?_,
          fun named table inside plain hd => ?_⟩⟩⟩⟩
    · refine through gate (taskGate_unnamed level present ?_)
      rwa [read.isNull, read.inTable]
    · obtain rfl := same plain
      obtain ⟨t, task, -⟩ := taskGate_named (call := call) level present ((read.isNull _).trans named) table
        ((read.inTable _).trans inside)
      rw [← hd] at task
      exact ⟨fun other => through gate (task ▸ throughTaskGate_other other),
        fun tss absent => through gate (task ▸ throughTaskGate_absent tss absent)⟩
  · intro s v link d pe form back
    obtain ⟨run, read⟩ := iret_taskReturn pe form
    rw [← read.sys] at back
    refine ⟨fun bad => (taskReturn_unnamed back ?_).traps run, fun named table inside hd plain => ?_⟩
    · rwa [read.isNull, read.inTable]
    · rw [taskReturn_named back ((read.isNull _).trans named) table ((read.inTable _).trans inside) plain, ← hd] at run
      refine ⟨fun other => (returnToTask_other other).traps run, fun busy absent =>
        (returnToTask_absent busy absent).traps run, fun busy present => ?_⟩
      rw [returnToTask_present busy present] at run
      exact exec_ends run

end Sys2Proof.Machine
end

section
/-! Flag and processor control (46_processor_control.md R750 to R762; 41_data_transfer.md R344, R345): an instruction of
this family completes having written flags or HALT, or raises one check's exception. -/

namespace Sys2Proof.Machine

variable {s u : State} {x : Res State}

/-! ## The arithmetic flags (R750 to R752, 41 R344, R345) -/

/-- An instruction that only sets the arithmetic flags. -/
theorem keepSizeSetFlags_done (s : State) (f : Flags) :
    ∃ t, s.finish (.ok (s.keepSizeSetFlags f)) = .next t ∧ t.flags = f ∧ Frame s t [] [] :=
  ⟨_, rfl, (latchTrap_flags ..).trans (setFlags_flags ..), (touches_setTriple s _).frame⟩

theorem byte_eq_bits (b : Byte) :
    b = BitVec.ofBool (b.getLsbD 7) ++ BitVec.ofBool (b.getLsbD 6) ++ BitVec.ofBool (b.getLsbD 5) ++
      BitVec.ofBool (b.getLsbD 4) ++ BitVec.ofBool (b.getLsbD 3) ++ BitVec.ofBool (b.getLsbD 2) ++
      BitVec.ofBool (b.getLsbD 1) ++ BitVec.ofBool (b.getLsbD 0) := by
  revert b
  decide +kernel

theorem loByte_getLsbD (w : Word) {k : Nat} (h : k < 8) : (loByte w).getLsbD k = w.getLsbD k := by
  rw [loByte, BitVec.getLsbD_extractLsb', decide_eq_true h, Bool.true_and, Nat.zero_add]

/-- The low byte of PS holds five flags, a set bit 1 and clear bits 3 and 5 (10 R27). -/
theorem loByte_getPS (s : State) : loByte s.getPS =
    BitVec.ofBool s.flags.sf ++ BitVec.ofBool s.flags.zf ++ 0#1 ++ BitVec.ofBool s.flags.af ++ 0#1 ++
      BitVec.ofBool s.flags.pf ++ 1#1 ++ BitVec.ofBool s.flags.cf := by
  obtain ⟨b1, b3, b5, -⟩ := getPS_low s
  rw [byte_eq_bits (loByte s.getPS)]
  simp only [loByte_getLsbD, Nat.reduceLT, b1, b3, b5, ← ofWord_getPS s]
  rfl

theorem lahf_done (s : State) : ∃ t, exec .lahf s = .next t ∧ t.reg8 .ah =
      (BitVec.ofBool s.flags.sf ++ BitVec.ofBool s.flags.zf ++ 0#1 ++ BitVec.ofBool s.flags.af ++ 0#1 ++
        BitVec.ofBool s.flags.pf ++ 1#1 ++ BitVec.ofBool s.flags.cf : BitVec 8) ∧
    t.flags = s.flags ∧ Frame8 s t [.ah] [] := by
  obtain ⟨ah, frame⟩ := setReg8_done (.refl (s.setReg8 .ah (loByte s.getPS)))
  exact ⟨_, rfl, ah.trans (loByte_getPS s), latchTrap_flags .., frame⟩

/-- The five flags that SAHF takes stand at the same places in a byte as in PS. -/
theorem ofWord_zext16 (b : Byte) : Flags.ofWord (zext16 b) =
    { cf := b.getLsbD 0, pf := b.getLsbD 2, af := b.getLsbD 4, zf := b.getLsbD 6, sf := b.getLsbD 7, of := false } := by
  simp [Flags.ofWord, zext16]

theorem sahf_done (s : State) : ∃ t, exec .sahf s = .next t ∧ t.flags =
      { cf := (s.reg8 .ah).getLsbD 0, pf := (s.reg8 .ah).getLsbD 2, af := (s.reg8 .ah).getLsbD 4
        zf := (s.reg8 .ah).getLsbD 6, sf := (s.reg8 .ah).getLsbD 7, of := s.flags.of } ∧
    Frame s t [] [] := by
  obtain ⟨t, run, flags, frame⟩ := keepSizeSetFlags_done s { Flags.ofWord (zext16 (s.reg8 .ah)) with of := s.flags.of }
  rw [ofWord_zext16] at flags
  exact ⟨t, run, flags, frame⟩

/-! ## The direct bits (R753 to R756) -/

theorem getLsbD_setBit_eq (w : Word) {k : Nat} (lt : k < 16) (b : Bool) (j : Nat) :
    (setBit w k b).getLsbD j = if j = k then b else w.getLsbD j := by
  have at_bit : (BitVec.twoPow 16 k).getLsbD j = decide (j = k) := by
    rw [BitVec.getLsbD_twoPow, decide_eq_true lt, Bool.true_and, decide_eq_decide]
    exact eq_comm
  have mask : ((1 <<< k : Nat) : Word) = BitVec.twoPow 16 k :=
    BitVec.eq_of_toNat_eq (by rw [BitVec.toNat_twoPow, Nat.one_shiftLeft]; rfl)
  unfold setBit
  rw [mask]
  cases b
  · simp only [Bool.false_eq_true, if_false, BitVec.getLsbD_and, BitVec.getLsbD_not, at_bit]
    by_cases eq : j = k
    · simp [eq]
    · simpa [eq] using BitVec.lt_of_getLsbD
  · simp only [if_true, BitVec.getLsbD_or, at_bit]
    by_cases eq : j = k <;> simp [eq]

/-- The live word after an instruction that wrote one direct bit. -/
theorem latchTrap_setBit {k : Nat} {b : Bool} (lt : k < 16) (wrote : u.live = setBit s.live k b) :
    (s.latchTrap u).live.getLsbD k = b ∧ ∀ j, j ≠ k → (s.latchTrap u).live.getLsbD j = s.live.getLsbD j := by
  rw [State.latchTrap_live, wrote]
  exact ⟨(getLsbD_setBit_eq _ lt b k).trans (if_pos rfl), fun j ne => (getLsbD_setBit_eq _ lt b j).trans (if_neg ne)⟩

theorem latchTrap_withLive (s t : State) (w : Word) :
    { s.latchTrap t with live := w } = s.latchTrap { t with live := w } := by
  unfold State.latchTrap
  split <;> rfl

theorem latchTrap_withLiveNointr (s t : State) (w : Word) (b : Bool) :
    { s.latchTrap t with live := w, nointr := b } = s.latchTrap { t with live := w, nointr := b } := by
  unfold State.latchTrap
  split <;> rfl

/-- An instruction that only writes one direct bit. -/
theorem setDirect_done {k : Nat} {b : Bool} (lt : k < 16) (body : x = .ok (s.setDirect k b)) :
    ∃ t, s.finish x = .next t ∧ t.live.getLsbD k = b ∧
      (∀ j, j ≠ k → t.live.getLsbD j = s.live.getLsbD j) ∧ t.flags = s.flags ∧
      Frame s { t with live := s.live } [] [] := by
  subst body
  obtain ⟨bit, others⟩ := latchTrap_setBit (u := s.setDirect k b) lt rfl
  refine ⟨_, rfl, bit, others, latchTrap_flags .., ?_⟩
  rw [latchTrap_withLive]
  exact (Touches.refl s).frame

theorem ioplDenies_iff : s.ioplDenies = true ↔ s.protectedMode = true ∧ s.iopl.toNat < s.sys.cpl.toNat := by
  rw [State.ioplDenies, Bool.and_eq_true, decide_eq_true_eq]

theorem cli_done (allowed : s.ioplDenies = false) : ∃ t, exec .cli s = .next t ∧ t.ifl = false ∧
    (∀ k, k ≠ 9 → t.live.getLsbD k = s.live.getLsbD k) ∧ t.flags = s.flags ∧
    Frame s { t with live := s.live } [] [] :=
  setDirect_done (x := s.clearIf) (k := ifBit) (by decide) (raiseIf_bind allowed ..)

theorem sti_done (allowed : s.ioplDenies = false) : ∃ t, exec .sti s = .next t ∧ t.ifl = true ∧ t.nointr = true ∧
    (∀ k, k ≠ 9 → t.live.getLsbD k = s.live.getLsbD k) ∧ t.flags = s.flags ∧
    Frame s { t with live := s.live, nointr := s.nointr } [] [] := by
  have body : s.setIf = .ok { s.setDirect ifBit true with nointr := true } := raiseIf_bind allowed ..
  obtain ⟨bit, others⟩ :=
    latchTrap_setBit (s := s) (u := { s.setDirect ifBit true with nointr := true }) (k := ifBit) (b := true) (by decide) rfl
  refine ⟨_, congrArg s.finish body, bit, State.latchTrap_nointr .., others, latchTrap_flags .., ?_⟩
  rw [latchTrap_withLiveNointr]
  exact (Touches.refl s).frame

/-- Settles O29: one flag written, or IF behind the check of IOPL. -/
theorem flagInstructions : Obligations.FlagInstructions := by
  refine ⟨⟨?_, ?_⟩, fun s => ⟨fun allowed => ?_, fun protect denied => ?_⟩, fun s => ⟨lahf_done s, sahf_done s⟩⟩
  · rintro s i c (⟨rfl, rfl⟩ | ⟨rfl, rfl⟩ | ⟨rfl, rfl⟩) <;> exact keepSizeSetFlags_done s _
  · rintro s i d (⟨rfl, rfl⟩ | ⟨rfl, rfl⟩) <;> exact setDirect_done (k := dfBit) (by decide) rfl
  · rw [← ioplDenies_iff, Bool.not_eq_true] at allowed
    exact ⟨cli_done allowed, sti_done allowed⟩
  · have denies := ioplDenies_iff.mpr ⟨protect, denied⟩
    exact ⟨(raises_raiseIf denies ..).traps rfl, (raises_raiseIf denies ..).traps rfl⟩

/-! ## NOP, HLT, ESC and WAIT (R757 to R761) -/

/-- An instruction that keeps registers, memory and flags, and calls nothing. -/
theorem KeepsFlags.done (h : KeepsFlags s u [] []) (host : u.host = s.host) (body : x = .ok u) :
    ∃ t, s.finish x = .next t ∧ t.flags = s.flags ∧ t.host = s.host ∧ Frame s t [] [] :=
  ⟨_, congrArg s.finish body, (latchTrap_flags ..).trans h.flags, (State.latchTrap_host ..).trans host, h.frame⟩

theorem latchTrap_halt (s t : State) : (s.latchTrap t).intFlags.halt = t.intFlags.halt := by
  unfold State.latchTrap
  split <;> rfl

theorem latchTrap_withHalt (s t : State) (b : Bool) :
    { s.latchTrap t with intFlags := { (s.latchTrap t).intFlags with halt := b } } =
      s.latchTrap { t with intFlags := { t.intFlags with halt := b } } := by
  unfold State.latchTrap
  split <;> rfl

theorem hlt_done (allowed : s.protectedMode = false ∨ s.sys.cpl = 0) :
    ∃ t, exec .hlt s = .next t ∧ t.intFlags.halt = true ∧ t.flags = s.flags ∧
      Frame s { t with intFlags := { t.intFlags with halt := s.intFlags.halt } } [] [] := by
  have body : s.halt = .ok { s with intFlags := { s.intFlags with halt := true } } :=
    raiseIf_bind (by simpa [or_iff_not_imp_left] using allowed) ..
  refine ⟨_, congrArg s.finish body, latchTrap_halt .., latchTrap_flags .., ?_⟩
  rw [latchTrap_withHalt]
  exact (Touches.refl s).frame

theorem hlt_traps (protect : s.protectedMode = true) (level : s.sys.cpl ≠ 0) : Traps .hlt s (.gp 0) :=
  (raises_raiseIf (by simpa [protect] using level) ..).traps rfl

theorem escTraps_iff :
    s.escTraps = true ↔ s.cls = .c286 ∧ (s.sys.msw.getLsbD 2 = true ∨ s.sys.msw.getLsbD 3 = true) := by
  rw [State.escTraps, Bool.and_eq_true, beq_iff_eq, Bool.or_eq_true]
  rfl

theorem waitTraps_iff :
    s.waitTraps = true ↔ s.cls = .c286 ∧ s.sys.msw.getLsbD 1 = true ∧ s.sys.msw.getLsbD 3 = true := by
  rw [State.waitTraps, Bool.and_eq_true, beq_iff_eq, Bool.and_eq_true]
  rfl

theorem esc_done (n k : BitVec 3) (e : RM Reg16) (quiet : s.escTraps = false) :
    ∃ t, exec (.esc n k e) s = .next t ∧ t.flags = s.flags ∧ t.host = s.host ∧ Frame s t [] [] := by
  cases e with
  | reg r => exact (KeepsFlags.refl s).done rfl (raiseIf_bind quiet ..)
  | mem m => exact (KeepsFlags.mk (touches_noteEa s (s.ea m)) rfl).done rfl (raiseIf_bind quiet ..)

theorem wait_done (quiet : s.waitTraps = false) :
    ∃ t, exec .wait s = .next t ∧ t.flags = s.flags ∧ t.host = s.host ∧ Frame s t [] [] :=
  (KeepsFlags.refl s).done rfl (raiseIf_bind quiet ..)

/-! ## The prefix bytes (R759, R762, 44 R601) -/

theorem overrideForm_exec {i : Instr} {r : SegReg} (form : overrideForm i = some r) :
    exec i s = .next (s.withOverride r) := by
  unfold overrideForm at form
  split at form <;> cases form <;> rfl

/-- Settles O31: what each completes with, the checks that raise instead, and the prefixes' records. -/
theorem processorControl : Obligations.ProcessorControl := by
  refine ⟨fun s n k e => ⟨(KeepsFlags.refl s).done rfl rfl, hlt_done, hlt_traps, fun quiet => ?_, fun cls traps => ?_,
    fun quiet => ?_, fun cls mp ts => ?_⟩, fun _ _ _ => overrideForm_exec, ?_, ?_⟩
  · rw [← escTraps_iff, Bool.not_eq_true] at quiet
    exact esc_done n k e quiet
  · exact (raises_raiseIf (escTraps_iff.mpr ⟨cls, traps⟩) ..).traps rfl
  · rw [← waitTraps_iff, Bool.not_eq_true] at quiet
    exact wait_done quiet
  · exact (raises_raiseIf (waitTraps_iff.mpr ⟨cls, mp, ts⟩) ..).traps rfl
  · rintro s i k (⟨rfl, rfl⟩ | ⟨rfl, rfl⟩) <;> rfl
  · rintro s i (rfl | rfl) <;> rfl

end Sys2Proof.Machine
end

section
/-! System instructions that store a system register (47_protected_mode.md R800 to R802, R810, R811): the checks of mode
and privilege, and the image of a table register, which is checked whole before its parts are stored. -/

namespace Sys2Proof.Machine

variable {β : Type} {s t u : State} {r : SegReg} {off : Word} {dest : List Reg16} {stored : List Nat}

/-! ## The checks of mode and privilege (R800) -/

theorem checkProtected_raises (real : s.protectedMode = false) (f : Unit → Res β) :
    Raises (s.checkProtected >>= f) .ud := raises_raiseIf (by rw [real]; rfl) s _ f

theorem checkProtected_bind (pe : s.protectedMode = true) (f : Unit → Res β) : s.checkProtected >>= f = f () :=
  raiseIf_bind (by rw [pe]; rfl) s _ f

theorem checkCpl0_raises (pe : s.protectedMode = true) (level : s.sys.cpl ≠ 0) (f : Unit → Res β) :
    Raises (s.checkCpl0 >>= f) (.gp 0) := raises_raiseIf (by simpa [pe] using level) s _ f

theorem checkCpl0_bind (allowed : s.protectedMode = false ∨ s.sys.cpl = 0) (f : Unit → Res β) :
    s.checkCpl0 >>= f = f () := raiseIf_bind (by simpa [or_iff_not_imp_left] using allowed) s _ f

/-- Both, in this order: those of LLDT and LTR. -/
theorem checkProtected_checkCpl0_raises (pe : s.protectedMode = true) (level : s.sys.cpl ≠ 0) (f : Unit → Res β) :
    Raises (s.checkProtected >>= fun _ => s.checkCpl0 >>= f) (.gp 0) := by
  rw [checkProtected_bind pe]
  exact checkCpl0_raises pe level f

/-! ## Selectors (R801, R802) -/

/-- An instruction that only stores a word in its operand. -/
theorem writeEw_done {e : RM Reg16} {x : Res State} {v : Word} (can : s.canWriteEw e) (body : x = s.writeEw e v) :
    ∃ t, s.finish x = .next t ∧ s.holdsEw t v e ∧ t.flags = s.flags ∧ Frame s t (destEw e) (s.storedEw e) := by
  obtain ⟨t, run, triple, holds, frame⟩ := writeEw_stored v (.refl s) can
  exact ⟨_, congrArg s.finish (body.trans run), holds, (latchTrap_flags ..).trans (flags_of_triple triple), frame⟩

/-! ## Parts of a checked access (20 R131) -/

theorem outside_part {c : SegCache} {n j k : Nat} (h : c.outside off n = false) (le : k + j ≤ n) :
    c.outside (off + BitVec.ofNat 16 k) j = false := by
  have wraps : (off + BitVec.ofNat 16 k).toNat = (off.toNat + k) % 65536 := by simp
  rw [← Bool.not_eq_true, outside_iff] at h ⊢
  rw [wraps]
  split at h <;> rename_i down
  · rw [if_pos down]
    omega
  · rw [if_neg down]
    omega

/-- What lies in bytes that may be accessed may be accessed. -/
theorem accessFault_part {n j k : Nat} {w : Bool} (can : s.accessFault r off n w = none) (le : k + j ≤ n) :
    s.accessFault r (off + BitVec.ofNat 16 k) j w = none := by
  by_cases cls : s.cls = .c286
  · cases pe : s.protectedMode with
    | false =>
      rw [accessFault_real cls pe] at can ⊢
      have wraps : (off + BitVec.ofNat 16 k).toNat = (off.toNat + k) % 65536 := by simp
      rw [wraps]
      simp only [ite_eq_right_iff, reduceCtorEq, imp_false] at can ⊢
      omega
    | true =>
      rw [accessFault_protected pe] at can ⊢
      cases outside : (s.seg r).outside off n with
      | true =>
        rw [outside, if_pos rfl] at can
        split at can <;> cases can
      | false => simpa only [outside, outside_part outside le] using can
  · exact accessFault_unchecked cls ..

/-! ## Stores one after another (20 R105, R106) -/

theorem segWrite8_of_access (h : s.accessFault r off 0 true = none) (v : Byte) :
    s.segWrite8 r off v = .ok (s.busWrite8 (s.segAddr r off) v) := by
  rw [State.segWrite8, checkAccess_eq_ok (u := ()).mpr h]
  rfl

/-- A word stored after other stores. -/
theorem KeepsFlags.segWrite16 (h : KeepsFlags s t dest stored) (can : s.accessFault r off 1 true = none) (v : Word) :
    ∃ u, t.segWrite16 r off v = .ok u ∧ KeepsFlags t u [] (s.storedWord r off) ∧ s.holdsWord u r off v := by
  obtain ⟨touches, holds⟩ := segPut16_spec t r off v
  refine ⟨_, segWrite16_of_access ((h.accessFault ..).trans can) v, ⟨?_, State.segPut16_triple ..⟩, ?_⟩
  · simpa only [State.storedWord, h.wordAddrs] using touches
  · simpa only [State.holdsWord, State.holdsByte, h.wordAddrs, h.kindAt] using holds

/-- A byte stored after other stores. -/
theorem KeepsFlags.segWrite8 (h : KeepsFlags s t dest stored) (can : s.accessFault r off 0 true = none) (v : Byte) :
    ∃ u, t.segWrite8 r off v = .ok u ∧ KeepsFlags t u [] [s.segAddr r off] ∧
      s.holdsByte u (s.segAddr r off) v := by
  refine ⟨_, segWrite8_of_access ((h.accessFault ..).trans can) v, ⟨?_, State.busWrite8_triple ..⟩, fun ram => ?_⟩
  · rw [h.segAddr]
    exact touches_busWrite8 t _ v
  · rw [h.segAddr]
    exact holdsByte_busWrite8 t _ v ((h.kindAt _).trans ram)

/-- What later stores leave alone is there when the instruction ends. -/
theorem KeepsFlags.latchTrap_read (h : KeepsFlags t u dest stored) {a : Nat} (out : a ∉ stored) :
    Memory.read (s.latchTrap u).mem a = Memory.read t.mem a := by
  rw [State.latchTrap_mem]
  exact h.memory a out

/-! ## Addresses at different offsets (20 R113) -/

/-- A word shares no byte with the byte at an offset before it or behind it. -/
theorem storedWord_ne_segAddr {x y : Word} (ne : x ≠ y) (above : x ≠ y + 1) (below : y ≠ x + 1) {a : Nat}
    (h : a ∈ s.storedWord r x) : a ≠ s.segAddr r y := by
  rintro rfl
  exact storedWord_disjoint ne above below h List.mem_cons_self

/-- Bytes at different offsets of a segment lie at different addresses. -/
theorem segAddr_ne {x y : Word} (ne : x ≠ y) : s.segAddr r x ≠ s.segAddr r y := by
  intro same
  have mx := segAddr_mod s r x
  have my := segAddr_mod s r y
  have := x.isLt
  have := y.isLt
  have : x.toNat ≠ y.toNat := fun e => ne (BitVec.eq_of_toNat_eq e)
  omega

/-! ## Table registers (R810, R811) -/

/-- The first word of an image shares no byte with what follows it. -/
theorem image_limit_apart {a : Nat} (h : a ∈ s.storedWord r off) :
    a ∉ s.storedWord r (off + 2) ++ [s.segAddr r (off + 4)] ++ [s.segAddr r (off + 5)] := by
  simp only [List.mem_append, List.mem_singleton, not_or]
  refine ⟨⟨storedWord_disjoint ?_ ?_ ?_ h, storedWord_ne_segAddr ?_ ?_ ?_ h⟩, storedWord_ne_segAddr ?_ ?_ ?_ h⟩ <;>
    bv_omega

/-- Nor does the second. -/
theorem image_base_apart {a : Nat} (h : a ∈ s.storedWord r (off + 2)) :
    a ∉ [s.segAddr r (off + 4)] ++ [s.segAddr r (off + 5)] := by
  simp only [List.mem_append, List.mem_singleton, not_or]
  refine ⟨storedWord_ne_segAddr ?_ ?_ ?_ h, storedWord_ne_segAddr ?_ ?_ ?_ h⟩ <;> bv_omega

/-- Nor do the last two bytes with each other. -/
theorem image_bytes_apart : s.segAddr r (off + 4) ∉ [s.segAddr r (off + 5)] := by
  rw [List.mem_singleton]
  exact segAddr_ne (by bv_omega)

theorem storeTable_done {m : MemRef} (can : s.accessFault (s.opSeg m) (s.ea m) 5 true = none) (g : TableReg) :
    ∃ t, s.finish (s.storeTable g m) = .next t ∧ s.holdsWord t (s.opSeg m) (s.ea m) g.limit ∧
      s.holdsWord t (s.opSeg m) (s.ea m + 2) (g.base.extractLsb' 0 16) ∧
      s.holdsByte t (s.segAddr (s.opSeg m) (s.ea m + 4)) (g.base.extractLsb' 16 8) ∧
      s.holdsByte t (s.segAddr (s.opSeg m) (s.ea m + 5)) 0xFF ∧ t.flags = s.flags ∧
      Frame s t [] (s.storedWord (s.opSeg m) (s.ea m) ++ s.storedWord (s.opSeg m) (s.ea m + 2) ++
        [s.segAddr (s.opSeg m) (s.ea m + 4), s.segAddr (s.opSeg m) (s.ea m + 5)]) := by
  have noted : KeepsFlags s ((s.noteEa (s.ea m)).noteWrite (s.ea m)) [] [] :=
    ⟨(touches_noteEa s _).trans (touches_noteWrite _ _), rfl⟩
  have limit_can : s.accessFault (s.opSeg m) (s.ea m) 1 true = none := by
    simpa using accessFault_part (k := 0) (j := 1) can (by decide)
  have low_can : s.accessFault (s.opSeg m) (s.ea m + 2) 1 true = none := accessFault_part can (by decide)
  have high_can : s.accessFault (s.opSeg m) (s.ea m + 4) 0 true = none := accessFault_part can (by decide)
  have last_can : s.accessFault (s.opSeg m) (s.ea m + 5) 0 true = none := accessFault_part can (by decide)
  obtain ⟨t₁, run₁, k₁, limit⟩ := noted.segWrite16 limit_can g.limit
  obtain ⟨t₂, run₂, k₂, low⟩ := (noted.trans k₁).segWrite16 low_can (g.base.extractLsb' 0 16)
  obtain ⟨t₃, run₃, k₃, high⟩ := ((noted.trans k₁).trans k₂).segWrite8 high_can (g.base.extractLsb' 16 8)
  obtain ⟨t₄, run₄, k₄, last⟩ := (((noted.trans k₁).trans k₂).trans k₃).segWrite8 last_can 0xFF
  have body : s.storeTable g m = .ok t₄ := by
    rw [State.storeTable, checkAccess_eq_ok (u := ()).mpr ((noted.accessFault ..).trans can), ok_bind, run₁, ok_bind,
      run₂, ok_bind, run₃, ok_bind, run₄]
  have all := (((noted.trans k₁).trans k₂).trans k₃).trans k₄
  exact ⟨s.latchTrap t₄, congrArg s.finish body,
    limit.of_mem fun _ at_limit => ((k₂.trans k₃).trans k₄).latchTrap_read (image_limit_apart at_limit),
    low.of_mem fun _ at_base => (k₃.trans k₄).latchTrap_read (image_base_apart at_base),
    fun ram => (k₄.latchTrap_read image_bytes_apart).trans (high ram),
    fun ram => ((KeepsFlags.refl t₄).latchTrap_read List.not_mem_nil).trans (last ram),
    (latchTrap_flags ..).trans all.flags, all.frame⟩

/-- Settles O53, by the checks of mode and privilege, which come first, and by what each store leaves. -/
theorem systemStoresAndPrivilege : Obligations.SystemStoresAndPrivilege := by
  refine ⟨⟨fun s i e v form => ⟨fun pe can => ?_, fun real => ?_⟩, fun s i m g form _ can => ?_⟩,
    fun s i e g real form => ?_, fun s i e m pe level form => ?_⟩
  · rcases form with ⟨rfl, rfl⟩ | ⟨rfl, rfl⟩ <;> exact writeEw_done can (checkProtected_bind pe _)
  · rcases form with ⟨rfl, rfl⟩ | ⟨rfl, rfl⟩ <;> exact (checkProtected_raises real _).traps rfl
  · rcases form with ⟨rfl, rfl⟩ | ⟨rfl, rfl⟩ <;> exact storeTable_done can _
  · simp only [List.mem_cons, List.not_mem_nil, or_false] at form
    rcases form with rfl | rfl | rfl | rfl | rfl | rfl | rfl | rfl | rfl <;>
      exact (checkProtected_raises real _).traps rfl
  · simp only [List.mem_cons, List.not_mem_nil, or_false] at form
    rcases form with rfl | rfl | form
    · exact (checkProtected_checkCpl0_raises pe level _).traps rfl
    · exact (checkProtected_checkCpl0_raises pe level _).traps rfl
    · rcases form with rfl | rfl | rfl | rfl <;> exact (checkCpl0_raises pe level _).traps rfl

end Sys2Proof.Machine
end

section
/-! System instructions that load a system register (47_protected_mode.md R806, R807, R812, R813): LGDT and LIDT, LMSW
and CLTS. -/

namespace Sys2Proof.Machine

variable {s u : State} {x : Res State} {r : SegReg} {off : Word} {stored : List Nat}

/-! ## Writing the system registers (10 R44 to R47) -/

theorem latchTrap_withSys (s t : State) (y : SysRegs) :
    { s.latchTrap t with sys := y } = s.latchTrap { t with sys := y } := by
  unfold State.latchTrap
  split <;> rfl

/-- An instruction that ends with a write of the system registers. -/
theorem KeepsFlags.setSys_done (h : KeepsFlags s u [] stored) {y : SysRegs} (body : x = .ok { u with sys := y }) :
    ∃ t, s.finish x = .next t ∧ t.sys = y ∧ t.mem = u.mem ∧ t.flags = s.flags ∧
      Frame s { t with sys := s.sys } [] stored := by
  refine ⟨_, congrArg s.finish body, State.latchTrap_sys .., State.latchTrap_mem .., ?_, ?_⟩
  · exact (latchTrap_flags ..).trans h.flags
  · rw [latchTrap_withSys, ← h.sys]
    exact h.frame

/-- An instruction that ends with a write of MSW. -/
theorem KeepsFlags.setMsw_done (h : KeepsFlags s u [] []) {w : Word}
    (body : x = .ok { u with sys := { u.sys with msw := w } }) :
    ∃ t, s.finish x = .next t ∧ t.sys.msw = w ∧ t.flags = s.flags ∧
      Frame s { t with sys := { t.sys with msw := s.sys.msw } } [] [] := by
  obtain ⟨t, run, sys, -, flags, frame⟩ := h.setSys_done body
  refine ⟨t, run, congrArg SysRegs.msw sys, flags, ?_⟩
  rw [sys, h.sys]
  exact frame

/-! ## LGDT and LIDT (R812, R813) -/

theorem segRead8_of_access (h : s.accessFault r off 0 false = none) :
    s.segRead8 r off = .ok (s.busRead8 (s.segAddr r off)) := by
  rw [State.segRead8, checkAccess_eq_ok (u := ()).mpr h]
  rfl

/-- The limit and the 24-bit base in the five bytes at a memory operand. -/
def State.tableAt (s : State) (m : MemRef) : TableReg where
  base  := ((s.afterPair m).busRead8 (s.segAddr (s.opSeg m) (s.ea m + 4))).1 ++ (s.valuePair m).2
  limit := (s.valuePair m).1

theorem readTable_ok {m : MemRef} (can : s.accessFault (s.opSeg m) (s.ea m) 4 false = none) :
    ∃ u, s.readTable m = .ok (s.tableAt m, u) ∧ KeepsFlags s u [] [] := by
  have noted := touches_noteEa s (s.ea m)
  have read := noted.trans (touches_segGet16 (s.noteEa (s.ea m)) (s.opSeg m) (s.ea m))
  have pair := keepsFlags_afterPair s m
  have limit : s.accessFault (s.opSeg m) (s.ea m) 1 false = none := by
    simpa using accessFault_part (k := 0) (j := 1) can (by decide)
  have low : s.accessFault (s.opSeg m) (s.ea m + 2) 1 false = none := accessFault_part can (by decide)
  have high : s.accessFault (s.opSeg m) (s.ea m + 4) 0 false = none := accessFault_part can (by decide)
  have last : (s.afterPair m).segRead8 (s.opSeg m) (s.ea m + 4) =
      .ok ((s.afterPair m).busRead8 (s.segAddr (s.opSeg m) (s.ea m + 4))) := by
    rw [segRead8_of_access ((pair.accessFault ..).trans high), pair.segAddr]
  refine ⟨_, ?_, pair.read ⟨touches_busRead8 _ (s.segAddr (s.opSeg m) (s.ea m + 4)), State.busRead8_triple ..⟩⟩
  rw [State.readTable, checkAccess_eq_ok (u := ()).mpr ((noted.accessFault ..).trans can), ok_bind,
    segRead16_of_access ((noted.accessFault ..).trans limit), ok_bind]
  dsimp only
  rw [segRead16_of_access ((read.accessFault ..).trans low), ok_bind, ← State.afterPair, last]
  simp only [State.tableAt, State.valuePair, (BusBlind.noteEa (s.ea m)).segGet16, ok_bind, pure_eq_ok]

/-- LGDT and LIDT: a table is read, and put into one of the system registers. -/
theorem loadTable_done {m : MemRef} (can : s.accessFault (s.opSeg m) (s.ea m) 4 false = none)
    (put : SysRegs → TableReg → SysRegs)
    (body : x = s.readTable m >>= fun p => .ok { p.2 with sys := put p.2.sys p.1 }) :
    ∃ t, s.finish x = .next t ∧ t.sys = put s.sys (s.tableAt m) ∧ t.flags = s.flags ∧
      Frame s { t with sys := s.sys } [] [] := by
  obtain ⟨u, read, keeps⟩ := readTable_ok can
  rw [read] at body
  obtain ⟨t, run, sys, -, flags, frame⟩ := keeps.setSys_done body
  exact ⟨t, run, by rw [sys, keeps.sys], flags, frame⟩

/-! ## Bits of MSW (R806, R807) -/

theorem lmswKept_getLsbD {k : Nat} (h : k < 16) : (0xFFF1 : Word).getLsbD k = decide (k = 0 ∨ 4 ≤ k) := by
  revert k
  decide

theorem lmswTaken_getLsbD {k : Nat} (h : k < 16) : (0x000F : Word).getLsbD k = decide (k < 4) := by
  revert k
  decide

theorem lmsw_getLsbD (w v : Word) (k : Nat) : ((w &&& 0xFFF1) ||| (v &&& 0x000F)).getLsbD k =
    (w.getLsbD k && decide (k = 0 ∨ 4 ≤ k) || v.getLsbD k && decide (k < 4)) := by
  rw [BitVec.getLsbD_or, BitVec.getLsbD_and, BitVec.getLsbD_and]
  by_cases h : k < 16
  · rw [lmswKept_getLsbD h, lmswTaken_getLsbD h]
  · have ge := Nat.le_of_not_lt h
    simp [BitVec.getLsbD_of_ge w k ge, BitVec.getLsbD_of_ge v k ge]

/-- CLTS clears bit 3. -/
theorem clts_eq_setBit (w : Word) : w &&& 0xFFF7 = setBit w 3 false := rfl

/-- LMSW writes MP, EM and TS, and can only set PE. -/
theorem lmsw_done {e : RM Reg16} (allowed : s.protectedMode = false ∨ s.sys.cpl = 0) (can : s.canReadEw e) :
    ∃ t, exec (.lmswEw e) s = .next t ∧
      t.sys.msw.getLsbD 0 = (s.sys.msw.getLsbD 0 || (s.valueEw e).getLsbD 0) ∧
      (∀ k, 1 ≤ k → k ≤ 3 → t.sys.msw.getLsbD k = (s.valueEw e).getLsbD k) ∧
      (∀ k, 4 ≤ k → t.sys.msw.getLsbD k = s.sys.msw.getLsbD k) ∧ t.flags = s.flags ∧
      Frame s { t with sys := { t.sys with msw := s.sys.msw } } [] [] := by
  have body : s.loadMsw e = .ok { s.afterEw e with sys := { (s.afterEw e).sys with
      msw := ((s.afterEw e).sys.msw &&& 0xFFF1) ||| (s.valueEw e &&& 0x000F) } } := by
    rw [State.loadMsw, checkCpl0_bind allowed, readEw_ok can]
    rfl
  obtain ⟨t, run, msw, flags, frame⟩ := (keepsFlags_afterEw s e).setMsw_done body
  rw [(keepsFlags_afterEw s e).sys] at msw
  have bit := fun k => (congrArg (BitVec.getLsbD · k) msw).trans (lmsw_getLsbD s.sys.msw (s.valueEw e) k)
  refine ⟨t, run, (bit 0).trans (by simp), fun k lo hi => (bit k).trans ?_, fun k lo => (bit k).trans ?_, flags, frame⟩
  · rw [decide_eq_false (by omega), decide_eq_true (by omega), Bool.and_false, Bool.false_or, Bool.and_true]
  · rw [decide_eq_true (.inr lo), decide_eq_false (by omega), Bool.and_false, Bool.or_false, Bool.and_true]

theorem clts_done (allowed : s.protectedMode = false ∨ s.sys.cpl = 0) :
    ∃ t, exec .clts s = .next t ∧ t.sys.msw.getLsbD 3 = false ∧
      (∀ k, k ≠ 3 → t.sys.msw.getLsbD k = s.sys.msw.getLsbD k) ∧ t.flags = s.flags ∧
      Frame s { t with sys := { t.sys with msw := s.sys.msw } } [] [] := by
  have body : s.clearTs = .ok { s with sys := { s.sys with msw := setBit s.sys.msw 3 false } } := by
    rw [← clts_eq_setBit]
    exact checkCpl0_bind allowed _
  obtain ⟨t, run, msw, flags, frame⟩ := (KeepsFlags.refl s).setMsw_done body
  have bit := fun k => (congrArg (BitVec.getLsbD · k) msw).trans (getLsbD_setBit_eq s.sys.msw (by decide) false k)
  exact ⟨t, run, bit 3, fun k ne => (bit k).trans (if_neg ne), flags, frame⟩

/-- Settles O54, by the register that each writes, and MSW bit by bit. -/
theorem systemLoads : Obligations.SystemLoads := by
  refine fun s _ allowed => ⟨fun m r can image => ?_, fun e => lmsw_done allowed, clts_done allowed⟩
  subst image
  exact ⟨loadTable_done can (fun sys g => { sys with gdtr := g }) (checkCpl0_bind allowed _),
    loadTable_done can (fun sys g => { sys with idtr := g }) (checkCpl0_bind allowed _)⟩

end Sys2Proof.Machine
end

section
/-! The loads of LDTR and TR (47_protected_mode.md R803, R804; 20_memory.md R128): the checks that LLDT and LTR share,
and what each loads. -/

namespace Sys2Proof.Machine

variable {s w : State} {e : RM Reg16} {sel : Word} {ty : BitVec 4} {load : Desc → State → State}

/-- What LLDT and LTR do with a selector that is not null: an entry of the GDT, of a type, present, is loaded. -/
def State.systemFrom (s : State) (sel : Word) (ty : BitVec 4) (load : Desc → State → State) : Res State := do
  raiseIf (sel.getLsbD 2) s (.gp (errSel sel))
  let (d, s) ← s.fetchDesc sel
  raiseIf (!d.isSystem ty) s (.gp (errSel sel))
  raiseIf (!d.present) s (.np (errSel sel))
  return load d s

/-- The load of LDTR (R803). -/
def State.putLdtr (sel : Word) (d : Desc) (s : State) : State :=
  { s with sys := { s.sys with ldtr := d.sysSeg sel d.access } }

/-- The load of TR, whose TSS is marked busy in memory (R804). -/
def State.putTr (sel : Word) (d : Desc) (s : State) : State :=
  let t := s.putAccess sel (d.access ||| 2)
  { t with sys := { t.sys with tr := d.sysSeg sel (d.access ||| 2) } }

/-! ## The checks (R803, R804) -/

section
variable (table : sel.getLsbD 2 = false) (inside : s.inTable sel = true)
include table inside

/-- An entry of the GDT: its descriptor is read, and its type and presence decide. -/
theorem systemFrom_read : ∃ w, KeepsFlags s w [] [] ∧ s.systemFrom sel ty load =
    (checked w (s.descOf sel) (!(s.descOf sel).isSystem ty) false (.gp (errSel sel)) (.np (errSel sel)) >>= fun p =>
      .ok (load p.1 p.2)) := by
  obtain ⟨w, fetched, keeps, -⟩ := fetchDescOr_read inside (.gp (errSel sel))
  refine ⟨w, keeps, ?_⟩
  rw [State.systemFrom, raiseIf_bind table, State.fetchDesc, fetched, ok_bind, checked]
  simp only [bind_assoc, raiseIf_false, ok_bind, pure_eq_ok]

theorem systemFrom_absent (type : (s.descOf sel).isSystem ty = true) (absent : (s.descOf sel).present = false) :
    Raises (s.systemFrom sel ty load) (.np (errSel sel)) := by
  obtain ⟨w, -, body⟩ := systemFrom_read (ty := ty) (load := load) table inside
  rw [body]
  exact (checked_absent _ _ w (by rw [type]; rfl) rfl absent).bind _

theorem systemFrom_ok (type : (s.descOf sel).isSystem ty = true) (present : (s.descOf sel).present = true) :
    ∃ w, s.systemFrom sel ty load = .ok (load (s.descOf sel) w) ∧ KeepsFlags s w [] [] := by
  obtain ⟨w, keeps, body⟩ := systemFrom_read (ty := ty) (load := load) table inside
  refine ⟨w, ?_, keeps⟩
  rw [body, checked_ok _ _ w (by rw [type]; rfl) rfl present]
  rfl

end

/-- No entry of the GDT, or an entry of another type. -/
theorem systemFrom_bad (bad : sel.getLsbD 2 = true ∨ s.inTable sel = false ∨ (s.descOf sel).isSystem ty = false) :
    Raises (s.systemFrom sel ty load) (.gp (errSel sel)) := by
  cases table : sel.getLsbD 2 with
  | true => exact raises_raiseIf table _ _ _
  | false =>
    cases inside : s.inTable sel with
    | false =>
      rw [State.systemFrom, raiseIf_bind table]
      exact (fetchDescOr_raises inside _).bind _
    | true =>
      obtain ⟨w, -, body⟩ := systemFrom_read (ty := ty) (load := load) table inside
      have type := (bad.resolve_left (ne_true_of_eq_false table)).resolve_left (ne_false_of_eq_true inside)
      rw [body]
      exact (checked_bad _ _ w _ (.inl (by rw [type]; rfl))).bind _

/-! ## The instructions (R803, R804) -/

section
variable (pe : s.protectedMode = true) (level : s.sys.cpl = 0) (can : s.canReadEw e)
include pe level can

theorem loadLdtr_null (null : s.isNull (s.valueEw e) = true) : s.loadLdtr e = .ok { s.afterEw e with
    sys := { (s.afterEw e).sys with ldtr := { (s.afterEw e).sys.ldtr with selector := s.valueEw e } } } := by
  rw [State.loadLdtr, checkProtected_bind pe, checkCpl0_bind (.inr level), readEw_ok can, ok_bind]
  exact if_pos (((touches_afterEw s e).isNull _).trans null)

theorem loadLdtr_named (named : s.isNull (s.valueEw e) = false) :
    s.loadLdtr e = (s.afterEw e).systemFrom (s.valueEw e) 2 (State.putLdtr (s.valueEw e)) := by
  rw [State.loadLdtr, checkProtected_bind pe, checkCpl0_bind (.inr level), readEw_ok can, ok_bind]
  exact if_neg (ne_true_of_eq_false (((touches_afterEw s e).isNull _).trans named))

theorem loadTr_null (null : s.isNull (s.valueEw e) = true) : Raises (s.loadTr e) (.gp 0) := by
  rw [State.loadTr, checkProtected_bind pe, checkCpl0_bind (.inr level), readEw_ok can, ok_bind]
  exact raises_raiseIf (((touches_afterEw s e).isNull _).trans null) _ _ _

theorem loadTr_named (named : s.isNull (s.valueEw e) = false) :
    s.loadTr e = (s.afterEw e).systemFrom (s.valueEw e) 1 (State.putTr (s.valueEw e)) := by
  rw [State.loadTr, checkProtected_bind pe, checkCpl0_bind (.inr level), readEw_ok can, ok_bind]
  exact raiseIf_bind (((touches_afterEw s e).isNull _).trans named) _ _ _

/-- Which load an instruction is, by the type of descriptor that it loads. -/
theorem systemLoad_exec (named : s.isNull (s.valueEw e) = false) {i : Instr}
    (form : (i = .lldtEw e ∧ ty = 2) ∨ (i = .ltrEw e ∧ ty = 1)) :
    ∃ load, exec i s = s.finish ((s.afterEw e).systemFrom (s.valueEw e) ty load) := by
  rcases form with ⟨rfl, rfl⟩ | ⟨rfl, rfl⟩
  · exact ⟨_, congrArg s.finish (loadLdtr_named pe level can named)⟩
  · exact ⟨_, congrArg s.finish (loadTr_named pe level can named)⟩

end

/-! ## What is loaded (R803, R804) -/

theorem KeepsFlags.putLdtr_done (h : KeepsFlags s w [] []) {x : Res State} {d : Desc}
    (body : x = .ok (State.putLdtr sel d w)) :
    ∃ t, s.finish x = .next t ∧
      t.sys = { s.sys with ldtr := { selector := sel, base := d.base, limit := d.lo, access := d.access } } ∧
      t.flags = s.flags ∧ Frame s { t with sys := s.sys } [] [] := by
  obtain ⟨t, run, sys, -, flags, frame⟩ := h.setSys_done body
  exact ⟨t, run, by rw [sys, h.sys]; rfl, flags, frame⟩

theorem KeepsFlags.putTr_done (h : KeepsFlags s w [] []) {x : Res State} {d : Desc}
    (body : x = .ok (State.putTr sel d w)) :
    ∃ t, s.finish x = .next t ∧
      t.sys = { s.sys with tr := { selector := sel, base := d.base, limit := d.lo, access := d.access ||| 2 } } ∧
      s.holdsByte t (s.accessAddr sel) (d.access ||| 2) ∧ t.flags = s.flags ∧
      Frame s { t with sys := s.sys } [] [s.accessAddr sel] := by
  have put : KeepsFlags w (w.putAccess sel (d.access ||| 2)) [] [s.accessAddr sel] := by
    rw [← h.accessAddr]
    exact ⟨touches_busWrite8 w _ _, State.busWrite8_triple ..⟩
  obtain ⟨t, run, sys, mem, flags, frame⟩ := (h.trans put).setSys_done body
  refine ⟨t, run, by rw [sys, put.sys, h.sys]; rfl, fun ram => ?_, flags, frame⟩
  rw [mem, ← h.accessAddr]
  exact holdsByte_busWrite8 w _ _ (by rwa [← State.accessAddr, h.kindAt, h.accessAddr])

/-- Settles O55, by the checks of the selector in their order and by what each load writes. -/
theorem descriptorTableLoads : Obligations.DescriptorTableLoads := by
  rintro s v e sel d pe level can rfl rfl rfl
  have read := keepsFlags_afterEw s e
  refine ⟨fun null => ⟨?_, (loadTr_null pe level can null).traps rfl⟩, fun named i ty form => ?_,
    fun named table inside present => ⟨fun ldt => ?_, fun tss => ?_⟩⟩
  · obtain ⟨t, run, sys, -, flags, frame⟩ := read.setSys_done (loadLdtr_null pe level can null)
    exact ⟨t, run, by rw [sys, read.sys], flags, frame⟩
  · obtain ⟨load, run⟩ := systemLoad_exec pe level can named form
    rw [← read.inTable]
    exact ⟨fun bad => (systemFrom_bad bad).traps run,
      fun table inside type absent => (systemFrom_absent table inside type absent).traps run⟩
  · obtain ⟨w, body, keeps⟩ := systemFrom_ok table ((read.inTable _).trans inside) ldt present
    exact (read.read keeps).putLdtr_done ((loadLdtr_named pe level can named).trans body)
  · obtain ⟨w, body, keeps⟩ := systemFrom_ok table ((read.inTable _).trans inside) tss present
    exact (read.read keeps).putTr_done ((loadTr_named pe level can named).trans body)

end Sys2Proof.Machine
end

section
/-! The queries of a selector (47_protected_mode.md R808, R809, R814 to R817): a lookup that raises nothing decides ZF,
and ARPL, which compares two RPLs. -/

namespace Sys2Proof.Machine

variable {s t u : State} {x : Res State} {e : RM Reg16} {g : Reg16} {sel : Word} {d : Desc} {dest : List Reg16}
  {stored : List Nat}

/-! ## Setting ZF (10 R37) -/

@[simp] theorem setZf_flags (s : State) (z : Bool) : (s.setZf z).flags = { s.flags with zf := z } :=
  setFlags_flags ..

theorem latchTrap_setZf (s t : State) (z : Bool) : s.latchTrap (t.setZf z) = (s.latchTrap t).setZf z := by
  unfold State.latchTrap
  split <;> rfl

theorem Frame.setZf (h : Frame s t dest stored) (z : Bool) : Frame s (t.setZf z) dest stored := { h with }

theorem holdsEw_setZf {v : Word} (h : s.holdsEw t v e) (z : Bool) : s.holdsEw (t.setZf z) v e := by
  cases e <;> exact h

/-- An instruction that ends by setting ZF. -/
theorem KeepsFlags.setZf_done (h : KeepsFlags s u dest stored) {z : Bool} (body : x = .ok (u.setZf z)) :
    ∃ t, s.finish x = .next t ∧ t.flags = { s.flags with zf := z } ∧ t.regs = u.regs ∧ Frame s t dest stored := by
  refine ⟨_, congrArg s.finish body, ?_, State.latchTrap_regs .., ?_⟩
  · rw [latchTrap_flags, setZf_flags, h.flags]
  · rw [latchTrap_setZf]
    exact h.frame.setZf z

/-! ## The lookup (R817) -/

/-- The selector names an entry of its table. -/
def State.names (s : State) (sel : Word) : Bool := !s.isNull sel && s.inTable sel

theorem Touches.names (h : Touches s t dest stored) (sel : Word) : t.names sel = s.names sel := by
  rw [State.names, h.isNull, h.inTable, State.names]

theorem not_names (s : State) (sel : Word) : (s.isNull sel || !s.inTable sel) = !s.names sel := by
  rw [State.names, Bool.not_and, Bool.not_not]

theorem lookup_named (named : s.names sel = true) :
    s.lookup sel = (some (s.descOf sel), (s.readDesc (s.descAddr sel)).2) := by
  rw [State.lookup, not_names, named]
  rfl

theorem lookup_unnamed (unnamed : s.names sel = false) : s.lookup sel = (none, s) := by
  rw [State.lookup, not_names, unnamed]
  rfl

theorem Touches.mayQuery (h : Touches s t [] []) (sel : Word) (d : Desc) : t.mayQuery sel d = s.mayQuery sel d := by
  rw [State.mayQuery, h.effPl, State.mayQuery]

section
variable (pe : s.protectedMode = true) (can : s.canReadEw e) (desc : d = (s.afterEw e).descOf (s.valueEw e))
include pe can desc

/-! ## VERR and VERW (R808, R809) -/

theorem verify_done (ok : Desc → Bool) :
    ∃ t, s.finish (s.verify ok e) = .next t ∧
      t.flags = { s.flags with zf := s.names (s.valueEw e) && ok d && s.mayQuery (s.valueEw e) d } ∧
      Frame s t [] [] := by
  have read := keepsFlags_afterEw s e
  rw [State.verify, checkProtected_bind pe, readEw_ok can, ok_bind]
  dsimp only
  rw [← read.names, desc]
  cases named : (s.afterEw e).names (s.valueEw e) with
  | false =>
    rw [lookup_unnamed named]
    obtain ⟨t, run, flags, -, frame⟩ := read.setZf_done rfl
    exact ⟨t, run, flags, frame⟩
  | true =>
    have looked := read.read (keepsFlags_readDesc _ ((s.afterEw e).descAddr (s.valueEw e)))
    rw [lookup_named named, ← looked.mayQuery]
    obtain ⟨t, run, flags, -, frame⟩ := looked.setZf_done rfl
    exact ⟨t, run, flags, frame⟩

/-! ## LAR and LSL (R814, R815) -/

theorem accessQuery_done (types : Desc → Bool) (value : Desc → Word) {ok : Bool}
    (allowed : ok = (s.names (s.valueEw e) && s.mayQuery (s.valueEw e) d && types d)) :
    ∃ t, s.finish (s.accessQuery types value g e) = .next t ∧ t.flags = { s.flags with zf := ok } ∧
      t.reg g = (if ok then value d else s.reg g) ∧ Frame s t [g] [] := by
  have read := keepsFlags_afterEw s e
  have mayWrite {u : State} (h : KeepsFlags s u [] []) : KeepsFlags s u [g] [] :=
    h.mono (List.nil_subset _) (List.Subset.refl _)
  have refused {u : State} (h : KeepsFlags s u [] []) :
      ∃ t, s.finish (.ok (u.setZf false)) = .next t ∧ t.flags = { s.flags with zf := false } ∧
        t.reg g = s.reg g ∧ Frame s t [g] [] := by
    obtain ⟨t, run, flags, regs, frame⟩ := (mayWrite h).setZf_done rfl
    exact ⟨t, run, flags, (congrArg (Regs.get · g) regs).trans (h.reg g), frame⟩
  subst allowed
  rw [State.accessQuery, checkProtected_bind pe, readEw_ok can, ok_bind]
  dsimp only
  rw [← read.names, desc]
  cases named : (s.afterEw e).names (s.valueEw e) with
  | false =>
    rw [lookup_unnamed named]
    exact refused read
  | true =>
    have looked := read.read (keepsFlags_readDesc _ ((s.afterEw e).descAddr (s.valueEw e)))
    rw [lookup_named named, ← looked.mayQuery, Bool.true_and, Bool.and_comm]
    dsimp only
    cases types ((s.afterEw e).descOf (s.valueEw e)) && State.mayQuery _ _ ((s.afterEw e).descOf (s.valueEw e)) with
    | false => exact refused looked
    | true =>
      obtain ⟨t, run, flags, regs, frame⟩ :=
        ((mayWrite looked).setReg (List.mem_singleton_self g) _).setZf_done rfl
      exact ⟨t, run, flags, (congrArg (Regs.get · g) regs).trans (reg_setReg_same ..), frame⟩

end

/-! ## ARPL (R816) -/

theorem rpl_toNat (sel : Word) : (rpl sel).toNat = sel.toNat % 4 := by
  simp [rpl]

theorem rpl_setWidth (sel : Word) : (rpl sel).setWidth 16 = sel &&& 3 := by
  refine BitVec.eq_of_toNat_eq ?_
  rw [BitVec.toNat_setWidth, rpl_toNat, BitVec.toNat_and, show (3 : Word).toNat = 2 ^ 2 - 1 from rfl,
    Nat.and_two_pow_sub_one_eq_mod]
  omega

section
variable (pe : s.protectedMode = true) (read : s.canReadEw e) (write : s.canWriteEw e)
include pe read write

/-- The RPL is raised. -/
theorem arpl_raised (low : (s.valueEw e).toNat % 4 < (s.reg g).toNat % 4) :
    ∃ t, exec (.arplEwGw e g) s = .next t ∧ s.holdsEw t ((s.valueEw e &&& 0xFFFC) ||| (s.reg g &&& 3)) e ∧
      t.flags = { s.flags with zf := true } ∧ Frame s t (destEw e) (s.storedEw e) := by
  have keeps := keepsFlags_afterEw s e
  obtain ⟨t, run, triple, holds, frame⟩ :=
    writeEw_stored ((s.valueEw e &&& 0xFFFC) ||| (s.reg g &&& 3)) keeps.toTouches write
  have body : s.adjustRpl e g = .ok (t.setZf true) := by
    rw [State.adjustRpl, checkProtected_bind pe, readEw_ok read, ok_bind]
    dsimp only
    rw [if_pos (by rwa [rpl_toNat, rpl_toNat]), rpl_setWidth, errSel, run]
    rfl
  refine ⟨s.latchTrap (t.setZf true), congrArg s.finish body, ?_, ?_, ?_⟩
  · rw [latchTrap_setZf]
    exact holdsEw_setZf holds true
  · rw [latchTrap_flags, setZf_flags, flags_of_triple triple, keeps.flags]
  · rw [latchTrap_setZf]
    exact frame.setZf true

/-- The RPL is high enough. -/
theorem arpl_kept (high : (s.reg g).toNat % 4 ≤ (s.valueEw e).toNat % 4) :
    ∃ t, exec (.arplEwGw e g) s = .next t ∧ t.flags = { s.flags with zf := false } ∧ Frame s t [] [] := by
  have keeps := keepsFlags_afterEw s e
  have body : s.adjustRpl e g = .ok ((s.afterEw e).setZf false) := by
    rw [State.adjustRpl, checkProtected_bind pe, readEw_ok read, ok_bind]
    dsimp only
    rw [if_neg (by rw [rpl_toNat, rpl_toNat]; exact Nat.not_lt.mpr high)]
    cases e with
    | reg r => rfl
    | mem m =>
      have can : (s.afterEw (.mem m)).accessFault ((s.afterEw (.mem m)).opSeg m) ((s.afterEw (.mem m)).ea m) 1 true =
          none := by
        rw [keeps.accessFault, keeps.opSeg, keeps.ea]
        exact write
      dsimp only
      rw [checkAccess_eq_ok (u := ()).mpr can]
      rfl
  obtain ⟨t, run, flags, -, frame⟩ := keeps.setZf_done body
  exact ⟨t, run, flags, frame⟩

end

/-- Settles O56, by what the lookup answers and by the two RPLs that ARPL compares. -/
theorem selectorQueries : Obligations.SelectorQueries := by
  refine ⟨?_, fun s e g pe read write => ⟨arpl_raised pe read write, arpl_kept pe read write⟩⟩
  rintro s v e g sel d found mayUse pe can rfl rfl desc rfl rfl
  constructor
  · rintro i ok (⟨rfl, rfl⟩ | ⟨rfl, rfl⟩) <;> exact verify_done pe can desc _
  · rintro i last value ok (⟨rfl, rfl, rfl⟩ | ⟨rfl, rfl, rfl⟩) allowed
    · exact accessQuery_done pe can desc larTypes (fun d => mkWord 0 d.access) allowed
    · exact accessQuery_done pe can desc lslTypes (fun d => d.lo) allowed

end Sys2Proof.Machine
end
